-- ==== Sys2Proof/Word.lean ====
section
/-! DEFINITION. The word types of the device: bytes, window numbers, identifiers, and text as its characters. -/

namespace Sys2Proof

/-- One byte of a frame or of a reader message (R173). -/
abbrev Byte := BitVec 8

/-- A text field as its character bytes. State holds only normalised text (00, "Text fields"). -/
abbrev Text := List Byte

/-- A window number, 0 to 255, rolling over from 255 to 0 (00, "Gate time"). -/
abbrev Window := BitVec 8

/-- A station identifier, 0 to 31 (00, "Station identifiers"). -/
abbrev LaneId := BitVec 5

/-- A visit number, 0 to 65535 (R21). -/
abbrev VisitNumber := BitVec 16

end Sys2Proof
end

