-- ==== Sys2Proof/Syntax.lean ====
section
/-! DEFINITION. The commands of the device: one constructor of `Instr` per row of spec/opcode_table.json, with the data
the event brings. Commands that name a frame kind carry no data: the frame stands in the receive buffers (R170, log 7). -/

namespace Sys2Proof

/-- The six input lines whose levels the Lane Line Unit watches (01, section 1.1). -/
inductive Line
  | loopA | loopP | loopS | loopX | scan | barUp
deriving DecidableEq, Repr

/-- The three reader channels, 1 to 3 (03, section 3.1). -/
inductive Channel
  | plateReader | codeReader | sealReader
deriving DecidableEq, Repr

/-- The bit rates the straps can give (R162, R174). -/
inductive BitRate
  | k125 | k250 | k500 | k1000
deriving DecidableEq, Repr

/-- The strap inputs: lane identifier 0 to 31 and bit rate (R174). -/
structure Straps where
  lane : LaneId
  rate : BitRate
deriving DecidableEq, Repr

/-- The commands. The toggle of a report or answer is true for 1. -/
inductive Instr
  /-- POWER_ON: supply comes up with RESET_N at the level `resetHigh` and the straps wired as `straps`. -/
  | powerOn (resetHigh : Bool) (straps : Straps)
  /-- RESET_N_FALL: RESET_N goes low. -/
  | resetNFall
  /-- LINE_RESET: RESET_N has stayed low for 10 ms. -/
  | lineReset
  /-- RESET_N_RELEASE: RESET_N returns high; `straps` is what the strap inputs then carry. -/
  | resetNRelease (straps : Straps)
  /-- LINE_LEVEL_CHANGE: the pin of `line` takes the level `high`. -/
  | lineLevelChange (line : Line) (high : Bool)
  /-- DEBOUNCE_EXPIRY: the debounce timer of `line` runs out. -/
  | debounceExpiry (line : Line)
  /-- WINDOW_ROLL: the tenths reach the window length. -/
  | windowRoll
  /-- TIME: the Gate Clock takes the buffered TIME frame. -/
  | timeFrame
  /-- OPEN: the Visit Engine takes the buffered OPEN frame. -/
  | openFrame
  /-- CLOSE: the Visit Engine takes the buffered CLOSE frame. -/
  | closeFrame
  /-- HOLD_TIMEOUT_EXPIRY: the hold timeout of visit `n` runs out. -/
  | holdTimeoutExpiry (n : VisitNumber)
  /-- RELEASE: the Visit Engine takes the buffered RELEASE frame. -/
  | releaseFrame
  /-- REFUSE: the Visit Engine takes the buffered REFUSE frame. -/
  | refuseFrame
  /-- EXIT_CHECK_EXPIRY: the exit check of visit `n` runs out. -/
  | exitCheckExpiry (n : VisitNumber)
  /-- PLATE: a PLATE report on channel 1, text and confidence as received. -/
  | plateReport (toggle : Bool) (text : List Byte) (confidence : Byte)
  /-- CODE: a CODE report on channel 2, position code, text and size class as received (FFh absent). -/
  | codeReport (toggle : Bool) (position : Byte) (text : List Byte) (size : Byte)
  /-- SEAL: a SEAL report on channel 3, position, seal kind, electronic state (00h absent) and text as received. -/
  | sealReport (toggle : Bool) (position kind electronic : Byte) (text : List Byte)
  /-- HELLO: the reader of channel `ch` has restarted. -/
  | helloReport (ch : Channel)
  /-- MALFORMED_REPORT: the bytes `msg` arrive as a report on channel `ch`. -/
  | malformedReport (ch : Channel) (msg : List Byte)
  /-- HOLDING_BUFFER_EXPIRY: the 3 s expiry of channel `ch`'s holding buffer runs out. -/
  | holdingBufferExpiry (ch : Channel)
  /-- DISPLAY_ACCEPT: the display answers ACCEPT, echoing `toggle`. -/
  | displayAccept (toggle : Bool)
  /-- DISPLAY_BUSY: the display answers BUSY, echoing `toggle`. -/
  | displayBusy (toggle : Bool)
  /-- DISPLAY_REJECT: the display answers REJECT, echoing `toggle`. -/
  | displayReject (toggle : Bool)
  /-- DISPLAY_UNUSABLE_ANSWER: the byte `b` arrives from the display. -/
  | displayUnusableAnswer (b : Byte)
  /-- ANSWER_WAIT_EXPIRY: the 200 ms answer wait runs out. -/
  | answerWaitExpiry
  /-- RETRY_WAIT_EXPIRY: the 200 ms retry wait runs out. -/
  | retryWaitExpiry
  /-- DISPLAY_HELLO: the display has restarted. -/
  | displayHello
  /-- BLOCK_NOTE: the Yard Routing Unit takes the buffered BLOCK_NOTE frame. -/
  | blockNoteFrame
  /-- UP_CHECK_EXPIRY: the 4 s up check runs out. -/
  | upCheckExpiry
  /-- SETTLE_TIME_EXPIRY: the 4 s settle time runs out. -/
  | settleTimeExpiry
  /-- BOOKING: the Booking Store takes the buffered BOOKING frame. -/
  | bookingFrame
  /-- BOOKING_CANCEL: the Booking Store takes the buffered BOOKING_CANCEL frame. -/
  | bookingCancelFrame
  /-- CLAIM: the Booking Store takes the buffered CLAIM frame. -/
  | claimFrame
  /-- CLAIM_END: the Booking Store takes the buffered CLAIM_END frame. -/
  | claimEndFrame
  /-- LOAN_ASK: the Capacity Unit takes the buffered LOAN_ASK frame. -/
  | loanAskFrame
  /-- LOAN_OFFER: the Capacity Unit takes the buffered LOAN_OFFER frame. -/
  | loanOfferFrame
  /-- LOAN_TAKE: the Capacity Unit takes the buffered LOAN_TAKE frame. -/
  | loanTakeFrame
  /-- LOAN_CONFIRM: the Capacity Unit takes the buffered LOAN_CONFIRM frame. -/
  | loanConfirmFrame
  /-- LOAN_VOID: the Capacity Unit takes the buffered LOAN_VOID frame. -/
  | loanVoidFrame
  /-- LOAN_DECLINE: the Capacity Unit takes the buffered LOAN_DECLINE frame. -/
  | loanDeclineFrame
  /-- ASK_DEADLINE_EXPIRY: the 1.5 s deadline of the open Ask runs out. -/
  | askDeadlineExpiry
  /-- OFFER_EXPIRY: the 1.0 s expiry of the oldest Offer runs out. -/
  | offerExpiry
  /-- PEER_SILENCE_EXPIRY: the 5 s peer-silence timer runs out. -/
  | peerSilenceExpiry
  /-- CONVERTER_SAMPLE: the converter takes a sample of raw code `raw`, 0 to 4095. -/
  | converterSample (raw : BitVec 12)
  /-- ALERT_CLEAR: the Outcome and Alert Unit takes the buffered ALERT_CLEAR frame. -/
  | alertClearFrame
  /-- COUNTERS_FETCH: the Outcome and Alert Unit takes the buffered COUNTERS_FETCH frame. -/
  | countersFetchFrame
  /-- ID_CLASH_TIMER_EXPIRY: the 60 s clash timer runs out. -/
  | idClashTimerExpiry
  /-- FRAME_RECEIVED: the reception of a frame ends, with the bytes read until the bus fell idle; `stopFault` when a
  stop bit read dominant. -/
  | frameReceived (stopFault : Bool) (bytes : List Byte)
  /-- OFFICE_SILENCE_EXPIRY: the 5 s office-silence timer runs out. -/
  | officeSilenceExpiry
  /-- TX_START: the bus is idle. -/
  | txStart
  /-- CONTENTION_LOST: contention is lost to the frame of these bytes (as FRAME_RECEIVED gives them). -/
  | contentionLost (stopFault : Bool) (bytes : List Byte)
  /-- FRAME_SENT: the last CRC bit of the frame in transmission has gone out. -/
  | frameSent
  /-- CONFIG: Start Control takes the buffered CONFIG frame. -/
  | configFrame
  /-- RESET_REQ: Start Control takes the buffered RESET_REQ frame; `straps` is what the strap inputs then carry. -/
  | resetReqFrame (straps : Straps)
  /-- RESET_REQ_TIMER_EXPIRY: the 2 s reset-request timer runs out. -/
  | resetReqTimerExpiry
  /-- TENTHS_RISE: a tenth of a second of interval time has passed. -/
  | tenthsRise
deriving DecidableEq, Repr

end Sys2Proof
end

