-- ==== Sys2Proof/Machine/State.lean ====
section
/-! DEFINITION. The state of the device, block by block as 00 lays it out, and the state after reset. All of it is plain
data. The visit records, tables and queues are lists; the bounds the rules give them are invariants. -/

namespace Sys2Proof.Machine

/-- The device raises no fault: every event has an effect or is ignored, and what goes wrong is an alert flag, a counter
or a refused answer, which are state. The type is empty, so no step can answer a fault (safe). -/
inductive Fault
deriving DecidableEq, Repr

/-- Why a command has no meaning in the model. -/
inductive Refusal
  /-- Raised by `exec` alone, for a row not modelled. Safe: the model stops. No arm raises it now. -/
  | notModelled (mnemonic : String)
deriving DecidableEq, Repr

/-! ### Shared shapes -/

/-- An interval-time timer: stopped, or running since it was started with a duration in milliseconds. The passing of
interval time is not counted: the expiry is a command (log 3). -/
inductive Timer
  | stopped
  | running (ms : Nat)
deriving DecidableEq, Repr

/-- A point of gate time: window and tenths (00, "Gate time"). -/
structure GatePoint where
  window : Window
  tenths : Nat
deriving DecidableEq, Repr

/-- One value for each of the six input lines. -/
structure LineSet (α : Type) where
  loopA : α
  loopP : α
  loopS : α
  loopX : α
  scan : α
  barUp : α
deriving DecidableEq, Repr

/-! ### Configuration (11) -/

/-- A line polarity (R1). -/
inductive Polarity
  | activeHigh | activeLow
deriving DecidableEq, Repr

/-- The GENERAL part after clamping (R178). -/
structure General where
  windowMinutes : Nat
  graceEarly : Nat
  graceLate : Nat
  shares : List Nat
  reserve : Nat
  plateThreshold : Nat
  holdMinutes : Nat
  polarity : LineSet Polarity
  debounceMs : Nat
  alertMask : BitVec 16
  samplesPerReading : Nat
  bandMinor : Nat
  bandMajor : Nat
  hardLimit : Nat
deriving DecidableEq, Repr

/-- One entry of the Zone Table (R111). -/
structure Zone where
  enabled : Bool
  offset : Nat
  tolerance : Nat
  weight : Nat
deriving DecidableEq, Repr

/-- The kind of a yard block (R132). -/
inductive BlockKind
  | stack | inspection | buffer | overflow
deriving DecidableEq, Repr

/-- One entry of the Block Table (R132). -/
structure BlockEntry where
  ident : Text
  kind : BlockKind
  cap : Nat
  count : Nat
deriving DecidableEq, Repr

/-- The configuration being assembled: each part held or not (R177). -/
structure Assembly where
  general : Option General
  zones : Option (List Zone)
  profilesA : Option (List (List Nat))
  profilesB : Option (List (List Nat))
  blocks : Option (List BlockEntry)
deriving DecidableEq, Repr

/-- The configuration in force once fixed (R179). The Block Table goes to the Yard Routing Unit, which counts in it. -/
structure LaneConfig where
  general : General
  zones : List Zone
  profiles : List (List Nat)
deriving DecidableEq, Repr

/-! ### Start Control (11) -/

/-- Whether the device is held in reset or runs (R6). -/
inductive Phase
  | held | running
deriving DecidableEq, Repr

/-- The reset cause (R175). -/
inductive ResetCause
  | power | line | request
deriving DecidableEq, Repr

/-- Start Control. `config` being present is the fixed mark. -/
structure StartControl where
  phase : Phase
  resetPin : Bool
  resetQual : Timer
  straps : Option Straps
  strapFault : Bool
  cause : ResetCause
  placesLost : Nat
  placesUnknown : Bool
  assembly : Assembly
  config : Option LaneConfig
  resetPending : Bool
  resetReqTimer : Timer
deriving DecidableEq, Repr

/-! ### Lane Line Unit (01) -/

/-- The Lane Line Unit. A pin is true when high; a debounced level is true when asserted; RAISE is true when high. -/
structure LineUnit where
  pins : LineSet Bool
  debounced : Option (LineSet Bool)
  timers : LineSet Timer
  raiseOut : Bool
deriving DecidableEq, Repr

/-! ### Gate Clock (01) -/

/-- The Gate Clock (R11). -/
structure GateClock where
  valid : Bool
  paused : Bool
  window : Window
  tenths : Nat
  curClass : Nat
  nextClass : Nat
deriving DecidableEq, Repr

/-! ### Visits (02) -/

/-- The lane mode (01, section 1.2). The constructors of OPEN and CLOSED are spelt with "lane" before them. -/
inductive LaneMode
  | starting | laneOpen | laneClosed | draining
deriving DecidableEq, Repr

/-- The state of a slot that is not FREE (02, section 2.2). -/
inductive SlotState
  | approach | atPortal | toStop | awaitLoan | hold | exiting | parked
deriving DecidableEq, Repr

/-- The arrival class (R17). -/
inductive ArrivalClass
  | onTime | early | late | tooEarly | tooLate | none
deriving DecidableEq, Repr

/-- The verdict of a visit. `admitted` is ADMIT. -/
inductive Verdict
  | undecided | hold | admitted | admitInspect | park | refuse
deriving DecidableEq, Repr

/-- The flex source of a visit (R31, R87). -/
inductive FlexSource
  | none | own | borrowed | forced
deriving DecidableEq, Repr

/-- The reasons, in the order of the reason table (02, section 2.4), which is the bit order of a reason set (R173). -/
inductive Reason
  | tooEarly | tooLate | bookingCancelled
  | bookingUnknown | duplicate | codeUnread | codeMismatch | sealMismatch | sealMissing | sealTampered
  | noCapacity | recordFull
  | damageMajor | surveyUnknown
  | sealExtra | sealUnexpected | damageMinor | passTruncated | extraPass | portalOverrun | approachUnseen | exitUnseen
  | plateLowConf | displayUnconfirmed
deriving DecidableEq, Repr

/-- The kind of a move (R63). -/
inductive MoveKind
  | dropFull | dropEmpty | pickFull | pickEmpty
deriving DecidableEq, Repr

/-- One move of a booking (R63). -/
structure Move where
  kind : MoveKind
  code : Option Text
  profile : Nat
  seals : List Text
  blocks : List Text
deriving DecidableEq, Repr

/-- The code status of a container slot (R55). -/
inductive CodeStatus
  | none | valid | checkFail | conflict
deriving DecidableEq, Repr

/-- The kind of a seal (R46). -/
inductive SealKind
  | bolt | cable | electronic
deriving DecidableEq, Repr

/-- The state an electronic seal gives (R46). -/
inductive TagState
  | intact | opened | noReply
deriving DecidableEq, Repr

/-- A seal entry: text, kind, and the electronic state exactly when the kind is ELECTRONIC (R101). -/
structure SealEntry where
  text : Text
  kind : SealKind
  tag : Option TagState
deriving DecidableEq, Repr

/-- The closure outcome of a container slot (R101). -/
inductive ClosureOutcome
  | notChecked | none | unexpected | fits | mismatch | missing | tampered
deriving DecidableEq, Repr

/-- The damage band (R128). -/
inductive Band
  | clean | minor | major | unknown
deriving DecidableEq, Repr

/-- What one zone gave in a pass (R119, R120). -/
structure ZoneData where
  dmin : Option Nat
  dmax : Option Nat
  valid : Nat
  invalid : Nat
deriving DecidableEq, Repr

/-- A pass summary: the zones 1 to 12 in order; a disabled zone's data stay empty (R120). -/
abbrev PassSummary := List ZoneData

/-- One container slot of a visit (02, section 2.1). -/
structure ContainerSlot where
  code : Option Text
  size : Option Nat
  status : CodeStatus
  seals : List SealEntry
  pass : Option PassSummary
  closure : Option ClosureOutcome
  score : Nat
  band : Option Band
  unsurveyed : Nat
deriving DecidableEq, Repr

/-- A visit record (02, section 2.1). The reason set is kept as its active and its overridden members. -/
structure Visit where
  number : VisitNumber
  state : SlotState
  arrivalStamp : GatePoint
  plate : Option Text
  confidence : Nat
  front : ContainerSlot
  rear : ContainerSlot
  inbound : Nat
  ref : Option Text
  moves : List Move
  claimHeld : Bool
  arrival : ArrivalClass
  active : List Reason
  overridden : List Reason
  flex : FlexSource
  verdict : Verdict
  clerkOverride : Bool
  stops : List Text
  placeReserved : Bool
  holdStart : Option GatePoint
  timeoutRun : Bool
  verdictStamp : Option GatePoint
  closeStamp : Option GatePoint
  passing : Bool
  settled : Bool
  outcomeNotes : List Reason
  exitCheck : Timer
deriving DecidableEq, Repr

/-- The Visit Engine. A slot of the Visit Table is FREE when neither list holds its visit (R20, log 26). -/
structure VisitEngine where
  mode : LaneMode
  laneQueue : List Visit
  parked : List Visit
  pendingArrivals : Nat
  nextNumber : VisitNumber
deriving DecidableEq, Repr

/-! ### Reader Port (03) -/

/-- FRONT or REAR (R46). -/
inductive Position
  | front | rear
deriving DecidableEq, Repr

/-- A well-formed report with normalised contents: a plate with clamped confidence, a code with its check-digit result
and size class, a seal (R46, R51). -/
inductive Report
  | plate (text : Text) (confidence : Nat)
  | code (pos : Position) (text : Text) (size : Option Nat) (passes : Bool)
  | sealRead (pos : Position) (entry : SealEntry)
deriving DecidableEq, Repr

/-- An answer to a report, the device's (R49), or to a message, the display's (R58). -/
inductive Answer
  | accept | busy | reject
deriving DecidableEq, Repr

/-- A reader channel (R48, R51). A toggle is true for 1. -/
structure ReaderChannel where
  expected : Bool
  synced : Bool
  buffer : Option Report
  expiry : Timer
deriving DecidableEq, Repr

/-- The delivery state of the display channel (03, section 3.7). -/
inductive Delivery
  | idle | sent | retryWait
deriving DecidableEq, Repr

/-- The display channel (R58). -/
structure DisplayChannel where
  delivery : Delivery
  sendToggle : Bool
  busyCount : Nat
  answerWait : Timer
  retryWait : Timer
deriving DecidableEq, Repr

/-- The Reader Port. -/
structure ReaderPort where
  plateCh : ReaderChannel
  codeCh : ReaderChannel
  sealCh : ReaderChannel
  display : DisplayChannel
deriving DecidableEq, Repr

/-! ### Booking Store (04) -/

/-- The state of a booking record with the fields present only in it (R62). -/
inductive BookingState
  | available
  | here (key : GatePoint) (holder : VisitNumber)
  | elsewhere (claimant : LaneId) (key : GatePoint)
  | used
  | cancelled
deriving DecidableEq, Repr

/-- A booking record (R62). The state OPEN is spelt `available`. -/
structure Booking where
  ref : Text
  plate : Text
  window : Window
  moves : List Move
  state : BookingState
deriving DecidableEq, Repr

/-- The Booking Store: 64 places, and the current window. -/
structure BookingStore where
  table : List (Option Booking)
  window : Option Window
deriving DecidableEq, Repr

/-! ### Capacity Unit (05) -/

/-- The Window Quota entry (R84). -/
structure Quota where
  window : Window
  share : Nat
  borrowed : Nat
  lent : Nat
  used : Nat
deriving DecidableEq, Repr

/-- An Offer (R95). -/
structure Offer where
  asker : LaneId
  number : Byte
  window : Window
  expiry : Timer
deriving DecidableEq, Repr

/-- The state of an Ask (R90, R91). -/
inductive AskState
  | asking
  | taking (offerer : LaneId)
deriving DecidableEq, Repr

/-- The open Ask, made for the oldest visit of the Loan Wait List (R90). -/
structure Ask where
  number : Byte
  window : Window
  state : AskState
  deadline : Timer
deriving DecidableEq, Repr

/-- An outstanding TAKE (R91). -/
structure Take where
  offerer : LaneId
  window : Window
  number : Byte
deriving DecidableEq, Repr

/-- The Capacity Unit. A peer is heard while `peerTimer` runs (R89). -/
structure CapacityUnit where
  quota : Option Quota
  offers : List Offer
  ask : Option Ask
  takes : List Take
  waitList : List VisitNumber
  askCounter : Byte
  peerTimer : Timer
deriving DecidableEq, Repr

/-! ### Survey Unit (07) -/

/-- The open pass (07, section 7.2). `zone` is the index from 0 of the zone being sampled, absent when none is enabled. -/
structure Pass where
  visit : VisitNumber
  target : Position
  data : PassSummary
  zone : Option Nat
  taken : Nat
  sum : Nat
  spoilt : Bool
deriving DecidableEq, Repr

/-- The Survey Unit. The converter runs exactly while a pass is open (R117). -/
structure SurveyUnit where
  pass : Option Pass
  darkRuns : List Nat
deriving DecidableEq, Repr

/-! ### Yard Routing Unit (08) -/

/-- The kind of a direction message (08, section 8.3). -/
inductive MessageKind
  | proceed | inspect | buffer | wait | turnOut | laneClosed
deriving DecidableEq, Repr

/-- A direction message; `visit` is absent for LANE_CLOSED alone. -/
structure Message where
  kind : MessageKind
  visit : Option VisitNumber
  stops : List Text
deriving DecidableEq, Repr

/-- The barrier state (08, section 8.4). -/
inductive Barrier
  | lowered | raising | raised | heldOpen | settling
deriving DecidableEq, Repr

/-- The Yard Routing Unit. An absent Block Table is the empty list. -/
structure YardUnit where
  blocks : List BlockEntry
  window : Option Window
  queue : List Message
  held : List Message
  barrier : Barrier
  raiseVisit : Option VisitNumber
  upCheck : Timer
  settle : Timer
deriving DecidableEq, Repr

/-! ### Outcome and Alert Unit (09) -/

/-- The part of an outcome record that belongs to one container (R153). -/
structure SlotOutcome where
  code : Option Text
  status : CodeStatus
  size : Option Nat
  closure : ClosureOutcome
  band : Option Band
  score : Nat
  unsurveyed : Nat
deriving DecidableEq, Repr

/-- An outcome record (R153). -/
structure OutcomeRecord where
  lane : LaneId
  number : VisitNumber
  ref : Option Text
  plate : Option Text
  confidence : Nat
  arrival : ArrivalClass
  verdict : Verdict
  clerkOverride : Bool
  active : List Reason
  overridden : List Reason
  outcomeNotes : List Reason
  flex : FlexSource
  front : SlotOutcome
  rear : SlotOutcome
  stops : List Text
  arrivalStamp : GatePoint
  verdictStamp : Option GatePoint
  closeStamp : Option GatePoint
deriving DecidableEq, Repr

/-- The eight latched flags, in the bit order of the flag set (R173). -/
inductive AlertFlag
  | barrier | display | surveyChannel | laneOverflow | bus | gatewaySilent | records | idClash
deriving DecidableEq, Repr

/-- A latched flag and its condition mark: `standing` true for standing, false for ended (R155). -/
structure FlagState where
  isSet : Bool
  standing : Bool
deriving DecidableEq, Repr

/-- The eight latched flags. -/
structure AlertFlags where
  barrier : FlagState
  display : FlagState
  surveyChannel : FlagState
  laneOverflow : FlagState
  bus : FlagState
  gatewaySilent : FlagState
  records : FlagState
  idClash : FlagState
deriving DecidableEq, Repr

/-- The ten counters (R159). -/
inductive Counter
  | crcErrors | rxOverruns | txDrops | orphanReads | orphanPasses | bookingsDropped | updatesRefused | closedArrivals
  | framesIgnored | arrivalsLost
deriving DecidableEq, Repr

/-- The values of the ten counters. -/
structure Counters where
  crcErrors : Nat
  rxOverruns : Nat
  txDrops : Nat
  orphanReads : Nat
  orphanPasses : Nat
  bookingsDropped : Nat
  updatesRefused : Nat
  closedArrivals : Nat
  framesIgnored : Nat
  arrivalsLost : Nat
deriving DecidableEq, Repr

/-- The Outcome and Alert Unit. The sixteen places are `reserved` and `filled` (oldest first) and what is left of
sixteen; the offered place is the oldest FILLED one (R151). -/
structure OutcomeUnit where
  reserved : List VisitNumber
  filled : List OutcomeRecord
  offered : Bool
  flags : AlertFlags
  holdWaiting : Bool
  counters : Counters
  clashTimer : Timer
  statusDue : Bool
  alertLow : Bool
deriving DecidableEq, Repr

/-! ### Peer Bus Interface (10) -/

/-- The kinds of frame (10, section 10.5). -/
inductive FrameKind
  | claim | claimEnd | loanAsk | loanOffer | loanTake | loanConfirm | loanVoid | loanDecline
  | time | booking | bookingCancel | release | refuse | openLane | closeLane | config | resetReq
  | blockNote | start | outcome | status | counters | alertClear | countersFetch
deriving DecidableEq, Repr

/-- The result a CLAIM_END carries (R79). -/
inductive ClaimResult
  | used | released
deriving DecidableEq, Repr

/-- A frame this lane sends, before its bytes are written (R165). -/
inductive TxFrame
  | claim (ref : Text) (key : GatePoint)
  | claimEnd (ref : Text) (result : ClaimResult)
  | loanAsk (window : Window) (number : Byte)
  | loanOffer (peer : LaneId) (window : Window) (number : Byte)
  | loanTake (peer : LaneId) (window : Window) (number : Byte)
  | loanConfirm (peer : LaneId) (window : Window) (number : Byte)
  | loanVoid (peer : LaneId) (window : Window) (number : Byte)
  | loanDecline (peer : LaneId) (window : Window) (number : Byte)
  | blockNote (block : Text) (window : Window)
  | start (cause : ResetCause) (lost : Nat) (unknown : Bool)
  | outcome (record : OutcomeRecord)
  | status (flags : BitVec 16) (mode : LaneMode)
  | counters (values : Counters)
deriving DecidableEq, Repr

/-- A queued frame and whether its transmission is in progress (R166). -/
structure TxEntry where
  frame : TxFrame
  sending : Bool
deriving DecidableEq, Repr

/-- The blocks that have an outbox (R167). -/
inductive OutboxOwner
  | bookingStore | capacityUnit
deriving DecidableEq, Repr

/-- A frame in an outbox. -/
structure OutboxEntry where
  owner : OutboxOwner
  frame : TxFrame
deriving DecidableEq, Repr

/-- A received frame that passed the checks of R170. `handed`, the model's own, says that it has been handed on to its
owner, which has yet to take it (log 7). -/
structure RxFrame where
  source : LaneId
  dest : LaneId
  kind : FrameKind
  payload : List Byte
  handed : Bool
deriving DecidableEq, Repr

/-- The Peer Bus Interface. Outboxes stand oldest first, receive buffers in the order of arrival. -/
structure BusUnit where
  txQueue : List TxEntry
  outboxes : List OutboxEntry
  rx : List RxFrame
  silence : Timer
  degraded : Bool
deriving DecidableEq, Repr

/-! ### The whole device -/

/-- What the device gives on its outer sides: the byte of an answer to a reader, the bytes of a message sent to the
display, the bytes of a frame sent on the bus. -/
inductive Output
  | answer (ch : Channel) (byte : Byte)
  | display (bytes : List Byte)
  | busFrame (bytes : List Byte)
deriving DecidableEq, Repr

/-- The device. `pending` is the queue of waiting commands; `out` (newest first) and `freeIndex` are the model's own
(logs 25, 12). -/
structure State where
  start : StartControl
  line : LineUnit
  clock : GateClock
  visits : VisitEngine
  reader : ReaderPort
  booking : BookingStore
  capacity : CapacityUnit
  survey : SurveyUnit
  yard : YardUnit
  outcome : OutcomeUnit
  bus : BusUnit
  out : List Output
  freeIndex : Nat
  pending : List Instr
deriving DecidableEq, Repr

/-! ### Reset values -/

/-- The same value on every line. -/
def LineSet.all {α : Type} (a : α) : LineSet α := ⟨a, a, a, a, a, a⟩

/-- No part held (R180). -/
def Assembly.empty : Assembly := ⟨none, none, none, none, none⟩

/-- The Gate Clock after any reset (R11). -/
def GateClock.initial : GateClock := ⟨false, false, 0, 0, 0, 0⟩

/-- The Visit Engine after any reset (R7, R20, R21, R45). -/
def VisitEngine.initial : VisitEngine := ⟨.starting, [], [], 0, 0⟩

/-- A reader channel after any reset (R48, R61). -/
def ReaderChannel.initial : ReaderChannel := ⟨false, false, none, .stopped⟩

/-- The display channel after any reset (R58, R61). -/
def DisplayChannel.initial : DisplayChannel := ⟨.idle, false, 0, .stopped, .stopped⟩

/-- The Reader Port after any reset (R61). -/
def ReaderPort.initial : ReaderPort := ⟨.initial, .initial, .initial, .initial⟩

/-- The Booking Store after any reset: every place empty, no current window (R83). -/
def BookingStore.initial : BookingStore := ⟨List.replicate 64 none, none⟩

/-- The Capacity Unit after any reset (R100). -/
def CapacityUnit.initial : CapacityUnit := ⟨none, [], none, [], [], 0, .stopped⟩

/-- The Survey Unit after any reset (R131). -/
def SurveyUnit.initial : SurveyUnit := ⟨none, List.replicate 12 0⟩

/-- The Yard Routing Unit after any reset (R149). -/
def YardUnit.initial : YardUnit := ⟨[], none, [], [], .lowered, none, .stopped, .stopped⟩

/-- A flag that is clear with its condition ended (R161). -/
def FlagState.clear : FlagState := ⟨false, false⟩

/-- Every flag clear (R161). -/
def AlertFlags.clear : AlertFlags := ⟨.clear, .clear, .clear, .clear, .clear, .clear, .clear, .clear⟩

/-- Every counter 0 (R159). -/
def Counters.zero : Counters := ⟨0, 0, 0, 0, 0, 0, 0, 0, 0, 0⟩

/-- The Outcome and Alert Unit after any reset (R151, R161). -/
def OutcomeUnit.initial : OutcomeUnit := ⟨[], [], false, .clear, false, .zero, .stopped, false, false⟩

/-- The Peer Bus Interface after any reset (R172). -/
def BusUnit.initial : BusUnit := ⟨[], [], [], .stopped, false⟩

/-- The device after a power-on reset, held in reset until RESET_N goes high (R6, R180). DESIGN CHOICE (logs 4, 5,
unsafe): RESET_N and the six input lines stand low; they are inputs and the spec gives them no level. -/
def State.reset : State where
  start :=
    { phase := .held, resetPin := false, resetQual := .stopped, straps := none, strapFault := false, cause := .power
      placesLost := 0, placesUnknown := true, assembly := .empty, config := none, resetPending := false
      resetReqTimer := .stopped }
  line := { pins := .all false, debounced := none, timers := .all .stopped, raiseOut := false }
  clock := .initial
  visits := .initial
  reader := .initial
  booking := .initial
  capacity := .initial
  survey := .initial
  yard := .initial
  outcome := .initial
  bus := .initial
  out := []
  freeIndex := 0
  pending := []

end Sys2Proof.Machine
end

