-- ==== Sys2Proof/Machine/Ops.lean ====
section
/-! DEFINITION. The named operations the blocks share: window distance and gate time, lines, timers, the visit records
and their reason sets, and what the device puts out. -/

namespace Sys2Proof.Machine

/-! ### Gate time -/

/-- dist(a → b): (b − a) mod 256 read as a signed value (00, "Window distance"). -/
def winDist (a b : Window) : Int := (b - a).toInt

/-- Tenths of a window of `minutes` (00, "Gate time"). -/
def windowTenths (minutes : Nat) : Nat := 10 * minutes * 60

/-- The gate time from `a` to `b` in tenths, by window distance and then tenths (R16). -/
def gateElapsed (minutes : Nat) (a b : GatePoint) : Int :=
  winDist a.window b.window * windowTenths minutes + b.tenths - a.tenths

/-- The clock's present point; the held point while it is paused (R16). -/
def State.point (s : State) : GatePoint := ⟨s.clock.window, s.clock.tenths⟩

/-! ### Timers and counts -/

/-- The timer runs. -/
def Timer.isRunning : Timer → Bool
  | .stopped => false
  | .running _ => true

/-- A count that saturates at `cap` (00, "Numbers, ranges and codes"). -/
def satAdd (cap a b : Nat) : Nat := min cap (a + b)

/-! ### Lines -/

/-- The value of one line. -/
def LineSet.get {α : Type} (ls : LineSet α) : Line → α
  | .loopA => ls.loopA
  | .loopP => ls.loopP
  | .loopS => ls.loopS
  | .loopX => ls.loopX
  | .scan => ls.scan
  | .barUp => ls.barUp

/-- One line's value replaced. -/
def LineSet.put {α : Type} (ls : LineSet α) (l : Line) (a : α) : LineSet α :=
  match l with
  | .loopA => { ls with loopA := a }
  | .loopP => { ls with loopP := a }
  | .loopS => { ls with loopS := a }
  | .loopX => { ls with loopX := a }
  | .scan => { ls with scan := a }
  | .barUp => { ls with barUp := a }

/-- The debounced level of a line, as any block reads it: vacated (down) while the levels are absent (R1). -/
def State.level (s : State) (l : Line) : Bool :=
  match s.line.debounced with
  | some ls => ls.get l
  | none => false

/-! ### Configuration -/

/-- What `State.general` reads before the configuration is fixed. No rule reads a configured value then (R177), so these
zeros reach no result of a run (log 31). -/
def General.absent : General where
  windowMinutes := 0
  graceEarly := 0
  graceLate := 0
  shares := []
  reserve := 0
  plateThreshold := 0
  holdMinutes := 0
  polarity := .all .activeHigh
  debounceMs := 0
  alertMask := 0
  samplesPerReading := 0
  bandMinor := 0
  bandMajor := 0
  hardLimit := 0

/-- The GENERAL values in force (R179). -/
def State.general (s : State) : General :=
  match s.start.config with
  | some c => c.general
  | none => .absent

/-- The Zone Table in force; absent before the fixing (R111). -/
def State.zones (s : State) : List Zone :=
  match s.start.config with
  | some c => c.zones
  | none => []

/-- The Profile Table in force; absent before the fixing (R112). -/
def State.profiles (s : State) : List (List Nat) :=
  match s.start.config with
  | some c => c.profiles
  | none => []

/-- The alert mask: no flag is masked until the configuration is fixed (R156). -/
def State.alertMask (s : State) : BitVec 16 :=
  match s.start.config with
  | some c => c.general.alertMask
  | none => 0

/-- The sampled lane identifier (R174); 0, no lane's, before the straps are sampled. -/
def State.laneId (s : State) : LaneId :=
  match s.start.straps with
  | some p => p.lane
  | none => 0

/-- The device runs and its straps are good: it takes frames and answers readers (R6, R174). -/
def State.alive (s : State) : Bool := s.start.phase == .running && !s.start.strapFault

/-! ### What the device puts out -/

/-- The device gives `o` on an outer side (log 25). -/
def State.emit (o : Output) (s : State) : State := { s with out := o :: s.out }

/-! ### Reasons (02, section 2.4) -/

/-- The group of a reason that refuses the truck. -/
def Reason.isRefuse : Reason → Bool
  | .tooEarly | .tooLate | .bookingCancelled => true
  | _ => false

/-- The clerk group of the hold reasons. -/
def Reason.isClerkHold : Reason → Bool
  | .bookingUnknown | .duplicate | .codeUnread | .codeMismatch | .sealMismatch | .sealMissing | .sealTampered => true
  | _ => false

/-- A hold reason of either group. -/
def Reason.isHold (r : Reason) : Bool := r.isClerkHold || r == .noCapacity || r == .recordFull

/-- The bit of a reason in a reason set (R173). -/
def Reason.bit (r : Reason) : Nat := r.ctorIdx

/-- Membership added once: a set kept as a list. -/
def addOnce {α : Type} [DecidableEq α] (a : α) (l : List α) : List α := if a ∈ l then l else l ++ [a]

/-- A reason added to the set; one already there, active or overridden, stays as it is. -/
def Visit.addReason (r : Reason) (v : Visit) : Visit :=
  if r ∈ v.overridden then v else { v with active := addOnce r v.active }

/-- Reasons added one after another. -/
def Visit.addReasons (rs : List Reason) (v : Visit) : Visit := rs.foldl (fun w r => w.addReason r) v

/-- A reason that comes after the stage it concerns (R28). -/
def Visit.addOutcomeNote (r : Reason) (v : Visit) : Visit := { v with outcomeNotes := addOnce r v.outcomeNotes }

/-- Every active hold reason marked overridden (R37). -/
def Visit.overrideHolds (v : Visit) : Visit :=
  { v with active := v.active.filter (fun r => !r.isHold)
           overridden := (v.active.filter Reason.isHold).foldl (fun l r => addOnce r l) v.overridden }

/-! ### Visits -/

/-- A container slot of a visit just opened (R19). -/
def ContainerSlot.fresh : ContainerSlot := ⟨none, none, .none, [], none, none, 0, none, 0⟩

/-- The record of a visit just opened (R19). -/
def Visit.fresh (number : VisitNumber) (state : SlotState) (stamp : GatePoint) : Visit where
  number := number
  state := state
  arrivalStamp := stamp
  plate := none
  confidence := 0
  front := .fresh
  rear := .fresh
  inbound := 0
  ref := none
  moves := []
  claimHeld := false
  arrival := .none
  active := []
  overridden := []
  flex := .none
  verdict := .undecided
  clerkOverride := false
  stops := []
  placeReserved := false
  holdStart := none
  timeoutRun := false
  verdictStamp := none
  closeStamp := none
  passing := false
  settled := false
  outcomeNotes := []
  exitCheck := .stopped

/-- The container slot of a position. -/
def Visit.slot (v : Visit) : Position → ContainerSlot
  | .front => v.front
  | .rear => v.rear

/-- One container slot changed. -/
def Visit.updSlot (p : Position) (f : ContainerSlot → ContainerSlot) (v : Visit) : Visit :=
  match p with
  | .front => { v with front := f v.front }
  | .rear => { v with rear := f v.rear }

/-- A place hold: in HOLD for want of a record place, so without one (02, section 2.2; R29). -/
def Visit.isPlaceHold (v : Visit) : Bool := v.state == .hold && !v.placeReserved

/-- A clerk hold: any other hold (02, section 2.2). -/
def Visit.isClerkHold (v : Visit) : Bool := v.state == .hold && v.placeReserved

/-- A visit's container carries an inspection reason when its band is MAJOR or UNKNOWN (R129). -/
def ContainerSlot.needsInspection (c : ContainerSlot) : Bool := c.band == some .major || c.band == some .unknown

/-- Any inbound container carries an inspection reason. Only inbound containers have a band (R123). -/
def Visit.needsInspection (v : Visit) : Bool := v.front.needsInspection || v.rear.needsInspection

/-- The verdict of the admission step (R30, R37). -/
def Visit.admission (v : Visit) : Verdict := if v.needsInspection then .admitInspect else .admitted

/-- The arrival needs a flex unit (R18). -/
def Visit.needsFlex (v : Visit) : Bool := v.arrival == .early || v.arrival == .late

/-- A move that brings a container in (R63). -/
def Move.isDrop (m : Move) : Bool := m.kind == .dropFull || m.kind == .dropEmpty

/-- The drop moves in the order they stand: the inbound containers (R63). -/
def Visit.drops (v : Visit) : List Move := v.moves.filter Move.isDrop

/-- The visits of the lane queue and then of the parked set. -/
def State.allVisits (s : State) : List Visit := s.visits.laneQueue ++ s.visits.parked

/-- The visit of this lane with a number; none names an unknown visit (R21). -/
def State.visit? (s : State) (n : VisitNumber) : Option Visit := s.allVisits.find? (fun v => v.number == n)

/-- One visit of a list changed. -/
def updNumbered (n : VisitNumber) (f : Visit → Visit) (vs : List Visit) : List Visit :=
  vs.map (fun v => if v.number = n then f v else v)

/-- One visit's record changed, wherever it stands. -/
def State.updVisit (n : VisitNumber) (f : Visit → Visit) (s : State) : State :=
  { s with visits := { s.visits with laneQueue := updNumbered n f s.visits.laneQueue
                                     parked := updNumbered n f s.visits.parked } }

/-- The oldest visit of the lane queue for which `p` holds. -/
def State.oldest? (s : State) (p : Visit → Bool) : Option Visit := s.visits.laneQueue.find? p

/-- The visit in the portal (02, section 2.2: at most one). -/
def State.portal? (s : State) : Option Visit := s.oldest? (fun v => v.state == .atPortal)

/-- The number of visits in HOLD or PARKED (R34). -/
def State.holdCount (s : State) : Nat :=
  s.visits.laneQueue.countP (fun v => v.state == .hold) + s.visits.parked.length

/-- The parked places in use: the parked set and the lane-queue visits whose verdict is PARK (R20). -/
def State.parkedInUse (s : State) : Nat :=
  s.visits.parked.length + s.visits.laneQueue.countP (fun v => v.verdict == .park)

/-- The parked set has room (R20). -/
def State.parkedRoom (s : State) : Bool := s.parkedInUse < 4

end Sys2Proof.Machine
end

