-- ==== Sys2Proof/Machine/Operands.lean ====
section
/-! DEFINITION. The operand forms of R173: text fields and their normalisation, the reader messages, the frame payloads,
and the frames this lane sends as bytes. A form check that fails answers none. -/

namespace Sys2Proof.Machine

/-! ### Characters and text (00 "Text fields", R47, R173) -/

/-- A to Z. -/
def isUpper (b : Byte) : Bool := 0x41 ≤ b.toNat && b.toNat ≤ 0x5A

/-- a to z. -/
def isLower (b : Byte) : Bool := 0x61 ≤ b.toNat && b.toNat ≤ 0x7A

/-- 0 to 9. -/
def isDigit (b : Byte) : Bool := 0x30 ≤ b.toNat && b.toNat ≤ 0x39

/-- The normalised form: lower case folded, spaces and hyphens removed; none where any other character stands. -/
def normalise : List Byte → Option Text
  | [] => some []
  | b :: bs =>
    match normalise bs with
    | none => none
    | some t =>
      if isUpper b || isDigit b then some (b :: t)
      else if isLower b then some ((b - 0x20) :: t)
      else if b = 0x20 || b = 0x2D then some t
      else none

/-- A text whose normalised form has `lo` to `hi` characters. -/
def textWithin (lo hi : Nat) (raw : List Byte) : Option Text :=
  match normalise raw with
  | some t => if lo ≤ t.length && t.length ≤ hi then some t else none
  | none => none

/-- A container code: four letters and seven digits once normalised (R47). -/
def containerCode (raw : List Byte) : Option Text :=
  match textWithin 11 11 raw with
  | some t => if (t.take 4).all isUpper && (t.drop 4).all isDigit then some t else none
  | none => none

/-- The value of a letter in the check-digit test: from 10, leaving out 11, 22 and 33 (R54). -/
def letterValue (b : Byte) : Nat :=
  let i := b.toNat - 0x41
  if i = 0 then 10 else if i ≤ 10 then i + 11 else if i ≤ 20 then i + 12 else i + 13

/-- The value of a character of a container code (R54). -/
def codeCharValue (b : Byte) : Nat := if isUpper b then letterValue b else b.toNat - 0x30

/-- The weighted sum of characters, the weight doubling from `w` (R54). -/
def weightedSum : Nat → List Byte → Nat
  | _, [] => 0
  | w, b :: bs => codeCharValue b * w + weightedSum (2 * w) bs

/-- The check digit of a container code agrees with its other ten characters (R54). -/
def checkDigitPasses (code : Text) : Bool :=
  weightedSum 1 (code.take 10) % 11 % 10 == codeCharValue (code.getD 10 0)

/-! ### Reading bytes -/

/-- The first byte and the rest. -/
def takeByte : List Byte → Option (Byte × List Byte)
  | [] => none
  | b :: bs => some (b, bs)

/-- The first `n` bytes and the rest. -/
def takeBytes (n : Nat) (bs : List Byte) : Option (List Byte × List Byte) :=
  if n ≤ bs.length then some (bs.take n, bs.drop n) else none

/-- A two-byte number, high byte first (R173). -/
def takeNat16 : List Byte → Option (Nat × List Byte)
  | hi :: lo :: bs => some (hi.toNat * 256 + lo.toNat, bs)
  | _ => none

/-- A text field: count byte and characters as sent (R173). -/
def takeText : List Byte → Option (List Byte × List Byte)
  | [] => none
  | n :: bs => takeBytes n.toNat bs

/-- A text field whose normalised form has `lo` to `hi` characters. -/
def takeTextWithin (lo hi : Nat) (bs : List Byte) : Option (Text × List Byte) :=
  match takeText bs with
  | some (raw, rest) => (textWithin lo hi raw).map (·, rest)
  | none => none

/-- `n` items read one after another. -/
def takeMany {α : Type} (item : List Byte → Option (α × List Byte)) : Nat → List Byte → Option (List α × List Byte)
  | 0, bs => some ([], bs)
  | n + 1, bs =>
    match item bs with
    | none => none
    | some (a, rest) => (takeMany item n rest).map (fun (as, r) => (a :: as, r))

/-- A block identifier: two characters without a count, two once normalised (R64, R173). -/
def takeBlockId (bs : List Byte) : Option (Text × List Byte) :=
  match takeBytes 2 bs with
  | some (raw, rest) => (textWithin 2 2 raw).map (·, rest)
  | none => none

/-- What is left of a payload after its fields: nothing, or the one pad byte of an odd payload (R164). The pad byte's
value is not looked at (log 10). -/
def atPayloadEnd (rest : List Byte) : Bool := rest.length ≤ 1

/-! ### Reader reports (R46, R47, R173) -/

/-- FRONT and REAR by code. -/
def positionOf (b : Byte) : Option Position :=
  if b = 0 then some .front else if b = 1 then some .rear else none

/-- A PLATE's contents. Confidence above 100 is clamped (R46). -/
def plateForm (text : List Byte) (confidence : Byte) : Option Report :=
  (textWithin 1 10 text).map (fun t => .plate t (min 100 confidence.toNat))

/-- A CODE's contents; the check digit is tested on receipt (R54). -/
def codeForm (position : Byte) (text : List Byte) (size : Byte) : Option Report :=
  match positionOf position, containerCode text with
  | some p, some t =>
    if size = 0xFF then some (.code p t none (checkDigitPasses t))
    else if size.toNat ≤ 3 then some (.code p t (some size.toNat) (checkDigitPasses t))
    else none
  | _, _ => none

/-- The seal kind and electronic state of a SEAL: the state is present exactly for ELECTRONIC (R46). -/
def sealKindForm (kind electronic : Byte) : Option (SealKind × Option TagState) :=
  match kind.toNat, electronic.toNat with
  | 0, 0 => some (.bolt, none)
  | 1, 0 => some (.cable, none)
  | 2, 1 => some (.electronic, some .intact)
  | 2, 2 => some (.electronic, some .opened)
  | 2, 3 => some (.electronic, some .noReply)
  | _, _ => none

/-- A SEAL's contents. -/
def sealForm (position kind electronic : Byte) (text : List Byte) : Option Report :=
  match positionOf position, sealKindForm kind electronic, textWithin 1 15 text with
  | some p, some (k, e), some t => some (.sealRead p ⟨t, k, e⟩)
  | _, _, _ => none

/-- What a well-formed message on a reader channel says. -/
inductive ReaderMessage
  | hello
  | report (toggle : Bool) (r : Report)
deriving DecidableEq, Repr

/-- The contents of a report of kind `kind`, carried on its own channel alone (R46). -/
def reportBody (ch : Channel) (kind : Nat) (toggle : Bool) (body : List Byte) : Option ReaderMessage :=
  match ch, kind with
  | .plateReader, 1 =>
    match takeText body with
    | some (t, [c]) => (plateForm t c).map (.report toggle)
    | _ => none
  | .codeReader, 2 =>
    match body with
    | p :: rest =>
      match takeText rest with
      | some (t, [z]) => (codeForm p t z).map (.report toggle)
      | _ => none
    | [] => none
  | .sealReader, 3 =>
    match body with
    | p :: k :: e :: rest =>
      match takeText rest with
      | some (t, []) => (sealForm p k e t).map (.report toggle)
      | _ => none
    | _ => none
  | _, 15 => if body = [] then some .hello else none
  | _, _ => none

/-- The bytes of a message on a reader channel: count byte, kind with the toggle in bit 7, contents (R173). Bits 6 to 4
of the kind byte are not looked at (log 10). -/
def parseReaderMessage (ch : Channel) (msg : List Byte) : Option ReaderMessage :=
  match msg with
  | n :: k :: body =>
    if n.toNat = body.length + 1 then reportBody ch (k.toNat % 16) (k.getLsbD 7) body else none
  | _ => none

/-- The device's answer to a report, one byte (R173). -/
def Answer.byte : Answer → Byte
  | .accept => 0x01
  | .busy => 0x02
  | .reject => 0x03

/-! ### The display's answers and the direction messages (R58 to R60, R173) -/

/-- What a byte from the display says; none is a malformed answer. The HELLO is tested first (R173). -/
inductive DisplayByte
  | hello
  | answer (toggle : Bool) (a : Answer)
deriving DecidableEq, Repr

/-- The display's byte: 0Fh is HELLO; else toggle in bit 7, bits 6 to 2 zero, answer code in bits 1 to 0 (R173). -/
def parseDisplayByte (b : Byte) : Option DisplayByte :=
  if b = 0x0F then some .hello
  else match b.toNat % 128 with
    | 1 => some (.answer (b.getLsbD 7) .accept)
    | 2 => some (.answer (b.getLsbD 7) .busy)
    | 3 => some (.answer (b.getLsbD 7) .reject)
    | _ => none

/-- The low byte of a number. -/
def byteOf (n : Nat) : Byte := BitVec.ofNat 8 n

/-- Two bytes, high byte first (R173). -/
def bytes16 (n : Nat) : List Byte := [byteOf (n / 256), byteOf n]

/-- 1 to 6 in the message kind order (R173; 08, section 8.3). -/
def MessageKind.code (k : MessageKind) : Nat := k.ctorIdx + 1

/-- A direction message as sent with a toggle: count, kind and toggle, visit number (0 for LANE_CLOSED), stop count,
stops (R173). -/
def Message.bytes (toggle : Bool) (m : Message) : List Byte :=
  let number := match m.visit with | some n => n.toNat | none => 0
  let body := bytes16 number ++ [byteOf m.stops.length] ++ m.stops.flatten
  byteOf (body.length + 1) :: byteOf (m.kind.code + if toggle then 128 else 0) :: body

/-! ### Frame kinds (10, section 10.5) -/

/-- The kind code. -/
def FrameKind.code : FrameKind → Nat
  | .claim => 0x01
  | .claimEnd => 0x02
  | .loanAsk => 0x03
  | .loanOffer => 0x04
  | .loanTake => 0x05
  | .loanConfirm => 0x06
  | .loanVoid => 0x07
  | .loanDecline => 0x08
  | .time => 0x09
  | .booking => 0x0A
  | .bookingCancel => 0x0B
  | .release => 0x0C
  | .refuse => 0x0D
  | .openLane => 0x0E
  | .closeLane => 0x0F
  | .config => 0x10
  | .resetReq => 0x11
  | .blockNote => 0x12
  | .start => 0x13
  | .outcome => 0x14
  | .status => 0x15
  | .counters => 0x16
  | .alertClear => 0x17
  | .countersFetch => 0x18

/-- Every kind of the kind table. -/
def FrameKind.all : List FrameKind :=
  [.claim, .claimEnd, .loanAsk, .loanOffer, .loanTake, .loanConfirm, .loanVoid, .loanDecline, .time, .booking,
   .bookingCancel, .release, .refuse, .openLane, .closeLane, .config, .resetReq, .blockNote, .start, .outcome, .status,
   .counters, .alertClear, .countersFetch]

/-- The kind of a code; none where the code is not in the kind table. -/
def FrameKind.ofCode (c : Nat) : Option FrameKind := FrameKind.all.find? (fun k => k.code == c)

/-- The class of a kind. -/
def FrameKind.cls : FrameKind → Nat
  | .claim | .claimEnd | .loanAsk | .loanOffer | .loanTake | .loanConfirm | .loanVoid | .loanDecline => 0
  | .time | .booking | .bookingCancel | .release | .refuse | .openLane | .closeLane | .config | .resetReq | .blockNote
  | .start => 1
  | .outcome | .status | .counters | .alertClear | .countersFetch => 2

/-- The kind is sent by lanes; the others by the office station. -/
def FrameKind.fromLane : FrameKind → Bool
  | .claim | .claimEnd | .loanAsk | .loanOffer | .loanTake | .loanConfirm | .loanVoid | .loanDecline | .blockNote | .start
  | .outcome | .status | .counters => true
  | .time | .booking | .bookingCancel | .release | .refuse | .openLane | .closeLane | .config | .resetReq | .alertClear
  | .countersFetch => false

/-- The fixed length of a kind in words; none where it varies. -/
def FrameKind.words : FrameKind → Option Nat
  | .loanAsk | .loanOffer | .loanTake | .loanConfirm | .loanVoid | .loanDecline | .alertClear => some 1
  | .time | .release | .refuse | .blockNote | .start | .status => some 2
  | .openLane | .closeLane | .resetReq | .countersFetch => some 0
  | .counters => some 5
  | .claim | .claimEnd | .booking | .bookingCancel | .config | .outcome => none

/-- The blocks that take frames (00, "The blocks in a lane, in words"). -/
inductive Owner
  | bookingStore | capacityUnit | yardUnit | gateClock | visitEngine | outcomeUnit | startControl
deriving DecidableEq, Repr

/-- The owner block of a kind; none for the lane kinds no block of a lane takes (R165). -/
def FrameKind.owner : FrameKind → Option Owner
  | .claim | .claimEnd | .booking | .bookingCancel => some .bookingStore
  | .loanAsk | .loanOffer | .loanTake | .loanConfirm | .loanVoid | .loanDecline => some .capacityUnit
  | .blockNote => some .yardUnit
  | .time => some .gateClock
  | .release | .refuse | .openLane | .closeLane => some .visitEngine
  | .alertClear | .countersFetch => some .outcomeUnit
  | .config | .resetReq => some .startControl
  | .start | .outcome | .status | .counters => none

/-! ### The CRC and the frame on the wire (R164) -/

/-- One bit of the CRC: generator x^16 + x^12 + x^5 + 1. -/
def crcBit (c : BitVec 16) : BitVec 16 := if c.getLsbD 15 then (c <<< 1) ^^^ 0x1021 else c <<< 1

/-- One byte of the CRC, most significant bit first. -/
def crcByte (c : BitVec 16) (b : Byte) : BitVec 16 :=
  let c := c ^^^ (b.zeroExtend 16 <<< 8)
  crcBit (crcBit (crcBit (crcBit (crcBit (crcBit (crcBit (crcBit c)))))))

/-- The CRC of bytes, from FFFFh, not inverted. -/
def crc16 (bs : List Byte) : BitVec 16 := bs.foldl crcByte 0xFFFF

/-- A frame as received whole and undamaged: header fields and payload. -/
structure RawFrame where
  cls : Nat
  reservedBit : Bool
  source : LaneId
  kindCode : Nat
  dest : LaneId
  words : Nat
  payload : List Byte
deriving DecidableEq, Repr

/-- The frame in the bytes of a reception, or none when it is damaged: a stop bit read dominant, the bus idle before the
last byte, a length above 64, or a CRC that does not check (R162). Bits 7 to 5 of header bytes 1 and 2, and bytes after
the CRC, are not looked at (logs 9, 10). -/
def parseFrame (stopFault : Bool) (bytes : List Byte) : Option RawFrame :=
  match bytes with
  | b0 :: b1 :: b2 :: b3 :: rest =>
    let n := b3.toNat
    if stopFault || 64 < n || rest.length < 2 * n + 2 then none
    else
      let payload := rest.take (2 * n)
      let sent := (rest.drop (2 * n)).take 2
      let crc := crc16 (b0 :: b1 :: b2 :: b3 :: payload)
      if sent = [byteOf (crc.toNat / 256), byteOf crc.toNat] then
        some { cls := b0.toNat / 64, reservedBit := b0.getLsbD 5, source := BitVec.ofNat 5 b0.toNat
               kindCode := b1.toNat % 32, dest := BitVec.ofNat 5 b2.toNat, words := n, payload := payload }
      else none
  | _ => none

/-- The source may send the kind: lanes 1 to 30 the lane kinds, the office station 31 the others, 0 none (R170). -/
def FrameKind.maySend (k : FrameKind) (source : LaneId) : Bool :=
  source != 0 && (if k.fromLane then source != 31 else source == 31)

/-- The checks of R170; none where the frame is to be counted in FRAMES_IGNORED. -/
def checkRaw (f : RawFrame) : Option RxFrame :=
  match FrameKind.ofCode f.kindCode with
  | none => none
  | some k =>
    if f.cls = k.cls && !f.reservedBit && (k.words = none || k.words = some f.words) && k.maySend f.source then
      some ⟨f.source, f.dest, k, f.payload, false⟩
    else none

/-! ### Frames this lane sends, as bytes (R164, R165, R173) -/

/-- A text field, its count first; a count of 0 marks an absent text. -/
def textBytes (t : Text) : List Byte := byteOf t.length :: t

/-- An optional text field. -/
def optTextBytes : Option Text → List Byte
  | some t => textBytes t
  | none => [0]

/-- A point of gate time: window and two bytes of tenths. -/
def pointBytes (p : GatePoint) : List Byte := p.window :: bytes16 p.tenths

/-- The stamps of a record at close are present (R43, R32); an absent one would be sent as zeros. -/
def optPointBytes : Option GatePoint → List Byte
  | some p => pointBytes p
  | none => [0, 0, 0]

/-- A reason set: bits 0 to 23 of a three-byte number, high byte first (log 22). -/
def reasonBytes (rs : List Reason) : List Byte :=
  let n := rs.foldl (fun a r => a ||| 2 ^ r.bit) 0
  [byteOf (n / 65536), byteOf (n / 256), byteOf n]

/-- A code of which FFh marks absence. -/
def optCodeByte : Option Nat → Byte
  | some n => byteOf n
  | none => 0xFF

/-- One container of an OUTCOME frame. -/
def SlotOutcome.bytes (c : SlotOutcome) : List Byte :=
  optTextBytes c.code ++ [byteOf c.status.ctorIdx, optCodeByte c.size, byteOf c.closure.ctorIdx,
    optCodeByte (c.band.map (·.ctorIdx))] ++ bytes16 c.score ++ [byteOf c.unsurveyed]

/-- The payload of an OUTCOME frame. -/
def OutcomeRecord.bytes (r : OutcomeRecord) : List Byte :=
  bytes16 r.number.toNat ++ optTextBytes r.ref ++ optTextBytes r.plate
    ++ [byteOf r.confidence, byteOf r.arrival.ctorIdx, byteOf r.verdict.ctorIdx, if r.clerkOverride then 1 else 0,
        byteOf r.flex.ctorIdx]
    ++ reasonBytes r.active ++ reasonBytes r.overridden ++ reasonBytes r.outcomeNotes
    ++ r.front.bytes ++ r.rear.bytes ++ [byteOf r.stops.length] ++ r.stops.flatten
    ++ pointBytes r.arrivalStamp ++ optPointBytes r.verdictStamp ++ optPointBytes r.closeStamp

/-- The ten counters in the order of R159. -/
def Counters.list (c : Counters) : List Nat :=
  [c.crcErrors, c.rxOverruns, c.txDrops, c.orphanReads, c.orphanPasses, c.bookingsDropped, c.updatesRefused,
   c.closedArrivals, c.framesIgnored, c.arrivalsLost]

/-- The kind of a frame this lane sends. -/
def TxFrame.kind : TxFrame → FrameKind
  | .claim _ _ => .claim
  | .claimEnd _ _ => .claimEnd
  | .loanAsk _ _ => .loanAsk
  | .loanOffer _ _ _ => .loanOffer
  | .loanTake _ _ _ => .loanTake
  | .loanConfirm _ _ _ => .loanConfirm
  | .loanVoid _ _ _ => .loanVoid
  | .loanDecline _ _ _ => .loanDecline
  | .blockNote _ _ => .blockNote
  | .start _ _ _ => .start
  | .outcome _ => .outcome
  | .status _ _ => .status
  | .counters _ => .counters

/-- The class of a frame this lane sends. -/
def TxFrame.cls (f : TxFrame) : Nat := f.kind.cls

/-- The destination: broadcast, the peer, or the office station (10, section 10.5). -/
def TxFrame.dest : TxFrame → LaneId
  | .claim _ _ | .claimEnd _ _ | .loanAsk _ _ | .blockNote _ _ | .start _ _ _ => 0
  | .loanOffer p _ _ | .loanTake p _ _ | .loanConfirm p _ _ | .loanVoid p _ _ | .loanDecline p _ _ => p
  | .outcome _ | .status _ _ | .counters _ => 31

/-- The code of a lane mode: STARTING, OPEN, CLOSED, DRAINING (R173). -/
def LaneMode.code (m : LaneMode) : Nat := m.ctorIdx

/-- The payload before padding. -/
def TxFrame.payload : TxFrame → List Byte
  | .claim ref key => textBytes ref ++ pointBytes key
  | .claimEnd ref r => textBytes ref ++ [if r = .used then 0x01 else 0x02]
  | .loanAsk w n | .loanOffer _ w n | .loanTake _ w n | .loanConfirm _ w n | .loanVoid _ w n | .loanDecline _ w n => [w, n]
  | .blockNote b w => b ++ [w]
  | .start c lost unknown => [byteOf c.ctorIdx, byteOf lost, if unknown then 1 else 0]
  | .outcome r => r.bytes
  | .status f m => bytes16 f.toNat ++ [byteOf m.code]
  | .counters c => c.list.map byteOf

/-- A payload with the pad byte that makes it whole words (R164). -/
def padded (bs : List Byte) : List Byte := if bs.length % 2 = 0 then bs else bs ++ [0]

/-- The bytes of a frame of lane `lane` on the bus: header, payload, CRC (R164). -/
def TxFrame.bytes (lane : LaneId) (f : TxFrame) : List Byte :=
  let payload := padded f.payload
  let body := byteOf (f.cls * 64 + lane.toNat) :: byteOf f.kind.code :: byteOf f.dest.toNat
    :: byteOf (payload.length / 2) :: payload
  body ++ bytes16 (crc16 body).toNat

/-! ### Payloads of the frames this lane takes -/

/-- TIME: window, tenths, next share class (R12). -/
def timeForm : List Byte → Option (GatePoint × Nat)
  | [w, hi, lo, c] => some (⟨w, hi.toNat * 256 + lo.toNat⟩, c.toNat)
  | _ => none

/-- RELEASE and REFUSE: lane and visit number (02, section 2.7). -/
def clerkForm : List Byte → Option (Byte × VisitNumber)
  | [l, hi, lo, _] => some (l, BitVec.ofNat 16 (hi.toNat * 256 + lo.toNat))
  | _ => none

/-- A loan frame: window and ask number (R90 to R97). -/
def loanForm : List Byte → Option (Window × Byte)
  | [w, n] => some (w, n)
  | _ => none

/-- BLOCK_NOTE: block and window (R138). -/
def noteForm : List Byte → Option (Text × Window)
  | [a, b, w, _] => (textWithin 2 2 [a, b]).map (·, w)
  | _ => none

/-- ALERT_CLEAR: the flag set (R158). -/
def flagSetForm : List Byte → Option (BitVec 16)
  | [hi, lo] => some (BitVec.ofNat 16 (hi.toNat * 256 + lo.toNat))
  | _ => none

/-- BOOKING_CANCEL: a reference of 1 to 12 characters (R64). -/
def cancelForm (bs : List Byte) : Option Text :=
  match takeTextWithin 1 12 bs with
  | some (ref, rest) => if atPayloadEnd rest then some ref else none
  | none => none

/-- CLAIM: reference and claim key (R77). -/
def claimForm (bs : List Byte) : Option (Text × GatePoint) :=
  match takeTextWithin 1 12 bs with
  | some (ref, w :: hi :: lo :: rest) =>
    if atPayloadEnd rest then some (ref, ⟨w, hi.toNat * 256 + lo.toNat⟩) else none
  | _ => none

/-- CLAIM_END: reference and result, 01h USED or 02h RELEASED (R80). -/
def claimEndForm (bs : List Byte) : Option (Text × ClaimResult) :=
  match takeTextWithin 1 12 bs with
  | some (ref, r :: rest) =>
    if !atPayloadEnd rest then none
    else if r = 0x01 then some (ref, .used) else if r = 0x02 then some (ref, .released) else none
  | _ => none

/-- The kind of a move by code (R173). -/
def moveKindOf (n : Nat) : MoveKind :=
  match n with
  | 0 => .dropFull
  | 1 => .dropEmpty
  | 2 => .pickFull
  | _ => .pickEmpty

/-- The container code of a move: absent for PICK_EMPTY, else eleven characters (R63, R173). -/
def takeMoveCode (k : MoveKind) (bs : List Byte) : Option (Option Text × List Byte) :=
  if k = .pickEmpty then some (none, bs)
  else match takeBytes 11 bs with
    | some (raw, rest) => (containerCode raw).map (fun c => (some c, rest))
    | none => none

/-- One move with its form checks (R64). -/
def takeMove (bs : List Byte) : Option (Move × List Byte) :=
  match bs with
  | [] => none
  | h :: bs1 =>
    let kind := moveKindOf (h.toNat / 64)
    let nSeals := h.toNat / 4 % 4
    let nBlocks := h.toNat % 4
    match takeMoveCode kind bs1 with
    | none => none
    | some (code, bs2) =>
      match takeMany (takeTextWithin 1 15) nSeals bs2 with
      | none => none
      | some (seals, bs3) =>
        match takeMany takeBlockId nBlocks bs3 with
        | none => none
        | some (blocks, rest) =>
          let m : Move := ⟨kind, code, h.toNat / 16 % 4, seals, blocks⟩
          if (kind = .dropFull || nSeals = 0) && nSeals ≤ 2 && decide seals.Nodup
              && (if m.isDrop then 1 ≤ nBlocks else nBlocks = 1) then some (m, rest)
          else none

/-- A BOOKING frame's content (04, section 4.2). -/
structure BookingForm where
  ref : Text
  plate : Text
  window : Window
  moves : List Move
  reissue : Bool
deriving DecidableEq, Repr

/-- Two drop moves of one booking name different containers (R64). -/
def dropsDiffer (moves : List Move) : Bool := decide ((moves.filter Move.isDrop).map (·.code)).Nodup

/-- A BOOKING frame with its form checks (R64). -/
def bookingForm (bs : List Byte) : Option BookingForm :=
  match bs with
  | [] => none
  | flags :: bs1 =>
    match takeTextWithin 1 12 bs1 with
    | none => none
    | some (ref, bs2) =>
      match takeTextWithin 1 10 bs2 with
      | none => none
      | some (plate, bs3) =>
        match bs3 with
        | w :: n :: bs4 =>
          if n = 1 || n = 2 then
            match takeMany takeMove n.toNat bs4 with
            | none => none
            | some (moves, rest) =>
              if atPayloadEnd rest && dropsDiffer moves then some ⟨ref, plate, w, moves, flags.getLsbD 0⟩ else none
          else none
        | _ => none

/-! ### Configuration parts (R177, R178) -/

/-- A valid part, clamped. -/
inductive ConfigPart
  | general (g : General)
  | zones (zs : List Zone)
  | profilesA (ps : List (List Nat))
  | profilesB (ps : List (List Nat))
  | blocks (bs : List BlockEntry)
deriving DecidableEq, Repr

/-- A number clamped to the nearer limit. -/
def clamp (lo hi n : Nat) : Nat := max lo (min hi n)

/-- A polarity by code (R173). -/
def polarityOf (b : Byte) : Option Polarity :=
  if b = 0 then some .activeHigh else if b = 1 then some .activeLow else none

/-- The six polarities (R178). -/
def polaritiesOf : List Byte → Option (LineSet Polarity)
  | [a, p, s, x, sc, b] =>
    match polarityOf a, polarityOf p, polarityOf s, polarityOf x, polarityOf sc, polarityOf b with
    | some a, some p, some s, some x, some sc, some b => some ⟨a, p, s, x, sc, b⟩
    | _, _, _, _, _, _ => none
  | _ => none

/-- The GENERAL part: 25 bytes after the part code (R173, R178). -/
def generalForm : List Byte → Option General
  | [l, ge, gl, s0, s1, s2, s3, res, thr, hold, p0, p1, p2, p3, p4, p5, deb, m1, m0, a, n1, n0, j1, j0, h] =>
    match polaritiesOf [p0, p1, p2, p3, p4, p5] with
    | none => none
    | some pol =>
      if l.toNat ∈ [15, 20, 30, 60] && a.toNat ∈ [1, 2, 4, 8] then
        let minor := clamp 0 4095 (n1.toNat * 256 + n0.toNat)
        let major := clamp 0 4095 (j1.toNat * 256 + j0.toNat)
        some { windowMinutes := l.toNat, graceEarly := clamp 0 120 ge.toNat, graceLate := clamp 0 120 gl.toNat
               shares := [s0, s1, s2, s3].map (fun b => clamp 0 15 b.toNat), reserve := clamp 0 15 res.toNat
               plateThreshold := clamp 0 100 thr.toNat, holdMinutes := clamp 1 15 hold.toNat, polarity := pol
               debounceMs := clamp 0 255 deb.toNat, alertMask := BitVec.ofNat 16 (m1.toNat * 256 + m0.toNat)
               samplesPerReading := a.toNat, bandMinor := minor, bandMajor := max major minor
               hardLimit := clamp 1 255 h.toNat }
      else none
  | _ => none

/-- One zone of the ZONES part (R111, R178). -/
def takeZone : List Byte → Option (Zone × List Byte)
  | e :: o1 :: o0 :: t :: w :: rest =>
    if e.toNat ≤ 1 then
      some (⟨e = 1, clamp 0 1023 (o1.toNat * 256 + o0.toNat), clamp 0 63 t.toNat, clamp 1 4 w.toNat⟩, rest)
    else none
  | _ => none

/-- One expected distance (R112, R178). -/
def takeDistance (bs : List Byte) : Option (Nat × List Byte) := (takeNat16 bs).map (fun (n, r) => (clamp 0 2047 n, r))

/-- One block entry (R132, R178). -/
def takeBlockEntry (bs : List Byte) : Option (BlockEntry × List Byte) :=
  match takeBlockId bs with
  | some (ident, k :: c1 :: c0 :: rest) =>
    let kind? : Option BlockKind := match k.toNat with
      | 0 => some .stack
      | 1 => some .inspection
      | 2 => some .buffer
      | 3 => some .overflow
      | _ => none
    kind?.map (fun kind => (⟨ident, kind, clamp 0 255 (c1.toNat * 256 + c0.toNat), 0⟩, rest))
  | _ => none

/-- The structural demands on a Block Table (R132, R178). -/
def blocksSound (bs : List BlockEntry) : Bool :=
  decide (bs.map (·.ident)).Nodup && bs.countP (fun e => e.kind == .overflow) == 1
    && bs.any (fun e => e.kind == .inspection) && bs.any (fun e => e.kind == .buffer)

/-- What remains after a part is at most the pad byte (R177: the length is right). -/
def wholePart {α β : Type} (f : α → β) : Option (α × List Byte) → Option β
  | some (a, rest) => if atPayloadEnd rest then some (f a) else none
  | none => none

/-- A CONFIG payload: the part, or none where it is refused (R177, R178). -/
def configForm : List Byte → Option ConfigPart
  | [] => none
  | code :: body =>
    match code.toNat with
    | 1 => (generalForm body).map .general
    | 2 => wholePart .zones (takeMany takeZone 12 body)
    | 3 => wholePart .profilesA (takeMany (takeMany takeDistance 12) 2 body)
    | 4 => wholePart .profilesB (takeMany (takeMany takeDistance 12) 2 body)
    | 5 =>
      match body with
      | n :: rest =>
        if 1 ≤ n.toNat && n.toNat ≤ 16 then
          match takeMany takeBlockEntry n.toNat rest with
          | some (bs, left) => if atPayloadEnd left && blocksSound bs then some (.blocks bs) else none
          | none => none
        else none
      | [] => none
    | _ => none

end Sys2Proof.Machine
end

