-- ==== Sys2Proof/Machine/Transmit.lean ====
section
/-! DEFINITION. The Transmit Queue and the outboxes as lists (R166, R167), before any owner is told. -/

namespace Sys2Proof.Machine

/-- A frame enters behind every frame of its own or a lower class and ahead of every frame of a higher class (R166). -/
def insertFrame (e : TxEntry) : List TxEntry → List TxEntry
  | [] => [e]
  | x :: xs => if x.frame.cls ≤ e.frame.cls then x :: insertFrame e xs else e :: x :: xs

/-- The youngest class-2 frame that is not in transmission, and the queue without it (R167). -/
def displaceYoungest : List TxEntry → Option (TxFrame × List TxEntry)
  | [] => none
  | x :: xs =>
    match displaceYoungest xs with
    | some (f, rest) => some (f, x :: rest)
    | none => if x.frame.cls = 2 && !x.sending then some (x.frame, xs) else none

/-- The queue after `f` has entered it. -/
def withFrame (f : TxFrame) (q : List TxEntry) : List TxEntry := insertFrame ⟨f, false⟩ q

/-- Free places of the Transmit Queue, of 8 (R166). -/
def State.txFree (s : State) : Nat := 8 - s.bus.txQueue.length

/-- The queue is replaced. -/
def State.setTxQueue (q : List TxEntry) (s : State) : State := { s with bus := { s.bus with txQueue := q } }

/-- A frame enters the queue; used only where it is not full. -/
def State.enqueue (f : TxFrame) (s : State) : State := s.setTxQueue (withFrame f s.bus.txQueue)

/-- The frame waiting in a block's outbox (R167). -/
def State.outbox? (s : State) (o : OutboxOwner) : Option OutboxEntry := s.bus.outboxes.find? (fun e => e.owner == o)

/-- The outboxes are replaced. -/
def State.setOutboxes (os : List OutboxEntry) (s : State) : State := { s with bus := { s.bus with outboxes := os } }

/-- A place has become free: the older outbox frame enters at once (R167). -/
def State.drainOutbox (s : State) : State :=
  match s.bus.outboxes with
  | [] => s
  | e :: es => if 0 < s.txFree then (s.enqueue e.frame).setOutboxes es else s

end Sys2Proof.Machine
end

