-- ==== Sys2Proof/Machine/Flags.lean ====
section
/-! DEFINITION. Alert flags with their condition marks, ALERT_N, STATUS frames, the ten counters, and the admission of
frames to the Transmit Queue with what each displaced frame does to its owner (R155 to R160, R166, R167). -/

namespace Sys2Proof.Machine

/-! ### The flags -/

/-- One flag. -/
def AlertFlags.get (fs : AlertFlags) : AlertFlag → FlagState
  | .barrier => fs.barrier
  | .display => fs.display
  | .surveyChannel => fs.surveyChannel
  | .laneOverflow => fs.laneOverflow
  | .bus => fs.bus
  | .gatewaySilent => fs.gatewaySilent
  | .records => fs.records
  | .idClash => fs.idClash

/-- One flag replaced. -/
def AlertFlags.put (fs : AlertFlags) (f : AlertFlag) (st : FlagState) : AlertFlags :=
  match f with
  | .barrier => { fs with barrier := st }
  | .display => { fs with display := st }
  | .surveyChannel => { fs with surveyChannel := st }
  | .laneOverflow => { fs with laneOverflow := st }
  | .bus => { fs with bus := st }
  | .gatewaySilent => { fs with gatewaySilent := st }
  | .records => { fs with records := st }
  | .idClash => { fs with idClash := st }

/-- The eight latched flags in bit order (R173). -/
def AlertFlag.all : List AlertFlag :=
  [.barrier, .display, .surveyChannel, .laneOverflow, .bus, .gatewaySilent, .records, .idClash]

/-- The bit of a latched flag in the flag set's low byte (R173). -/
def AlertFlag.bit (f : AlertFlag) : Nat := f.ctorIdx

/-- A flag's state. -/
def State.flag (s : State) (f : AlertFlag) : FlagState := s.outcome.flags.get f

/-- The flag set: the latched flags in bits 0 to 7, HOLD_WAITING in bit 8 (R173). -/
def State.flagWord (s : State) : BitVec 16 :=
  AlertFlag.all.foldl (fun w f => if (s.flag f).isSet then w ||| BitVec.ofNat 16 (2 ^ f.bit) else w)
    (if s.outcome.holdWaiting then 0x100 else 0)

/-- What ALERT_N must be: low while some unmasked flag is set, and under a strap fault (R5, R156). -/
def State.alertDue (s : State) : Bool := s.start.strapFault || (s.flagWord &&& ~~~s.alertMask) != 0

/-- ALERT_N is driven (R156). -/
def State.driveAlertN (s : State) : State := { s with outcome := { s.outcome with alertLow := s.alertDue } }

/-- A flag's state is replaced. -/
def State.putFlag (f : AlertFlag) (st : FlagState) (s : State) : State :=
  { s with outcome := { s.outcome with flags := s.outcome.flags.put f st } }

/-- The status due mark is set or cleared. -/
def State.setStatusDue (b : Bool) (s : State) : State := { s with outcome := { s.outcome with statusDue := b } }

/-! ### STATUS frames (R157) -/

/-- A STATUS stands in the Transmit Queue. -/
def State.statusWaiting (s : State) : Bool := s.bus.txQueue.any (fun e => e.frame.kind == .status)

/-- A STATUS is built from the present flags and mode and handed over; finding no place it is dropped and status due
clears. -/
def State.handStatus (s : State) : State :=
  if s.txFree = 0 then s.setStatusDue false else s.enqueue (.status s.flagWord s.visits.mode)

/-- A change of the flag set or of the lane mode: a STATUS is handed over, or status due is set where one waits. -/
def State.reportStatus (s : State) : State := if s.statusWaiting then s.setStatusDue true else s.handStatus

/-- A change of the flag set: ALERT_N is driven and the change reported (R156, R157). -/
def State.flagSetChanged (s : State) : State := s.driveAlertN.reportStatus

/-- A block reports the cause of a flag: it is set and its condition stands (R155). Only a flag that was clear changes
the flag set (R157). -/
def State.latch (f : AlertFlag) (s : State) : State :=
  if (s.flag f).isSet then s.putFlag f ⟨true, true⟩ else (s.putFlag f ⟨true, true⟩).flagSetChanged

/-- A block reports the end of a flag's condition: the mark is ended, the flag stays (R155). -/
def State.endCondition (f : AlertFlag) (s : State) : State := s.putFlag f ⟨(s.flag f).isSet, false⟩

/-- The condition mark of a set flag follows `b`; a clear flag stays clear (log 23). -/
def State.markCondition (f : AlertFlag) (b : Bool) (s : State) : State :=
  if (s.flag f).isSet then s.putFlag f ⟨true, b⟩ else s

/-- HOLD_WAITING follows what the Visit Engine reports (R34, R156). -/
def State.setHoldWaiting (b : Bool) (s : State) : State :=
  if s.outcome.holdWaiting = b then s
  else { s with outcome := { s.outcome with holdWaiting := b } : State }.flagSetChanged

/-- The number of visits in HOLD or PARKED is reported (R34). -/
def State.reportHolds (s : State) : State := s.setHoldWaiting (0 < s.holdCount)

/-! ### Counters (R159) -/

/-- One counter. -/
def Counters.get (c : Counters) : Counter → Nat
  | .crcErrors => c.crcErrors
  | .rxOverruns => c.rxOverruns
  | .txDrops => c.txDrops
  | .orphanReads => c.orphanReads
  | .orphanPasses => c.orphanPasses
  | .bookingsDropped => c.bookingsDropped
  | .updatesRefused => c.updatesRefused
  | .closedArrivals => c.closedArrivals
  | .framesIgnored => c.framesIgnored
  | .arrivalsLost => c.arrivalsLost

/-- One counter replaced. -/
def Counters.put (c : Counters) (k : Counter) (n : Nat) : Counters :=
  match k with
  | .crcErrors => { c with crcErrors := n }
  | .rxOverruns => { c with rxOverruns := n }
  | .txDrops => { c with txDrops := n }
  | .orphanReads => { c with orphanReads := n }
  | .orphanPasses => { c with orphanPasses := n }
  | .bookingsDropped => { c with bookingsDropped := n }
  | .updatesRefused => { c with updatesRefused := n }
  | .closedArrivals => { c with closedArrivals := n }
  | .framesIgnored => { c with framesIgnored := n }
  | .arrivalsLost => { c with arrivalsLost := n }

/-- The counters are replaced. -/
def State.setCounters (c : Counters) (s : State) : State := { s with outcome := { s.outcome with counters := c } }

/-- A counter rises by one and saturates at 255. CRC_ERRORS rising to 32 latches BUS (R159). -/
def State.count (k : Counter) (s : State) : State :=
  let n := s.outcome.counters.get k
  let s' := s.setCounters (s.outcome.counters.put k (satAdd 255 n 1))
  if k = .crcErrors && n + 1 = 32 then s'.latch .bus else s'

/-- Each counter of `a` added to that of `b`, saturating at 255 (R160). -/
def Counters.add (a b : Counters) : Counters :=
  ⟨satAdd 255 a.crcErrors b.crcErrors, satAdd 255 a.rxOverruns b.rxOverruns, satAdd 255 a.txDrops b.txDrops,
   satAdd 255 a.orphanReads b.orphanReads, satAdd 255 a.orphanPasses b.orphanPasses,
   satAdd 255 a.bookingsDropped b.bookingsDropped, satAdd 255 a.updatesRefused b.updatesRefused,
   satAdd 255 a.closedArrivals b.closedArrivals, satAdd 255 a.framesIgnored b.framesIgnored,
   satAdd 255 a.arrivalsLost b.arrivalsLost⟩

/-- The values of a COUNTERS frame that was displaced or found no place are added back (R160). -/
def State.addBack (c : Counters) (s : State) : State :=
  let sum := s.outcome.counters.add c
  let s' := s.setCounters sum
  if s.outcome.counters.crcErrors < 32 && 32 ≤ sum.crcErrors then s'.latch .bus else s'

/-! ### LANE_OVERFLOW (R22, R155) -/

/-- The condition of LANE_OVERFLOW follows the reported pending-arrival count (R155). -/
def State.overflowSense (s : State) : State := s.markCondition .laneOverflow (3 ≤ s.visits.pendingArrivals)

/-- An arrival is lost: counted, and LANE_OVERFLOW latches with its condition taken from the count (R22, R24). -/
def State.arrivalLost (s : State) : State := ((s.count .arrivalsLost).latch .laneOverflow).overflowSense

/-! ### Handing frames to the Peer Bus Interface (R166, R167) -/

/-- The owner of a displaced frame is told (R167). Only class-2 frames are displaced. -/
def State.displaced (f : TxFrame) (s : State) : State :=
  match f with
  | .outcome _ => { s with outcome := { s.outcome with offered := false } }
  | .status _ _ => s.setStatusDue false
  | .counters c => s.addBack c
  | _ => s

/-- A class-0 frame of a block is handed over: it enters; or displaces the youngest class-2 frame; or waits in the
block's outbox; or is lost (R166, R167). Where a class-2 frame gives way while the block's outbox is occupied, the
outbox frame takes the place and the new frame the outbox, so that the block's order holds. DESIGN CHOICE: the place goes to this
block's own frame whether or not the other block's outbox holds an older one (log 19). -/
def State.handClass0 (o : OutboxOwner) (f : TxFrame) (s : State) : State :=
  if 0 < s.txFree then s.enqueue f
  else match displaceYoungest s.bus.txQueue, s.outbox? o with
    | some (g, q), none => (s.setTxQueue (withFrame f q)).displaced g
    | some (g, q), some old =>
      (((s.setTxQueue (withFrame old.frame q)).setOutboxes
        (s.bus.outboxes.filter (fun e => e.owner != o) ++ [⟨o, f⟩])).displaced g)
    | none, none => s.setOutboxes (s.bus.outboxes ++ [⟨o, f⟩])
    | none, some _ => s

/-- A BLOCK_NOTE is handed over; on a full queue it is dropped and TX_DROPS counts one (R138, R166). -/
def State.handNote (block : Text) (w : Window) (s : State) : State :=
  if s.txFree = 0 then s.count .txDrops else s.enqueue (.blockNote block w)

/-- A COUNTERS frame is handed over; finding no place its values are added back (R160). -/
def State.handCounters (c : Counters) (s : State) : State :=
  if s.txFree = 0 then s.addBack c else s.enqueue (.counters c)

/-- The oldest FILLED record is offered when the lane is not degraded, no place is offered and two places of the Transmit
Queue are free (R154). -/
def State.offerOutcome (s : State) : State :=
  match s.outcome.filled with
  | [] => s
  | r :: _ =>
    if !s.bus.degraded && !s.outcome.offered && 2 ≤ s.txFree then
      { s.enqueue (.outcome r) with outcome := { s.outcome with offered := true } }
    else s

/-! ### Places of the Outcome Queue (R151, R152) -/

/-- Places RESERVED or FILLED. -/
def State.placesUsed (s : State) : Nat := s.outcome.reserved.length + s.outcome.filled.length

/-- A FREE place becomes RESERVED for a visit; taking the last one latches RECORDS (R152). Used where one is FREE. -/
def State.reservePlace (n : VisitNumber) (s : State) : State :=
  let s' : State := { s with outcome := { s.outcome with reserved := s.outcome.reserved ++ [n] } }
  if s'.placesUsed = 16 then s'.latch .records else s'

end Sys2Proof.Machine
end

