-- ==== Sys2Proof/Machine/Reads.lean ====
section
/-! DEFINITION. What a read does to a visit record, and what portal close makes of the reads: plates, codes and their
merge (R53 to R56), seals (R57, R101, R102), read sets and closure outcomes (R104 to R108). No state but the record. -/

namespace Sys2Proof.Machine

/-! ### Plates and codes -/

/-- A PLATE attached: a higher confidence replaces, an equal or lower one does not (R53). -/
def Visit.takePlate (text : Text) (confidence : Nat) (v : Visit) : Visit :=
  if v.plate = none ∨ v.confidence < confidence then { v with plate := some text, confidence := confidence } else v

/-- A CODE attached to a slot: by the slot's status and the check-digit result (R55). The size class goes with the code
(R56). DESIGN CHOICE: a CODE that repeats the slot's VALID code leaves the stored size class as it was, present or absent, since R55
says Unchanged (log 45). -/
def ContainerSlot.takeCode (text : Text) (size : Option Nat) (passes : Bool) (c : ContainerSlot) : ContainerSlot :=
  match c.status with
  | .none | .checkFail => { c with code := some text, size := size, status := if passes then .valid else .checkFail }
  | .valid => if passes && c.code != some text then { c with status := .conflict } else c
  | .conflict => c

/-- The REAR slot's code result taken for FRONT after FRONT's own reads (R56). A REAR CONFLICT is its first VALID code
and then a differing one (log 15). DESIGN CHOICE: where both are VALID and equal, FRONT keeps its own size class (log 45). -/
def mergeCodes (front rear : ContainerSlot) : ContainerSlot :=
  match front.status, rear.status with
  | _, .none => front
  | .none, st => { front with code := rear.code, size := rear.size, status := st }
  | .checkFail, st => { front with code := rear.code, size := rear.size, status := st }
  | .valid, .valid => if rear.code = front.code then front else { front with status := .conflict }
  | .valid, .checkFail => front
  | .valid, .conflict => { front with status := .conflict }
  | .conflict, _ => front

/-- With an inbound count of 1 the REAR code merges into FRONT and REAR then has none (R56). -/
def Visit.mergeRear (v : Visit) : Visit :=
  if v.inbound = 1 then
    { v with front := mergeCodes v.front v.rear, rear := { v.rear with code := none, size := none, status := .none } }
  else v

/-- The reason the code of an inbound container gives against its booked code (R75). -/
def codeReason (booked : Option Text) (c : ContainerSlot) : List Reason :=
  match c.status with
  | .none | .checkFail => [.codeUnread]
  | .valid => if c.code = booked then [] else [.codeMismatch]
  | .conflict => [.codeMismatch]

/-! ### Seals -/

/-- NO_REPLY ranks below INTACT, INTACT below OPENED (R102). -/
def TagState.rank : TagState → Nat
  | .noReply => 0
  | .intact => 1
  | .opened => 2

/-- The higher of the state held and the state reported (R102). -/
def higherTag : Option TagState → Option TagState → Option TagState
  | some a, some b => if a.rank < b.rank then some b else some a
  | some a, none => some a
  | none, b => b

/-- An entry updated by a report of the same text (R102). -/
def SealEntry.update (held reported : SealEntry) : SealEntry :=
  match held.kind, reported.kind with
  | .electronic, .electronic => { held with tag := higherTag held.tag reported.tag }
  | .electronic, _ => held
  | _, .electronic => { held with kind := .electronic, tag := reported.tag }
  | _, _ => held

/-- A text stands in a seal list. -/
def hasSeal (text : Text) (l : List SealEntry) : Bool := l.any (fun e => e.text == text)

/-- An entry joins a list, or updates the entry of its text (R102). -/
def addSeal (e : SealEntry) (l : List SealEntry) : List SealEntry :=
  if hasSeal e.text l then l.map (fun h => if h.text = e.text then h.update e else h) else l ++ [e]

/-- A SEAL placed against a slot; none is a fourth seal (R57). -/
def ContainerSlot.takeSeal (e : SealEntry) (c : ContainerSlot) : Option ContainerSlot :=
  if hasSeal e.text c.seals || c.seals.length < 3 then some { c with seals := addSeal e c.seals } else none

/-- A report written into a visit's record; none is a fourth seal, which is not taken (R50, R57). -/
def Visit.attach (r : Report) (v : Visit) : Option Visit :=
  match r with
  | .plate t c => some (v.takePlate t c)
  | .code p t z ok => some (v.updSlot p (ContainerSlot.takeCode t z ok))
  | .sealRead p e => ((v.slot p).takeSeal e).map (fun c => v.updSlot p (fun _ => c))

/-! ### Closure (06) -/

/-- The read set of the FRONT container: with an inbound count of 1 both lists together, REAR after FRONT (R104). -/
def Visit.readSet (v : Visit) (p : Position) : List SealEntry :=
  if v.inbound = 1 then v.rear.seals.foldl (fun l e => addSeal e l) v.front.seals else (v.slot p).seals

/-- An expected seal is read when an entry of the read set has its text (R106). -/
def sealsRead (expected : List Text) (set : List SealEntry) : Bool := expected.all (fun t => hasSeal t set)

/-- An entry of the read set that agrees with no expected seal (R106). -/
def hasSurplus (expected : List Text) (set : List SealEntry) : Bool := set.any (fun e => !expected.contains e.text)

/-- The closure outcome of an inbound container: the first line that holds (R107). -/
def closureOf (expected : List Text) (set : List SealEntry) : ClosureOutcome :=
  if set.any (fun e => e.kind == .electronic && e.tag == some .opened) then .tampered
  else if !expected.isEmpty && set.isEmpty then .missing
  else if !expected.isEmpty && !sealsRead expected set then .mismatch
  else if !expected.isEmpty then .fits
  else if set.isEmpty then .none
  else .unexpected

/-- The reason a closure outcome gives (R108). -/
def closureReason (expected : List Text) (set : List SealEntry) : List Reason :=
  match closureOf expected set with
  | .tampered => [.sealTampered]
  | .missing => [.sealMissing]
  | .mismatch => [.sealMismatch]
  | .fits => if hasSurplus expected set then [.sealExtra] else []
  | .unexpected => [.sealUnexpected]
  | .none | .notChecked => []

end Sys2Proof.Machine
end

