-- ==== Sys2Proof/Machine/Booking.lean ====
section
/-! DEFINITION. The Booking Store: the table, records from the office station (R62 to R70), selection (R71 to R74), the
order of claims (R76) and the end of this lane's own claims (R79). -/

namespace Sys2Proof.Machine

/-! ### The table -/

/-- The table is replaced. -/
def State.setTable (t : List (Option Booking)) (s : State) : State := { s with booking := { s.booking with table := t } }

/-- The record with a reference. -/
def State.booking? (s : State) (ref : Text) : Option Booking :=
  (s.booking.table.filterMap id).find? (fun b => b.ref == ref)

/-- The record with a reference is changed, or removed where `f` answers none. -/
def updRecord (ref : Text) (f : Booking → Option Booking) (t : List (Option Booking)) : List (Option Booking) :=
  t.map (fun o => match o with
    | some b => if b.ref = ref then f b else some b
    | none => none)

/-- A record goes into the lowest-numbered empty place (R66). -/
def fillEmpty (b : Booking) : List (Option Booking) → List (Option Booking)
  | [] => []
  | none :: t => some b :: t
  | some c :: t => some c :: fillEmpty b t

/-- The expiry condition of R70: dist(Wb → window) × L × 60 ≥ L × 60 + Gl × 60. -/
def bookingExpired (g : General) (window booked : Window) : Bool :=
  decide ((g.windowMinutes * 60 + g.graceLate * 60 : Int) ≤ winDist booked window * (g.windowMinutes * 60))

/-- A record that has left its claim is tested for expiry against the current window (R70, R79, R80). -/
def State.keepUnlessExpired (s : State) (b : Booking) : Option Booking :=
  match s.booking.window with
  | some w => if bookingExpired s.general w b.window then none else some b
  | none => some b

/-- A roll notice at the Booking Store: every record not HERE that meets the expiry condition leaves (R70). -/
def State.bookingRoll (w : Window) (s : State) : State :=
  { s with booking := { window := some w
                        table := s.booking.table.map (fun o => match o with
                          | some b =>
                            match b.state with
                            | .here _ _ => some b
                            | _ => if bookingExpired s.general w b.window then none else some b
                          | none => none) } }

/-! ### BOOKING frames (R65 to R68) -/

/-- The record a BOOKING frame makes: OPEN, with no claim (R66, R68). -/
def BookingForm.record (f : BookingForm) : Booking := ⟨f.ref, f.plate, f.window, f.moves, .available⟩

/-- The OPEN record farthest ahead of the current window; among equal windows the lowest-numbered place (R67). -/
def farthestOpen (ws : Window) : List (Option Booking) → Option Booking
  | [] => none
  | o :: t =>
    match o, farthestOpen ws t with
    | some b, some c => if b.state = .available ∧ winDist ws c.window ≤ winDist ws b.window then some b else some c
    | some b, none => if b.state = .available then some b else none
    | none, c => c

/-- A BOOKING for a new reference: the lowest empty place, or the displaced candidate's place, or dropped (R66, R67). -/
def State.insertBooking (f : BookingForm) (ws : Window) (s : State) : State :=
  if s.booking.table.any Option.isNone then s.setTable (fillEmpty f.record s.booking.table)
  else match farthestOpen ws s.booking.table with
    | some c =>
      if 0 < winDist f.window c.window then
        (s.setTable (fillEmpty f.record (updRecord c.ref (fun _ => none) s.booking.table))).count .bookingsDropped
      else s.count .bookingsDropped
    | none => s.count .bookingsDropped

/-- A BOOKING for a reference in the table replaces the record or is refused (R68). -/
def State.replaceBooking (f : BookingForm) (b : Booking) (s : State) : State :=
  let replaced := s.setTable (updRecord f.ref (fun _ => some f.record) s.booking.table)
  match b.state with
  | .available | .cancelled => replaced
  | .here _ _ => s.count .updatesRefused
  | .elsewhere _ _ | .used => if f.reissue then replaced else s.count .updatesRefused

/-- A well-formed BOOKING is tested against the booking horizon and taken (R65). -/
def State.takeBooking (f : BookingForm) (s : State) : State :=
  match s.booking.window with
  | none => s.count .framesIgnored
  | some ws =>
    if 8 < winDist ws f.window || bookingExpired s.general ws f.window then s.count .framesIgnored
    else match s.booking? f.ref with
      | some b => s.replaceBooking f b
      | none => s.insertBooking f ws

/-! ### Selection (R71 to R74) -/

/-- A container slot supplies a code match for a code (R71). -/
def ContainerSlot.suppliesCode (c : ContainerSlot) (code : Option Text) : Bool :=
  c.status == .valid && code.isSome && c.code == code

/-- A record matches a visit by the code of a drop move (R71). -/
def Booking.matchesCode (v : Visit) (b : Booking) : Bool :=
  b.moves.any (fun m => m.isDrop && (v.front.suppliesCode m.code || v.rear.suppliesCode m.code))

/-- A record matches a visit by its plate at or above the plate threshold (R71). -/
def Booking.matchesPlate (threshold : Nat) (v : Visit) (b : Booking) : Bool :=
  v.plate == some b.plate && threshold ≤ v.confidence

/-- A matching record (R71). -/
def Booking.matchesVisit (threshold : Nat) (v : Visit) (b : Booking) : Bool :=
  b.matchesCode v || b.matchesPlate threshold v

/-- Candidate `a`, in a lower-numbered place, ranks before candidate `b` (R72). -/
def ranksFirst (v : Visit) (wc : Window) (a b : Booking) : Bool :=
  let da := winDist a.window wc
  let db := winDist b.window wc
  if a.matchesCode v != b.matchesCode v then a.matchesCode v
  else if da.natAbs ≠ db.natAbs then da.natAbs < db.natAbs
  else decide (db ≤ da)

/-- The selected record: the first of the candidates in the ranking (R71, R72). -/
def selectBooking (threshold : Nat) (v : Visit) (wc : Window) : List (Option Booking) → Option Booking
  | [] => none
  | o :: t =>
    match o, selectBooking threshold v wc t with
    | some b, some c =>
      if b.state = .available ∧ b.matchesVisit threshold v then if ranksFirst v wc b c then some b else some c else some c
    | some b, none => if b.state = .available ∧ b.matchesVisit threshold v then some b else none
    | none, c => c

/-- The reasons of a visit for which no candidate was selected, from its matching records (R74). -/
def missReasons (threshold : Nat) (v : Visit) (t : List (Option Booking)) : List Reason :=
  let matching := (t.filterMap id).filter (fun b => b.matchesVisit threshold v)
  let dup := matching.any (fun b => match b.state with | .here _ _ | .elsewhere _ _ => true | _ => false)
  let cancelled := matching.any (fun b => b.state == .cancelled)
  (if dup then [.duplicate] else []) ++ (if cancelled then [.bookingCancelled] else [])
    ++ (if dup || cancelled then [] else [.bookingUnknown])

/-- The claim on the selected record is taken for a visit (R73). -/
def State.takeClaim (n : VisitNumber) (b : Booking) (s : State) : State :=
  let s1 := s.setTable (updRecord b.ref (fun b => some { b with state := .here s.point n }) s.booking.table)
  let s2 := s1.updVisit n (fun v => { v with ref := some b.ref, moves := b.moves, claimHeld := true })
  s2.handClass0 .bookingStore (.claim b.ref s.point)

/-- Selection at portal close; the booked window of the record selected is answered (R71 to R74). -/
def State.selectFor (v : Visit) (s : State) : Option Window × State :=
  let threshold := s.general.plateThreshold
  let s1 := if v.confidence < threshold then s.updVisit v.number (Visit.addReason .plateLowConf) else s
  match selectBooking threshold v s.clock.window s.booking.table with
  | some b => (some b.window, s1.takeClaim v.number b)
  | none => (none, s1.updVisit v.number (Visit.addReasons (missReasons threshold v s.booking.table)))

/-! ### Claims -/

/-- Of two claims, the first is the earlier: by window distance, then tenths, then lane identifier (R76). -/
def claimEarlier (ka : GatePoint) (la : LaneId) (kb : GatePoint) (lb : LaneId) : Bool :=
  let d := winDist ka.window kb.window
  decide (0 < d ∨ (d = 0 ∧ (ka.tenths < kb.tenths ∨ (ka.tenths = kb.tenths ∧ la.toNat < lb.toNat))))

/-- The state of a record whose claim has ended (R79, R80). -/
def ClaimResult.state : ClaimResult → BookingState
  | .used => .used
  | .released => .available

/-- This lane ends the claim of a visit: the record leaves HERE and is tested for expiry, the visit's claim-held flag
clears, and CLAIM_END is handed over (R79). -/
def State.endClaim (n : VisitNumber) (r : ClaimResult) (s : State) : State :=
  match s.visit? n with
  | none => s
  | some v =>
    match v.ref with
    | none => s
    | some ref =>
      let s1 := s.setTable (updRecord ref (fun b =>
        match b.state with
        | .here _ h => if h = n then s.keepUnlessExpired { b with state := r.state } else some b
        | _ => some b) s.booking.table)
      (s1.updVisit n (fun v => { v with claimHeld := false })).handClass0 .bookingStore (.claimEnd ref r)

/-- A peer's CLAIM_END: taken from the claimant of an ELSEWHERE record, ignored otherwise (R80). -/
def State.takeClaimEnd (source : LaneId) (ref : Text) (r : ClaimResult) (s : State) : State :=
  s.setTable (updRecord ref (fun b =>
    match b.state with
    | .elsewhere c _ => if c = source then s.keepUnlessExpired { b with state := r.state } else some b
    | _ => some b) s.booking.table)

end Sys2Proof.Machine
end

