-- ==== Sys2Proof/Machine/Survey.lean ====
section
/-! DEFINITION. The Survey Unit: passes and the converter (R114 to R120), dark runs (R121, R122), survey data, scores and
bands (R123 to R129). -/

namespace Sys2Proof.Machine

/-! ### The converter -/

/-- The indices from 0 of the enabled zones, in zone order. -/
def enabledZones (zs : List Zone) : List Nat := (zs.zipIdx.filter (fun p => p.1.enabled)).map (·.2)

/-- The enabled zone after index `i` in the sweep; after the highest, the lowest (R117). -/
def nextZone (zs : List Zone) (i : Nat) : Option Nat :=
  match (enabledZones zs).find? (fun j => i < j) with
  | some j => some j
  | none => (enabledZones zs).head?

/-- An accumulator in its starting state (R114). -/
def ZoneData.empty : ZoneData := ⟨none, none, 0, 0⟩

/-- The open pass is replaced. -/
def State.setPass (p : Option Pass) (s : State) : State := { s with survey := { s.survey with pass := p } }

/-- A pass opens; the converter begins at the lowest-numbered enabled zone (R114, R117). -/
def State.openPass (n : VisitNumber) (target : Position) (s : State) : State :=
  s.setPass (some ⟨n, target, List.replicate 12 .empty, (enabledZones s.zones).head?, 0, 0, false⟩)

/-- A sample is valid from 8 to 4087 (R118). -/
def sampleValid (raw : Nat) : Bool := 8 ≤ raw && raw ≤ 4087

/-- The value of a valid reading: the mean of its samples rounded to the nearest code, halves up (R118). -/
def readingValue (samples sum : Nat) : Nat := (sum + samples / 2) / samples

/-- A distance accumulated (R119). -/
def ZoneData.takeDistance (d : Nat) (z : ZoneData) : ZoneData :=
  { z with dmin := some (match z.dmin with | some m => min m d | none => d)
           dmax := some (match z.dmax with | some m => max m d | none => d)
           valid := satAdd 255 z.valid 1 }

/-- A complete reading: invalid counts one, valid gives D = Oz + floor(r / 2) (R118, R119). -/
def ZoneData.takeReading (offset samples sum : Nat) (spoilt : Bool) (z : ZoneData) : ZoneData :=
  if spoilt then { z with invalid := satAdd 255 z.invalid 1 }
  else z.takeDistance (offset + readingValue samples sum / 2)

/-- The pass after one sample: the reading goes on, or it completes and the converter moves to the next enabled zone
(R117, R118). -/
def Pass.takeSample (zs : List Zone) (samples raw : Nat) (p : Pass) : Pass :=
  match p.zone with
  | none => p
  | some z =>
    let spoilt := p.spoilt || !sampleValid raw
    let sum := p.sum + raw
    if p.taken + 1 < samples then { p with taken := p.taken + 1, sum := sum, spoilt := spoilt }
    else
      let offset := match zs[z]? with | some e => e.offset | none => 0
      { p with data := p.data.modify z (ZoneData.takeReading offset samples sum spoilt)
               zone := nextZone zs z, taken := 0, sum := 0, spoilt := false }

/-- The converter takes one sample while a pass is open (R117). -/
def State.sample (raw : Nat) (s : State) : State :=
  match s.survey.pass with
  | some p => s.setPass (some (p.takeSample s.zones s.general.samplesPerReading raw))
  | none => s

/-! ### Dark runs -/

/-- Readings of a zone in a pass, valid and invalid. -/
def ZoneData.readings (z : ZoneData) : Nat := z.valid + z.invalid

/-- The data of the zone at an index. -/
def zoneAt (data : PassSummary) (i : Nat) : ZoneData := data.getD i .empty

/-- The dark run of one zone after a pass (R121). -/
def darkRunAfter (zs : List Zone) (data : PassSummary) (i run : Nat) : Nat :=
  if i ∈ enabledZones zs then
    if 0 < (zoneAt data i).valid then 0
    else if 0 < (zoneAt data i).readings
        ∧ (enabledZones zs).any (fun j => j != i && decide (0 < (zoneAt data j).readings)) then min 3 (run + 1)
    else run
  else run

/-- All dark runs after a pass (R121). -/
def darkRunsAfter (zs : List Zone) (data : PassSummary) (runs : List Nat) : List Nat :=
  runs.zipIdx.map (fun p => darkRunAfter zs data p.2 p.1)

/-- The dark-run condition: an enabled zone at 3 (R122). -/
def darkCondition (zs : List Zone) (runs : List Nat) : Bool := (enabledZones zs).any (fun i => runs.getD i 0 == 3)

/-- Some enabled zone's run has just risen to 3 (R122). -/
def darkNewly (zs : List Zone) (before after : List Nat) : Bool :=
  (enabledZones zs).any (fun i => before.getD i 0 != 3 && after.getD i 0 == 3)

/-- The dark runs are settled at the end of a pass, and the condition reported (R121, R122). -/
def State.settleDark (data : PassSummary) (s : State) : State :=
  let before := s.survey.darkRuns
  let after := darkRunsAfter s.zones data before
  let s' : State := { s with survey := { s.survey with darkRuns := after } }
  if darkNewly s.zones before after then s'.latch .surveyChannel
  else if darkCondition s.zones before && !darkCondition s.zones after then s'.endCondition .surveyChannel
  else s'

/-- The open pass ends: the reading in progress is discarded, the accumulators become the summary of the target slot,
and the dark runs are settled (R115, R120, R121). -/
def State.endPass (s : State) : State :=
  match s.survey.pass with
  | none => s
  | some p =>
    ((s.setPass none).updVisit p.visit (Visit.updSlot p.target (fun c => { c with pass := some p.data }))).settleDark p.data

/-- Portal close ends a pass still open for the visit, with the note PASS_TRUNCATED (R116). -/
def State.truncatePass (n : VisitNumber) (s : State) : State :=
  match s.survey.pass with
  | some p => if p.visit = n then s.endPass.updVisit n (Visit.addReason .passTruncated) else s
  | none => s

/-- A SCAN occupied event (R114). -/
def State.scanOccupied (s : State) : State :=
  match s.portal? with
  | none => s.count .orphanPasses
  | some v =>
    if v.front.pass.isNone then s.openPass v.number .front
    else if v.rear.pass.isNone then s.openPass v.number .rear
    else s.updVisit v.number (Visit.addReason .extraPass)

/-! ### Scoring (R123 to R129) -/

/-- Two optional distances combined, taking only those present (R124). -/
def optCombine (f : Nat → Nat → Nat) : Option Nat → Option Nat → Option Nat
  | some a, some b => some (f a b)
  | some a, none => some a
  | none, b => b

/-- Two passes' data of one zone merged (R124). -/
def ZoneData.merge (a b : ZoneData) : ZoneData :=
  ⟨optCombine min a.dmin b.dmin, optCombine max a.dmax b.dmax, satAdd 255 a.valid b.valid, satAdd 255 a.invalid b.invalid⟩

/-- The survey data of an inbound container; none is no pass (R123). -/
def Visit.surveyData (v : Visit) (p : Position) : Option PassSummary :=
  if v.inbound = 1 then
    match v.front.pass, v.rear.pass with
    | some a, some b => some (List.zipWith ZoneData.merge a b)
    | a, none => a
    | none, b => b
  else (v.slot p).pass

/-- The peak of a zone: the larger departure of Dmax and Dmin from E, saturated at 255 (R126). -/
def peak (e dmin dmax : Nat) : Nat := min 255 (max (((dmax : Int) - e).natAbs) (((dmin : Int) - e).natAbs))

/-- The enabled zones with their peaks; no peak is an unsurveyed zone: no pass, no profile, or no valid reading
(R125, R126). -/
def zonePeaks (zs : List Zone) (profile : Option (List Nat)) (data : Option PassSummary) : List (Zone × Option Nat) :=
  (zs.zipIdx.filter (fun p => p.1.enabled)).map (fun p =>
    (p.1,
      match profile, data with
      | some es, some d =>
        match es[p.2]?, (zoneAt d p.2).dmin, (zoneAt d p.2).dmax with
        | some e, some lo, some hi => some (peak e lo hi)
        | _, _, _ => none
      | _, _ => none))

/-- The score of one zone: its excess over the tolerance times its weight; an unsurveyed zone gives nothing (R127). -/
def zoneScore (z : Zone) : Option Nat → Nat
  | some p => (p - z.tolerance) * z.weight
  | none => 0

/-- The damage score, saturated at 4095 (R127). -/
def damageScore (ps : List (Zone × Option Nat)) : Nat := min 4095 ((ps.map (fun p => zoneScore p.1 p.2)).sum)

/-- U, the count of unsurveyed zones (R125). -/
def unsurveyedCount (ps : List (Zone × Option Nat)) : Nat := ps.countP (fun p => p.2.isNone)

/-- The band: the first line that holds (R128). -/
def bandOf (g : General) (ps : List (Zone × Option Nat)) : Band :=
  if ps.any (fun p => match p.2 with | some k => decide (g.hardLimit ≤ k) | none => false) then .major
  else if 4 ≤ unsurveyedCount ps then .unknown
  else if g.bandMajor ≤ damageScore ps then .major
  else if g.bandMinor ≤ damageScore ps then .minor
  else .clean

/-- The reason a band gives (R129). -/
def bandReason : Band → List Reason
  | .major => [.damageMajor]
  | .unknown => [.surveyUnknown]
  | .minor => [.damageMinor]
  | .clean => []

end Sys2Proof.Machine
end

