-- ==== Sys2Proof/Machine/Yard.lean ====
section
/-! DEFINITION. The Yard Routing Unit with the delivery side of the Reader Port: blocks and notes (R132 to R139), the
Direction Queue and its delivery (R58 to R60, R140 to R143), the barrier (R144 to R148). -/

namespace Sys2Proof.Machine

/-! ### Choosing blocks -/

/-- The Block Table is replaced. -/
def State.setBlocks (bs : List BlockEntry) (s : State) : State := { s with yard := { s.yard with blocks := bs } }

/-- The count of the STACK block with an identifier rises by one, saturating at 255 (R134, R139). -/
def bumpBlock (ident : Text) (bs : List BlockEntry) : List BlockEntry :=
  bs.map (fun e => if e.ident = ident ∧ e.kind = .stack then { e with count := satAdd 255 e.count 1 } else e)

/-- A candidate block qualifies: in the table, STACK, and below its cap (R134). -/
def blockQualifies (bs : List BlockEntry) (ident : Text) : Bool :=
  bs.any (fun e => e.ident == ident && e.kind == .stack && decide (e.count < e.cap))

/-- The identifier of the lowest-numbered block of a kind (R132). -/
def State.firstBlock? (s : State) (k : BlockKind) : Option Text :=
  (s.yard.blocks.find? (fun e => e.kind == k)).map (·.ident)

/-- A block note for an assignment, with the Yard Routing Unit's current window (R138). -/
def State.sendNote (block : Text) (s : State) : State :=
  match s.yard.window with
  | some w => s.handNote block w
  | none => s

/-- One drop move is routed: the first candidate that qualifies, else the OVERFLOW block; a note for either
(R134, R135). -/
def State.routeDrop (m : Move) (s : State) : List Text × State :=
  match m.blocks.find? (blockQualifies s.yard.blocks) with
  | some b => ([b], (s.setBlocks (bumpBlock b s.yard.blocks)).sendNote b)
  | none =>
    match s.firstBlock? .overflow with
    | some b => ([b], s.sendNote b)
    | none => ([], s)

/-- Drop moves routed in turn (R134). -/
def routeDrops : List Move → State → List Text × State
  | [], s => ([], s)
  | m :: ms, s =>
    let (stop, s1) := s.routeDrop m
    let (stops, s2) := routeDrops ms s1
    (stop ++ stops, s2)

/-- The stops of the pick moves: the blocks they name (R136). -/
def pickStops (moves : List Move) : List Text := (moves.filter (fun m => !m.isDrop)).flatMap (·.blocks)

/-- The stops of a verdict, with the counts and notes its routing makes (R134 to R137). -/
def State.routeVerdict (v : Visit) (vd : Verdict) (s : State) : List Text × State :=
  match vd with
  | .admitted =>
    let (stops, s') := routeDrops v.drops s
    (stops ++ pickStops v.moves, s')
  | .admitInspect => ((s.firstBlock? .inspection).toList ++ pickStops v.moves, s)
  | .park => ((s.firstBlock? .buffer).toList, s)
  | _ => ([], s)

/-! ### The Direction Queue and its delivery -/

/-- The Direction Queue is replaced. -/
def State.setQueue (q : List Message) (s : State) : State := { s with yard := { s.yard with queue := q } }

/-- The held messages are replaced. -/
def State.setHeld (h : List Message) (s : State) : State := { s with yard := { s.yard with held := h } }

/-- The display channel is replaced. -/
def State.setDisplay (d : DisplayChannel) (s : State) : State := { s with reader := { s.reader with display := d } }

/-- A message is sent with the present send toggle and its answer awaited for 200 ms (R58, R59). -/
def State.sendMessage (m : Message) (busy : Nat) (s : State) : State :=
  (s.emit (.display (m.bytes s.reader.display.sendToggle))).setDisplay
    { s.reader.display with delivery := .sent, busyCount := busy, answerWait := .running 200, retryWait := .stopped }

/-- Whenever the delivery state is IDLE and a message is queued, the head is sent (R58). -/
def State.pumpDisplay (s : State) : State :=
  if s.reader.display.delivery = .idle then
    match s.yard.queue with
    | [] => s
    | m :: _ => s.sendMessage m 0
  else s

/-- A message joins the tail of the Direction Queue. -/
def State.joinQueue (m : Message) (s : State) : State := (s.setQueue (s.yard.queue ++ [m])).pumpDisplay

/-- The message of a list that replaces the first one of its visit, in that one's place (R141). -/
def replaceOf (m : Message) : List Message → List Message
  | [] => []
  | x :: xs => if x.visit = m.visit then m :: xs else x :: replaceOf m xs

/-- The message is held behind those already held (R142). -/
def State.holdMessage (m : Message) (s : State) : State := s.setHeld (s.yard.held ++ [m])

/-- A message for a visit is placed according to what stands for that visit (R141, R142). -/
def State.placeVisitMessage (m : Message) (s : State) : State :=
  match s.yard.queue with
  | h :: t =>
    if h.visit = m.visit then
      if s.yard.held.any (fun x => x.visit == m.visit) then s.setHeld (replaceOf m s.yard.held) else s.holdMessage m
    else if t.any (fun x => x.visit == m.visit) then s.setQueue (h :: replaceOf m t)
    else if s.yard.held.any (fun x => x.visit == m.visit) then s.setHeld (replaceOf m s.yard.held)
    else if s.yard.queue.length < 4 && s.yard.held.isEmpty then s.joinQueue m
    else s.holdMessage m
  | [] =>
    if s.yard.held.any (fun x => x.visit == m.visit) then s.setHeld (replaceOf m s.yard.held)
    else if s.yard.held.isEmpty then s.joinQueue m
    else s.holdMessage m

/-- LANE_CLOSED joins the tail where there is a place, and is dropped otherwise (R142). -/
def State.placeLaneClosed (s : State) : State :=
  if s.yard.queue.length < 4 then s.joinQueue ⟨.laneClosed, none, []⟩ else s

/-- A held message may join the queue: no message of its visit stands there (R140, R141; log 18). -/
def Message.mayJoin (q : List Message) (m : Message) : Bool := !q.any (fun x => x.visit == m.visit)

/-- A place of the Direction Queue has become free: the oldest held message that may join does (R142; log 18). -/
def State.joinHeld (s : State) : State :=
  match s.yard.held.find? (fun m => m.mayJoin s.yard.queue) with
  | some m =>
    if s.yard.queue.length < 4 then (s.setHeld (s.yard.held.eraseP (fun m => m.mayJoin s.yard.queue))).joinQueue m else s
  | none => s

/-- A visit leaves the lane queue with its messages: the held one is dropped, one in the queue other than at the head is
removed and its place freed, one at the head finishes its delivery (R143). -/
def State.dropMessages (n : VisitNumber) (s : State) : State :=
  let s := s.setHeld (s.yard.held.filter (fun m => m.visit != some n))
  match s.yard.queue with
  | [] => s
  | h :: t =>
    let t' := t.filter (fun m => m.visit != some n)
    if t'.length < t.length then (s.setQueue (h :: t')).joinHeld else s

/-! ### The barrier -/

/-- BAR_UP agrees with RAISE (R148). -/
def State.barrierAgrees (s : State) : Bool := s.level .barUp == s.line.raiseOut

/-- Once BARRIER has latched, its condition follows the disagreement of BAR_UP and RAISE (R148). -/
def State.barrierSense (s : State) : State := s.markCondition .barrier (!s.barrierAgrees)

/-- RAISE is driven (R4) and the agreement reported (R148). -/
def State.driveRaise (b : Bool) (s : State) : State := { s with line := { s.line with raiseOut := b } : State }.barrierSense

/-- The barrier state is replaced. -/
def State.setBarrier (b : Barrier) (s : State) : State := { s with yard := { s.yard with barrier := b } }

/-- The barrier is seen up in RAISING: RAISED, the up check stops, and the raise visit's 60 s exit check starts
(R42, R146). -/
def State.barrierSeenUp (s : State) : State :=
  let s1 : State := { s with yard := { s.yard with barrier := .raised, upCheck := .stopped } }
  match s.yard.raiseVisit with
  | some n => s1.updVisit n (fun v => { v with exitCheck := .running 60000 })
  | none => s1

/-- RAISE is asserted for a visit: RAISING with the 4 s up check; BAR_UP found up is taken as seen up (R145). -/
def State.raiseFor (n : VisitNumber) (s : State) : State :=
  let s1 : State := { s with yard := { s.yard with barrier := .raising, raiseVisit := some n, upCheck := .running 4000 } }
  let s2 := s1.driveRaise true
  if s2.level .barUp then s2.barrierSeenUp else s2

/-- The raise conditions are tested: LOWERED, and the oldest visit EXITING with its direction settled (R145). -/
def State.testRaise (s : State) : State :=
  match s.visits.laneQueue with
  | [] => s
  | v :: _ => if s.yard.barrier = .lowered && v.state == .exiting && v.settled then s.raiseFor v.number else s

/-- RAISE is withdrawn: LOWERED at once where BAR_UP is down, else SETTLING for 4 s (R147). -/
def State.withdrawRaise (s : State) : State :=
  let s1 := s.driveRaise false
  if s1.level .barUp then { s1 with yard := { s1.yard with barrier := .settling, settle := .running 4000 } }
  else s1.setBarrier .lowered

/-- The Yard Routing Unit is told that a visit leaves the lane queue: for the raise visit RAISE is withdrawn, or the
barrier is held open while LOOP_X is occupied (R147). -/
def State.raiseVisitLeaves (n : VisitNumber) (s : State) : State :=
  if s.yard.raiseVisit = some n then
    let s1 : State := { s with yard := { s.yard with raiseVisit := none, upCheck := .stopped } }
    if s1.level .loopX then s1.setBarrier .heldOpen else s1.withdrawRaise
  else s

/-- A LOOP_X vacated event at the Yard Routing Unit (R147). -/
def State.yardLoopXVacated (s : State) : State :=
  if s.yard.barrier = .heldOpen then s.withdrawRaise.testRaise else s

/-- A BAR_UP up event (R146, R147, R148). -/
def State.barUpUp (s : State) : State :=
  match s.yard.barrier with
  | .raising => s.barrierSeenUp.barrierSense
  | .raised | .heldOpen => s.barrierSense
  | .lowered | .settling => (s.latch .barrier).barrierSense

/-- A BAR_UP down event (R146, R147, R148). -/
def State.barUpDown (s : State) : State :=
  match s.yard.barrier with
  | .settling => ({ s with yard := { s.yard with barrier := .lowered, settle := .stopped } : State }.barrierSense).testRaise
  | .raised | .heldOpen => (s.latch .barrier).barrierSense
  | .lowered | .raising => s.barrierSense

/-- The up check runs out in RAISING: a disagreement; state and RAISE stay (R146). -/
def State.upCheckExpired (s : State) : State :=
  if s.yard.upCheck.isRunning then
    let s1 : State := { s with yard := { s.yard with upCheck := .stopped } }
    if s1.yard.barrier = .raising then (s1.latch .barrier).barrierSense else s1
  else s

/-- The settle time runs out: with BAR_UP still up a disagreement; then LOWERED (R147). -/
def State.settleExpired (s : State) : State :=
  if s.yard.settle.isRunning then
    let s1 : State := { s with yard := { s.yard with settle := .stopped } }
    if s1.yard.barrier = .settling then
      let s2 := if s1.level .barUp then (s1.latch .barrier).barrierSense else s1
      (s2.setBarrier .lowered).testRaise
    else s1
  else s

/-- At the fixing, BAR_UP found up puts the barrier into SETTLING (R144). -/
def State.barrierAtFix (s : State) : State :=
  if s.level .barUp then { s with yard := { s.yard with barrier := .settling, settle := .running 4000 } } else s

/-! ### The end of a delivery, and the display's answers -/

/-- PROCEED, INSPECT, BUFFER and TURN_OUT: the barrier waits on their delivery (08, section 8.3). -/
def MessageKind.isFinal : MessageKind → Bool
  | .proceed | .inspect | .buffer | .turnOut => true
  | .wait | .laneClosed => false

/-- A final message's delivery sets the direction settled mark of its visit while that stands in the lane queue
(R143). -/
def State.settleDirection (m : Message) (s : State) : State :=
  match m.visit with
  | some n =>
    if m.kind.isFinal then
      { s with visits := { s.visits with
                laneQueue := updNumbered n (fun v => { v with settled := true }) s.visits.laneQueue } }
    else s
  | none => s

/-- The delivery of the head message `m` ends: it leaves the queue, a held message joins, the end acts on the visit and
the barrier, the send toggle flips, and the next head is sent (R58, R142, R143). The busy count is 0 from here on, and
never holds the fifth miss that gives the message up (R58, R59; log 40). -/
def State.endDelivery (m : Message) (s : State) : State :=
  let s := (s.setQueue s.yard.queue.tail).joinHeld
  let s := (s.settleDirection m).testRaise
  let d := s.reader.display
  (s.setDisplay { d with delivery := .idle, sendToggle := !d.sendToggle, busyCount := 0, answerWait := .stopped,
                         retryWait := .stopped }).pumpDisplay

/-- The delivery of the head message ends as accepted; the DISPLAY condition ends (R58). -/
def State.deliveryAccepted (s : State) : State :=
  match s.yard.queue with
  | [] => s
  | m :: _ => (s.endDelivery m).endCondition .display

/-- The delivery of the head message ends as given up: DISPLAY latches, and its visit gains DISPLAY_UNCONFIRMED while it
has not closed (R59). -/
def State.deliveryGivenUp (s : State) : State :=
  match s.yard.queue with
  | [] => s
  | m :: _ =>
    let s := s.latch .display
    let s := match m.visit with
      | some n => s.updVisit n (Visit.addReason .displayUnconfirmed)
      | none => s
    s.endDelivery m

/-- A BUSY answer or a missed answer in SENT: the busy count rises; below five the message waits 200 ms, at five it is
given up (R59). -/
def State.deliveryBusy (s : State) : State :=
  let d := s.reader.display
  if d.busyCount + 1 < 5 then
    s.setDisplay { d with delivery := .retryWait, busyCount := d.busyCount + 1, answerWait := .stopped
                          retryWait := .running 200 }
  else s.deliveryGivenUp

/-- An answer of the display: usable only in SENT with the send toggle (R58, R59, R60). -/
def State.displayAnswer (toggle : Bool) (a : Answer) (s : State) : State :=
  if s.reader.display.delivery = .sent ∧ toggle = s.reader.display.sendToggle then
    match a with
    | .accept => s.deliveryAccepted
    | .busy => s.deliveryBusy
    | .reject => s.deliveryGivenUp
  else s

/-- The display's HELLO: the send toggle becomes 0, and an outstanding message is sent afresh (R60). -/
def State.displayRestarted (s : State) : State :=
  let s1 := s.setDisplay { s.reader.display with sendToggle := false }
  if s1.reader.display.delivery = .idle then s1
  else match s1.yard.queue with
    | [] => s1
    | m :: _ => s1.sendMessage m 0

/-- A byte from the display (R60, R173): a malformed answer is ignored. -/
def State.displayByte (b : Byte) (s : State) : State :=
  match parseDisplayByte b with
  | none => s
  | some .hello => s.displayRestarted
  | some (.answer t a) => s.displayAnswer t a

/-- The answer wait runs out in SENT: counts as BUSY (R59). -/
def State.answerWaitExpired (s : State) : State :=
  if s.reader.display.answerWait.isRunning then s.deliveryBusy else s

/-- The retry wait runs out: the same message is sent again with the same toggle (R59). -/
def State.retryWaitExpired (s : State) : State :=
  if s.reader.display.retryWait.isRunning then
    match s.yard.queue with
    | [] => s
    | m :: _ => s.sendMessage m s.reader.display.busyCount
  else s

/-! ### Block notes from peers -/

/-- A peer's BLOCK_NOTE: for the current window it raises the count of a STACK block; else it is ignored (R139). -/
def State.takeNote (block : Text) (w : Window) (s : State) : State :=
  if s.yard.window = some w then s.setBlocks (bumpBlock block s.yard.blocks) else s

/-- The Yard Routing Unit takes a roll notice: its window is the notice's and every count is 0 (R133). -/
def State.yardRoll (w : Window) (s : State) : State :=
  { s with yard := { s.yard with window := some w, blocks := s.yard.blocks.map (fun e => { e with count := 0 }) } }

end Sys2Proof.Machine
end

