-- ==== Sys2Proof/Machine/Visits.lean ====
section
/-! DEFINITION. What the Visit Engine does to a visit whatever the event: opening (R19, R21), giving a verdict (R32),
holds (R29, R33), refusal (R30), leaving the lane (R9, R23, R43, R44), closing (R43) and the outcome record (R153). -/

namespace Sys2Proof.Machine

/-! ### Opening -/

/-- A visit is opened at the tail of the lane queue with the counter's number (R19, R20, R21). -/
def State.openVisit (st : SlotState) (notes : List Reason) (s : State) : State :=
  { s with visits := { s.visits with
            laneQueue := s.visits.laneQueue ++ [(Visit.fresh s.visits.nextNumber st s.point).addReasons notes]
            nextNumber := s.visits.nextNumber + 1 } }

/-- The pending-arrival count changes and is reported (R22). -/
def State.setPendingArrivals (n : Nat) (s : State) : State :=
  { s with visits := { s.visits with pendingArrivals := n } : State }.overflowSense

/-- The lane mode changes and the change is reported at once (R7). -/
def State.setMode (m : LaneMode) (s : State) : State := { s with visits := { s.visits with mode := m } : State }.reportStatus

/-! ### Verdicts -/

/-- The direction message of a verdict given in the lane (R32; 08, section 8.3). INSPECT carries the inspection block
alone (log 17). -/
def verdictMessage (n : VisitNumber) (vd : Verdict) (stops : List Text) : Message :=
  match vd with
  | .admitted => ⟨.proceed, some n, stops⟩
  | .admitInspect => ⟨.inspect, some n, stops.take 1⟩
  | .park => ⟨.buffer, some n, stops⟩
  | _ => ⟨.turnOut, some n, []⟩

/-- A verdict is written with its stamp; a deferred timeout is dropped (R32, R37). -/
def State.writeVerdict (n : VisitNumber) (vd : Verdict) (s : State) : State :=
  s.updVisit n (fun v => { v with verdict := vd, verdictStamp := some s.point, timeoutRun := false })

/-- A verdict is given to a visit of the lane queue: written, routed, its message placed, and the visit EXITING (R32). -/
def State.giveVerdict (n : VisitNumber) (vd : Verdict) (s : State) : State :=
  match s.visit? n with
  | none => s
  | some v =>
    let (stops, s1) := (s.writeVerdict n vd).routeVerdict v vd
    let s2 := (s1.updVisit n (fun v => { v with stops := stops })).placeVisitMessage (verdictMessage n vd stops)
    (s2.updVisit n (fun v => { v with state := .exiting })).reportHolds

/-- A verdict of admission is given to a parked visit: written and routed, with no message (R38, R137). -/
def State.giveParkedAdmission (n : VisitNumber) (vd : Verdict) (s : State) : State :=
  match s.visit? n with
  | none => s
  | some v =>
    let (stops, s1) := (s.writeVerdict n vd).routeVerdict v vd
    s1.updVisit n (fun v => { v with stops := stops })

/-- A visit is refused: REFUSE is given, and its claim, if held, is ended as RELEASED at once (R30, R35, R40). -/
def State.refuseVisit (n : VisitNumber) (s : State) : State :=
  match s.visit? n with
  | none => s
  | some v =>
    let s1 := s.giveVerdict n .refuse
    if v.claimHeld then s1.endClaim n .released else s1

/-- A visit takes a unit of a flex source and goes on to the admission step (R30, R31). -/
def State.admitWith (n : VisitNumber) (src : FlexSource) (s : State) : State :=
  match s.visit? n with
  | none => s
  | some v => (s.updVisit n (fun v => { v with flex := src })).giveVerdict n v.admission

/-! ### Holds -/

/-- A visit enters a clerk hold: HOLD, the hold start stamp, the timeout running; WAIT is handed over on the first entry
to HOLD, so not after a place hold, of which RECORD_FULL is the record (R33, R141; log 16). -/
def State.enterClerkHold (n : VisitNumber) (s : State) : State :=
  match s.visit? n with
  | none => s
  | some v =>
    let s1 := s.updVisit n (fun v =>
      { v with state := .hold, verdict := .hold, holdStart := some s.point, timeoutRun := false })
    let s2 := if Reason.recordFull ∈ v.active then s1 else s1.placeVisitMessage ⟨.wait, some n, []⟩
    s2.reportHolds

/-- A visit given NO_CAPACITY enters a clerk hold (R31). -/
def State.giveNoCapacity (n : VisitNumber) (s : State) : State :=
  (s.updVisit n (Visit.addReason .noCapacity)).enterClerkHold n

/-- A visit enters a place hold: RECORD_FULL active, WAIT handed over, no stamp and no timeout (R29). -/
def State.enterPlaceHold (n : VisitNumber) (s : State) : State :=
  ((s.updVisit n (fun v => ({ v with state := .hold } : Visit).addReason .recordFull)).placeVisitMessage
    ⟨.wait, some n, []⟩).reportHolds

/-! ### Leaving the lane and closing -/

/-- A pending arrival is opened as a visit when a lane-queue place has freed (R23). -/
def State.openPendingArrival (s : State) : State :=
  if 0 < s.visits.pendingArrivals ∧ s.visits.laneQueue.length < 4 then
    (s.openVisit .approach []).setPendingArrivals (s.visits.pendingArrivals - 1)
  else s

/-- A DRAINING lane whose lane queue is empty becomes CLOSED (R9). -/
def State.endDraining (s : State) : State :=
  if s.visits.mode = .draining && s.visits.laneQueue.isEmpty then s.setMode .laneClosed else s

/-- What follows when a visit has left the lane queue: the barrier, its messages, a pending arrival, the mode, and the
raise for the new oldest visit (R9, R23, R43, R44, R143, R145, R147). -/
def State.laneLeft (n : VisitNumber) (s : State) : State :=
  ((((s.raiseVisitLeaves n).dropMessages n).openPendingArrival).endDraining).testRaise

/-- What a container slot hands to the outcome record (R110, R130, R153). -/
def ContainerSlot.outcome (c : ContainerSlot) : SlotOutcome :=
  ⟨c.code, c.status, c.size, c.closure.getD .notChecked, c.band, c.score, c.unsurveyed⟩

/-- The outcome record of a visit as it stands at its close (R153). -/
def Visit.record (lane : LaneId) (v : Visit) : OutcomeRecord where
  lane := lane
  number := v.number
  ref := v.ref
  plate := v.plate
  confidence := v.confidence
  arrival := v.arrival
  verdict := v.verdict
  clerkOverride := v.clerkOverride
  active := v.active
  overridden := v.overridden
  outcomeNotes := v.outcomeNotes
  flex := v.flex
  front := v.front.outcome
  rear := v.rear.outcome
  stops := v.stops
  arrivalStamp := v.arrivalStamp
  verdictStamp := v.verdictStamp
  closeStamp := v.closeStamp

/-- The visit's RESERVED place becomes FILLED, last in the fill order, and the offer is tested (R43, R152, R154). -/
def State.fillPlace (v : Visit) (s : State) : State :=
  if v.number ∈ s.outcome.reserved then
    ({ s with outcome := { s.outcome with reserved := s.outcome.reserved.erase v.number
                                          filled := s.outcome.filled ++ [v.record s.laneId] } } : State).offerOutcome
  else s

/-- The claim of a closing visit ends: USED for an admission, RELEASED for a refusal (R43, R79). -/
def State.endClaimAtClose (v : Visit) (s : State) : State :=
  if v.claimHeld then
    s.endClaim v.number (if v.verdict = .admitted ∨ v.verdict = .admitInspect then .used else .released)
  else s

/-- A visit's slot becomes FREE: it leaves the collection it stands in (R20, R43). -/
def State.freeSlot (n : VisitNumber) (s : State) : State :=
  if s.visits.laneQueue.any (fun v => v.number == n) then
    { s with visits := { s.visits with laneQueue := s.visits.laneQueue.eraseP (fun v => v.number == n) } }
  else { s with visits := { s.visits with parked := s.visits.parked.eraseP (fun v => v.number == n) } }

/-- A visit closes (R43). -/
def State.closeVisit (n : VisitNumber) (s : State) : State :=
  match s.visit? n with
  | none => s
  | some v0 =>
    let v := { v0 with closeStamp := some s.point }
    let inLane := s.visits.laneQueue.any (fun w => w.number == n)
    let s1 := ((s.fillPlace v).endClaimAtClose v).freeSlot n
    (if inLane then s1.laneLeft n else s1).reportHolds

/-- A visit with verdict PARK that leaves the lane joins the parked set (R44). The number of held visits is reported last,
after the lane mode has changed where the lane was DRAINING (R9, R34; the order is log 39). The passing flag stays in the
record as it was, where nothing reads it again (log 43). -/
def State.moveToParked (v : Visit) (s : State) : State :=
  let parkedVisit := { v with state := .parked, exitCheck := .stopped }
  let s1 : State := { s with visits := { s.visits with
    laneQueue := s.visits.laneQueue.eraseP (fun w => w.number == v.number)
    parked := s.visits.parked ++ [parkedVisit] } }
  (s1.laneLeft v.number).reportHolds

/-- A visit leaves the lane over the exit: it closes, or with verdict PARK moves to the parked set (R41, R42). -/
def State.leaveOverExit (v : Visit) (s : State) : State :=
  if v.verdict = .park then s.moveToParked v else s.closeVisit v.number

end Sys2Proof.Machine
end

