-- ==== Sys2Proof/Machine/Capacity.lean ====
section
/-! DEFINITION. The Capacity Unit: grants (R85 to R87), the Loan Wait List and Asks (R88 to R94), lending (R95 to R97) and
the window roll (R99). -/

namespace Sys2Proof.Machine

/-! ### The account -/

/-- The spare: share + borrowed − lent − used (R84). -/
def Quota.spare (q : Quota) : Nat := q.share + q.borrowed - q.lent - q.used

/-- The spare of the entry; none while the entry is absent. -/
def State.spare (s : State) : Nat := match s.capacity.quota with | some q => q.spare | none => 0

/-- The units borrowed. -/
def State.borrowed (s : State) : Nat := match s.capacity.quota with | some q => q.borrowed | none => 0

/-- The Window Quota entry is changed. -/
def State.updQuota (f : Quota → Quota) (s : State) : State :=
  { s with capacity := { s.capacity with quota := s.capacity.quota.map f } }

/-- Used rises by one. -/
def State.useUnit (s : State) : State := s.updQuota (fun q => { q with used := q.used + 1 })

/-- The open Ask is replaced. -/
def State.setAsk (a : Option Ask) (s : State) : State := { s with capacity := { s.capacity with ask := a } }

/-- The outstanding TAKEs are replaced. -/
def State.setTakes (ts : List Take) (s : State) : State := { s with capacity := { s.capacity with takes := ts } }

/-- The Loan Wait List is replaced. -/
def State.setWaitList (ns : List VisitNumber) (s : State) : State := { s with capacity := { s.capacity with waitList := ns } }

/-- The Offer List is replaced. -/
def State.setOffers (os : List Offer) (s : State) : State := { s with capacity := { s.capacity with offers := os } }

/-! ### Asks -/

/-- A loan can be asked: the office station or a peer is heard, and borrowed is below 15 (R89). -/
def State.canAsk (s : State) : Bool := (!s.bus.degraded || s.capacity.peerTimer.isRunning) && s.borrowed < 15

/-- An Ask is opened for the oldest waiting visit: number, window, ASKING, LOAN_ASK, 1.5 s deadline (R90). -/
def State.openAsk (s : State) : State :=
  match s.capacity.quota with
  | none => s
  | some q =>
    let n := s.capacity.askCounter
    let s1 : State := { s with capacity := { s.capacity with
      askCounter := n + 1, ask := some ⟨n, q.window, .asking, .running 1500⟩ } }
    s1.handClass0 .capacityUnit (.loanAsk q.window n)

/-- The oldest waiting visit takes a unit and goes on to admission (R86, R92). -/
def State.serveWaiter (n : VisitNumber) (rest : List VisitNumber) (src : FlexSource) (s : State) : State :=
  ((s.useUnit).setWaitList rest).admitWith n src

/-- With no Ask open, the waiting visits are taken in order: a unit while the spare lasts, then an Ask where a loan can
be asked, and NO_CAPACITY where none can (R86, R90, R93, R94, R99). `fuel` bounds the list's length. -/
def State.nextAsk (src : FlexSource) : Nat → State → State
  | 0, s => s
  | fuel + 1, s =>
    match s.capacity.waitList with
    | [] => s
    | n :: rest =>
      if 0 < s.spare then State.nextAsk src fuel (s.serveWaiter n rest src)
      else if s.canAsk then s.openAsk
      else State.nextAsk src fuel ((s.setWaitList rest).giveNoCapacity n)

/-- The waiting visits are taken in order with no Ask open. -/
def State.checkWaiters (src : FlexSource) (s : State) : State := State.nextAsk src s.capacity.waitList.length s

/-- The spare has risen: the oldest waiting visits take units, and the Ask made for the first of them is withdrawn
(R86, R94). -/
def State.spareRose (src : FlexSource) (s : State) : State :=
  if s.capacity.waitList.isEmpty || s.spare = 0 then s else (s.setAsk none).checkWaiters src

/-- The open Ask fails: the oldest visit leaves the list with NO_CAPACITY, and the next is checked (R93). -/
def State.askFails (s : State) : State :=
  let s1 := s.setAsk none
  match s1.capacity.waitList with
  | [] => s1
  | n :: rest => ((s1.setWaitList rest).giveNoCapacity n).checkWaiters .own

/-- A visit is removed from the Loan Wait List; were it the oldest, its Ask is withdrawn and one opened for the new
oldest (R88, R94). -/
def State.removeWaiter (n : VisitNumber) (s : State) : State :=
  match s.capacity.waitList with
  | [] => s
  | h :: rest =>
    if h = n then ((s.setWaitList rest).setAsk none).checkWaiters .own
    else s.setWaitList (s.capacity.waitList.filter (fun m => m != n))

/-! ### The flex step (R31, R85, R87) -/

/-- A visit at the flex step asks for a unit: granted, waiting, or no capacity (R31, R85, R88). -/
def State.flexStep (n : VisitNumber) (s : State) : State :=
  if 0 < s.spare && s.capacity.waitList.isEmpty then (s.useUnit).admitWith n .own
  else if s.canAsk then
    let s1 := ((s.updVisit n (fun v => { v with state := .awaitLoan })).reportHolds).setWaitList (s.capacity.waitList ++ [n])
    if s1.capacity.ask.isNone then s1.openAsk else s1
  else s.giveNoCapacity n

/-- A forced grant on a clerk RELEASE: a unit of the spare where there is one, FORCED otherwise (R87). -/
def State.forcedGrant (n : VisitNumber) (s : State) : State :=
  if 0 < s.spare then (s.useUnit).updVisit n (fun v => { v with flex := .own })
  else s.updVisit n (fun v => { v with flex := .forced })

/-! ### The asker's side (R91 to R93) -/

/-- The frame's window and ask number are those of the open Ask. -/
def Ask.isFor (a : Ask) (w : Window) (n : Byte) : Bool := a.window == w && a.number == n

/-- A TAKE is kept as outstanding; with 4 kept the oldest goes (R91). -/
def keepTake (t : Take) (ts : List Take) : List Take := (if ts.length < 4 then ts else ts.tail) ++ [t]

/-- LOAN_OFFER: the first matching offer in ASKING is answered LOAN_TAKE; every other is declined (R91). -/
def State.takeOffer (source : LaneId) (w : Window) (n : Byte) (s : State) : State :=
  match s.capacity.ask with
  | some a =>
    if a.state = .asking && a.isFor w n then
      ((s.setAsk (some { a with state := .taking source })).setTakes
        (keepTake ⟨source, w, n⟩ s.capacity.takes)).handClass0 .capacityUnit (.loanTake source w n)
    else s.handClass0 .capacityUnit (.loanDecline source w n)
  | none => s.handClass0 .capacityUnit (.loanDecline source w n)

/-- The frame is for the open Ask, TAKING from its source (R92, R93). -/
def State.forOpenAsk (s : State) (source : LaneId) (w : Window) (n : Byte) : Bool :=
  match s.capacity.ask with
  | some a => a.state == .taking source && a.isFor w n
  | none => false

/-- LOAN_CONFIRM: for the open Ask, late, or ignored (R92). DESIGN CHOICE: of two outstanding TAKEs equal in offerer, window and ask
number the oldest is removed (log 47). -/
def State.takeConfirm (source : LaneId) (w : Window) (n : Byte) (s : State) : State :=
  let s1 := s.setTakes (s.capacity.takes.erase ⟨source, w, n⟩)
  if s.forOpenAsk source w n then
    if s.borrowed < 15 then
      let s2 := (s1.updQuota (fun q => { q with borrowed := q.borrowed + 1 })).setAsk none
      match s2.capacity.waitList with
      | [] => s2
      | v :: rest => (s2.serveWaiter v rest .borrowed).checkWaiters .borrowed
    else (s1.count .framesIgnored).askFails
  else if (⟨source, w, n⟩ : Take) ∈ s.capacity.takes then
    if s.borrowed < 15 then (s1.updQuota (fun q => { q with borrowed := q.borrowed + 1 })).spareRose .borrowed
    else s1.count .framesIgnored
  else s

/-- LOAN_VOID: fails the open Ask it matches, and removes the outstanding TAKE it matches (R93). DESIGN CHOICE: of two
equal ones the oldest (log 47). -/
def State.takeVoid (source : LaneId) (w : Window) (n : Byte) (s : State) : State :=
  let s1 := s.setTakes (s.capacity.takes.erase ⟨source, w, n⟩)
  if s.forOpenAsk source w n then s1.askFails else s1

/-- The deadline of the open Ask runs out (R93). -/
def State.askDeadline (s : State) : State :=
  match s.capacity.ask with
  | some a => if a.deadline.isRunning then s.askFails else s
  | none => s

/-! ### The lender's side (R95 to R97) -/

/-- LOAN_ASK: an Offer is made when the window is current, the spare above the reserve and the list below 4 (R95). No test
holds lent below 16 (R84, R86; log 41). -/
def State.takeAsk (source : LaneId) (w : Window) (n : Byte) (s : State) : State :=
  match s.capacity.quota with
  | none => s
  | some q =>
    if q.window = w && s.general.reserve < q.spare && s.capacity.offers.length < 4 then
      ((s.updQuota (fun q => { q with lent := q.lent + 1 })).setOffers
        (s.capacity.offers ++ [⟨source, n, w, .running 1000⟩])).handClass0 .capacityUnit (.loanOffer source w n)
    else s

/-- An Offer to an asker with an ask number and window. -/
def Offer.isFor (source : LaneId) (w : Window) (n : Byte) (o : Offer) : Bool :=
  o.asker == source && o.number == n && o.window == w

/-- LOAN_TAKE: CONFIRM for a live Offer, which is gone with its unit; VOID otherwise (R96). DESIGN CHOICE: of two live Offers
equal in asker, ask number and window the oldest is removed (log 46). -/
def State.takeTake (source : LaneId) (w : Window) (n : Byte) (s : State) : State :=
  if s.capacity.offers.any (Offer.isFor source w n) then
    (s.setOffers (s.capacity.offers.eraseP (Offer.isFor source w n))).handClass0 .capacityUnit (.loanConfirm source w n)
  else s.handClass0 .capacityUnit (.loanVoid source w n)

/-- An Offer has been removed from the list: lent falls by one and the spare rises (R97). -/
def State.offerReturned (s : State) : State := (s.updQuota (fun q => { q with lent := q.lent - 1 })).spareRose .own

/-- LOAN_DECLINE: a matching live Offer is removed and its unit returns (R97). DESIGN CHOICE: of two equal ones the oldest
(log 46). -/
def State.takeDecline (source : LaneId) (w : Window) (n : Byte) (s : State) : State :=
  if s.capacity.offers.any (Offer.isFor source w n) then
    (s.setOffers (s.capacity.offers.eraseP (Offer.isFor source w n))).offerReturned
  else s

/-- The expiry of the oldest Offer runs out: it is removed and its unit returns (R97). -/
def State.offerExpired (s : State) : State :=
  match s.capacity.offers with
  | [] => s
  | _ :: rest => (s.setOffers rest).offerReturned

/-! ### The window roll (R99) -/

/-- The Capacity Unit takes a roll notice: a fresh entry, no Offers, no Ask, no TAKEs; the waiting visits are re-checked
against the new spare (R99). -/
def State.capacityRoll (w : Window) (cls : Nat) (s : State) : State :=
  ({ s with capacity := { s.capacity with
      quota := some ⟨w, s.general.shares.getD cls 0, 0, 0, 0⟩, offers := [], ask := none, takes := [] } }
    : State).checkWaiters .own

end Sys2Proof.Machine
end

