-- ==== Sys2Proof/Machine/Evaluate.lean ====
section
/-! DEFINITION. Portal close (R27, R17, R18, R75, R104, R123), evaluation and the verdict (R29, R30), and results that
reach a visit late (R28). -/

namespace Sys2Proof.Machine

/-! ### The arrival class (R17, R18) -/

/-- The arrival class of a booked window at a point of gate time (R17). With a late grace of 0 the table gives LATE to an
offset of exactly one window and the last line TOO_LATE: the table is followed (log 38). -/
def arrivalClass (g : General) (booked : Window) (p : GatePoint) : ArrivalClass :=
  let len : Int := g.windowMinutes * 60
  let d : Int := winDist booked p.window * len + (p.tenths / 10 : Nat)
  if d < 0 then (if -d ≤ g.graceEarly * 60 then .early else .tooEarly)
  else if d < len then .onTime
  else if d - len ≤ g.graceLate * 60 then .late
  else .tooLate

/-- The reason an arrival class adds (R18). -/
def arrivalReason : ArrivalClass → List Reason
  | .tooEarly => [.tooEarly]
  | .tooLate => [.tooLate]
  | .onTime | .early | .late | .none => []

/-! ### Per-container checks -/

/-- The number of inbound containers: the drop moves, 0 to 2 (R27). -/
def inboundCount (v : Visit) : Nat := min 2 v.drops.length

/-- The drop move of an inbound container: FRONT the first, REAR the second (R27). -/
def Visit.dropOf (v : Visit) (p : Position) : Option Move :=
  match p with
  | .front => if 1 ≤ v.inbound then v.drops[0]? else none
  | .rear => if 2 ≤ v.inbound then v.drops[1]? else none

/-- Step 5 of portal close for one container slot: code check, closure and survey of an inbound container; a slot beyond
the inbound count is NOT_CHECKED and not scored (R27, R75, R104, R123). -/
def Visit.checkSlot (g : General) (zs : List Zone) (profiles : List (List Nat)) (p : Position) (v : Visit) : Visit :=
  match v.dropOf p with
  | none => v.updSlot p (fun c => { c with closure := some .notChecked })
  | some m =>
    let set := v.readSet p
    let peaks := zonePeaks zs profiles[m.profile]? (v.surveyData p)
    let band := bandOf g peaks
    (v.updSlot p (fun c => { c with
        closure := some (closureOf m.seals set), score := damageScore peaks, unsurveyed := unsurveyedCount peaks
        band := some band })).addReasons
      (codeReason m.code (v.slot p) ++ closureReason m.seals set ++ bandReason band)

/-- With an inbound count of 0 the pass summaries are discarded (R123). -/
def Visit.discardPasses (v : Visit) : Visit :=
  if v.inbound = 0 then { v with front := { v.front with pass := none }, rear := { v.rear with pass := none } } else v

/-- Steps 3 to 5 of portal close on the record: inbound count, code merge, arrival class, per-container checks (R27). -/
def Visit.finishPortal (g : General) (zs : List Zone) (profiles : List (List Nat)) (booked : Option Window) (p : GatePoint)
    (v : Visit) : Visit :=
  let v1 := ({ v with inbound := inboundCount v } : Visit).mergeRear
  let cls := match booked with | some w => arrivalClass g w p | none => .none
  let v2 := ({ v1 with arrival := cls } : Visit).addReasons (arrivalReason cls)
  ((v2.checkSlot g zs profiles .front).checkSlot g zs profiles .rear).discardPasses

/-- Portal close of a visit (R27): the open pass ends, a booking is selected, and the record is finished. -/
def State.portalClose (n : VisitNumber) (s : State) : State :=
  let s1 := s.truncatePass n
  match s1.visit? n with
  | none => s1
  | some v =>
    let (booked, s2) := s1.selectFor v
    s2.updVisit n (Visit.finishPortal s.general s.zones s.profiles booked s.point)

/-! ### Evaluation -/

/-- The verdict is combined from the active reasons: refuse, clerk hold, flex, admission (R30). -/
def State.combine (n : VisitNumber) (s : State) : State :=
  match s.visit? n with
  | none => s
  | some v =>
    if v.active.any Reason.isRefuse then s.refuseVisit n
    else if v.active.any Reason.isClerkHold then s.enterClerkHold n
    else if v.needsFlex then s.flexStep n
    else s.giveVerdict n v.admission

/-- A record place is reserved for a visit, and its verdict combined (R29, R152). Used where a place is FREE. -/
def State.reserveAndCombine (n : VisitNumber) (s : State) : State :=
  ((s.reservePlace n).updVisit n (fun v => { v with placeReserved := true })).combine n

/-- A visit is evaluated: with a record place, or into a place hold (R29). -/
def State.evaluate (n : VisitNumber) (s : State) : State :=
  if s.placesUsed < 16 then s.reserveAndCombine n else s.enterPlaceHold n

/-- A place of the Outcome Queue has become FREE: it goes to the oldest place hold, or stays FREE and the RECORDS
condition has ended (R29, R152). -/
def State.placeFreed (s : State) : State :=
  match s.oldest? Visit.isPlaceHold with
  | some v => if s.placesUsed < 16 then s.reserveAndCombine v.number else s
  | none => s.endCondition .records

/-! ### Late results (R28) -/

/-- A visit has lost its claim to a peer: DUPLICATE reaches it by its state (R28, R78). -/
def State.claimLost (n : VisitNumber) (s : State) : State :=
  let s1 := s.updVisit n (fun v => { v with claimHeld := false })
  match s1.visit? n with
  | none => s1
  | some v =>
    match v.state with
    | .toStop | .hold => s1.updVisit n (Visit.addReason .duplicate)
    | .awaitLoan => ((s1.updVisit n (Visit.addReason .duplicate)).enterClerkHold n).removeWaiter n
    | .exiting | .parked => s1.updVisit n (Visit.addOutcomeNote .duplicate)
    | .approach | .atPortal => s1

/-- A visit's booking has been cancelled: BOOKING_CANCELLED reaches it by its state (R28, R69). -/
def State.claimCancelled (n : VisitNumber) (s : State) : State :=
  let s1 := s.updVisit n (fun v => { v with claimHeld := false })
  match s1.visit? n with
  | none => s1
  | some v =>
    match v.state with
    | .toStop => s1.updVisit n (Visit.addReason .bookingCancelled)
    | .hold | .awaitLoan | .exiting | .parked => s1.updVisit n (Visit.addOutcomeNote .bookingCancelled)
    | .approach | .atPortal => s1

/-- BOOKING_CANCEL: OPEN, ELSEWHERE and HERE become CANCELLED, a HERE holder loses its claim (R69). -/
def State.takeCancel (ref : Text) (s : State) : State :=
  match s.booking? ref with
  | none => s
  | some b =>
    let cancelled := s.setTable (updRecord ref (fun b => some { b with state := .cancelled }) s.booking.table)
    match b.state with
    | .available | .elsewhere _ _ => cancelled
    | .here _ holder => cancelled.claimCancelled holder
    | .used | .cancelled => s

/-- CLAIM: by the state of the record, a claim race for one HERE (R77, R78). Of two claims exactly 128 windows apart R76
calls neither the earlier; the frame is then ignored and the claim held stays (log 44). -/
def State.takeClaimFrame (source : LaneId) (ref : Text) (key : GatePoint) (s : State) : State :=
  match s.booking? ref with
  | none => s
  | some b =>
    let follow := s.setTable (updRecord ref (fun b => some { b with state := .elsewhere source key }) s.booking.table)
    match b.state with
    | .available => follow
    | .elsewhere c k => if c = source then follow else if claimEarlier key source k c then follow else s
    | .here k holder => if claimEarlier key source k s.laneId then follow.claimLost holder else s
    | .used | .cancelled => s

end Sys2Proof.Machine
end

