-- ==== Sys2Proof/Machine/Bus.lean ====
section
/-! DEFINITION. The Peer Bus Interface: receiving (R162, R169 to R171), handing frames on (R170, R176), and sending
(R163, R168). -/

namespace Sys2Proof.Machine

/-! ### Receiving -/

/-- The receive buffers are replaced. -/
def State.setRx (fs : List RxFrame) (s : State) : State := { s with bus := { s.bus with rx := fs } }

/-- A frame bearing this lane's identifier: ID_CLASH latches and its clash timer restarts (R155, R169). -/
def State.ownIdHeard (s : State) : State :=
  let s1 := s.latch .idClash
  { s1 with outcome := { s1.outcome with clashTimer := .running 60000 } }

/-- A peer is heard (R89). -/
def State.peerHeard (s : State) : State := { s with capacity := { s.capacity with peerTimer := .running 5000 } }

/-- The office station is heard: its silence timer restarts, and degraded mode ends (R171). -/
def State.officeHeard (s : State) : State :=
  let s1 : State := { s with bus := { s.bus with silence := .running 5000, degraded := false } }
  if s.bus.degraded then (s1.endCondition .gatewaySilent).offerOutcome else s1

/-- The station a frame comes from is reported (R169). Source 0 is no station's. -/
def State.stationHeard (source : LaneId) (s : State) : State :=
  if source = 0 then s else if source = 31 then s.officeHeard else s.peerHeard

/-- A frame for this lane takes a buffer, or is lost to an overrun; it is checked, and a kind that no block takes is
discarded (R165, R170). -/
def State.bufferFrame (f : RawFrame) (s : State) : State :=
  if 2 ≤ s.bus.rx.length then s.count .rxOverruns
  else match checkRaw f with
    | none => s.count .framesIgnored
    | some r => if r.kind.owner = none then s else s.setRx (s.bus.rx ++ [r])

/-- A reception has ended (R162, R169). -/
def State.receive (stopFault : Bool) (bytes : List Byte) (s : State) : State :=
  if s.alive then
    match parseFrame stopFault bytes with
    | none => s.count .crcErrors
    | some f =>
      if f.source = s.laneId then s.ownIdHeard
      else
        let s1 := s.stationHeard f.source
        if f.dest = 0 ∨ f.dest = s.laneId then s1.bufferFrame f else s1
  else s

/-! ### Handing on -/

/-- The frame of kind `k` that its owner takes, and the buffers without it: the oldest of its kind, with no frame of the
same owner before it. Frames are handed on in the order they arrived, so every frame before it has been handed on as well;
Start Control takes a RESET_REQ as it is handed on, so that no frame is taken with a RESET_REQ still before it (R170,
R176; log 7). -/
def takeFirst (k : FrameKind) : List RxFrame → Option (RxFrame × List RxFrame)
  | [] => none
  | f :: fs =>
    if f.kind = k then some (f, fs)
    else if f.kind.owner = k.owner ∨ f.kind = .resetReq then none
    else (takeFirst k fs).map (fun (g, rest) => (g, { f with handed := true } :: rest))

/-- The frames that have been handed on once the oldest frame of kind `k` has: that one and all before it (R170). -/
def handedUpTo (k : FrameKind) : List RxFrame → List RxFrame
  | [] => []
  | f :: fs => if f.kind = k then [f] else f :: handedUpTo k fs

/-- The hand-on of a frame breaks a pair of reset requests: any but a RESET_REQ, addressed to lane `n` (R176). -/
def RxFrame.breaksPair (n : LaneId) (f : RxFrame) : Bool := f.dest == n && f.kind != .resetReq && !f.handed

/-- Frames are handed on: the reset request pending mark clears if one of them breaks the pair (R176). -/
def State.breakPair (fs : List RxFrame) (s : State) : State :=
  if fs.any (RxFrame.breaksPair s.laneId) then
    { s with start := { s.start with resetPending := false, resetReqTimer := .stopped } }
  else s

/-- The owner of kind `k` takes its buffered frame, whose buffer empties; with none there nothing happens. -/
def State.onFrame (k : FrameKind) (act : RxFrame → State → State) (s : State) : State :=
  match takeFirst k s.bus.rx with
  | some (f, rest) => act f ((s.setRx rest).breakPair (handedUpTo k s.bus.rx))
  | none => s

/-! ### Sending -/

/-- A frame is in transmission. -/
def State.sending? (s : State) : Option TxEntry := s.bus.txQueue.find? (·.sending)

/-- The head frame begins to be sent (R168). -/
def State.beginSending (s : State) : State :=
  match s.bus.txQueue with
  | [] => s
  | e :: es => if s.alive && s.sending?.isNone then s.setTxQueue ({ e with sending := true } :: es) else s

/-- The oldest FILLED place becomes FREE (R154). -/
def State.dropOffered (s : State) : State :=
  ({ s with outcome := { s.outcome with filled := s.outcome.filled.tail, offered := false } } : State).placeFreed

/-- The owner of a frame is told that it has been sent (R154, R157, R168). -/
def State.ownerTold (f : TxFrame) (s : State) : State :=
  match f with
  | .outcome _ => s.dropOffered
  | .status _ _ => if s.outcome.statusDue then (s.setStatusDue false).handStatus else s
  | _ => s

/-- The last CRC bit of the frame in transmission goes out: it leaves the queue, an outbox frame enters, its owner is told
and an offer is tested (R154, R167, R168; log 20). -/
def State.sent (s : State) : State :=
  match s.sending? with
  | none => s
  | some e =>
    let s1 := (s.setTxQueue (s.bus.txQueue.eraseP (·.sending))).emit (.busFrame (e.frame.bytes s.laneId))
    ((s1.drainOutbox).ownerTold e.frame).offerOutcome

/-- Contention is lost: the frame stays in the queue, and the winning frame is received (R163; log 8). -/
def State.loseContention (stopFault : Bool) (bytes : List Byte) (s : State) : State :=
  if s.sending?.isSome then
    (s.setTxQueue (s.bus.txQueue.map (fun e => { e with sending := false }))).receive stopFault bytes
  else s

/-! ### Timers -/

/-- The office-silence timer runs out: degraded mode begins and GATEWAY_SILENT latches (R171). -/
def State.officeSilent (s : State) : State :=
  if s.bus.silence.isRunning then
    ({ s with bus := { s.bus with silence := .stopped, degraded := true } } : State).latch .gatewaySilent
  else s

/-- The peer-silence timer runs out: no peer counts as heard (R89). -/
def State.peersSilent (s : State) : State := { s with capacity := { s.capacity with peerTimer := .stopped } }

/-- The clash timer runs out: the ID_CLASH condition ends (R155). -/
def State.clashOver (s : State) : State :=
  if s.outcome.clashTimer.isRunning then
    ({ s with outcome := { s.outcome with clashTimer := .stopped } } : State).endCondition .idClash
  else s

end Sys2Proof.Machine
end

