-- ==== Sys2Proof/Machine/CommandsCapacity.lean ====
section
/-! DEFINITION. The commands of the Capacity Unit (05). -/

namespace Sys2Proof.Machine

/-- A loan frame's payload, one word (R173); the length is checked before (R170). -/
def State.loanFrame (act : Window → Byte → State → State) (payload : List Byte) (s : State) : State :=
  match loanForm payload with
  | some (w, n) => act w n s
  | none => s

/-- LOAN_ASK (R95). -/
def execLoanAskFrame (s : State) : Host.Outcome State Fault Refusal :=
  .next (s.onFrame .loanAsk (fun f => State.loanFrame (State.takeAsk f.source) f.payload))

/-- LOAN_OFFER (R91). -/
def execLoanOfferFrame (s : State) : Host.Outcome State Fault Refusal :=
  .next (s.onFrame .loanOffer (fun f => State.loanFrame (State.takeOffer f.source) f.payload))

/-- LOAN_TAKE (R96). -/
def execLoanTakeFrame (s : State) : Host.Outcome State Fault Refusal :=
  .next (s.onFrame .loanTake (fun f => State.loanFrame (State.takeTake f.source) f.payload))

/-- LOAN_CONFIRM (R92). -/
def execLoanConfirmFrame (s : State) : Host.Outcome State Fault Refusal :=
  .next (s.onFrame .loanConfirm (fun f => State.loanFrame (State.takeConfirm f.source) f.payload))

/-- LOAN_VOID (R93). -/
def execLoanVoidFrame (s : State) : Host.Outcome State Fault Refusal :=
  .next (s.onFrame .loanVoid (fun f => State.loanFrame (State.takeVoid f.source) f.payload))

/-- LOAN_DECLINE (R97). -/
def execLoanDeclineFrame (s : State) : Host.Outcome State Fault Refusal :=
  .next (s.onFrame .loanDecline (fun f => State.loanFrame (State.takeDecline f.source) f.payload))

/-- ASK_DEADLINE_EXPIRY (R93). -/
def execAskDeadlineExpiry (s : State) : Host.Outcome State Fault Refusal := .next s.askDeadline

/-- OFFER_EXPIRY (R97); log 30. -/
def execOfferExpiry (s : State) : Host.Outcome State Fault Refusal := .next s.offerExpired

/-- PEER_SILENCE_EXPIRY (R89). -/
def execPeerSilenceExpiry (s : State) : Host.Outcome State Fault Refusal := .next s.peersSilent

end Sys2Proof.Machine
end

