-- ==== Sys2Proof/Machine/Lane.lean ====
section
/-! DEFINITION. The events of the lane: loop events (R10, R22 to R26, R41), clerk decisions (R37 to R40), hold timeouts
(R35, R36), the exit check (R42), OPEN and CLOSE (R8, R9), reader reports (R48 to R52), and debounced line events. -/

namespace Sys2Proof.Machine

/-! ### Reader reports -/

/-- A reader channel. -/
def ReaderPort.get (r : ReaderPort) : Channel → ReaderChannel
  | .plateReader => r.plateCh
  | .codeReader => r.codeCh
  | .sealReader => r.sealCh

/-- A reader channel replaced. -/
def ReaderPort.put (r : ReaderPort) (ch : Channel) (c : ReaderChannel) : ReaderPort :=
  match ch with
  | .plateReader => { r with plateCh := c }
  | .codeReader => { r with codeCh := c }
  | .sealReader => { r with sealCh := c }

/-- A reader channel of the device. -/
def State.channel (s : State) (ch : Channel) : ReaderChannel := s.reader.get ch

/-- A reader channel of the device replaced. -/
def State.setChannel (ch : Channel) (c : ReaderChannel) (s : State) : State := { s with reader := s.reader.put ch c }

/-- An answer goes back on a reader channel, as its byte (R49, R173). -/
def State.answer (ch : Channel) (a : Answer) (s : State) : State := s.emit (.answer ch a.byte)

/-- A report accepted by the Visit Engine changes the record of the visit in the portal (R50). A fourth seal changes
nothing. -/
def State.attachReport (n : VisitNumber) (r : Report) (s : State) : State :=
  s.updVisit n (fun v => (v.attach r).getD v)

/-- A new report is placed against the lane queue: attached, held, not taken, or an orphan (R49, R51, R52, R57). -/
def State.placeReport (ch : Channel) (r : Report) (s : State) : Answer × State :=
  match s.portal? with
  | some v =>
    match v.attach r with
    | some _ => (.accept, s.attachReport v.number r)
    | none => (.reject, s)
  | none =>
    if s.visits.laneQueue.any (fun v => v.state == .approach) then
      if (s.channel ch).buffer.isNone then
        (.accept, s.setChannel ch { s.channel ch with buffer := some r, expiry := .running 3000 })
      else (.busy, s)
    else (.reject, s.count .orphanReads)

/-- A well-formed report: a repeat is answered ACCEPT, a new one placed; an ACCEPT of a new one moves the expected toggle
and synchronises the channel (R48, R49). -/
def State.takeReport (ch : Channel) (toggle : Bool) (r : Report) (s : State) : State :=
  let c := s.channel ch
  if c.synced && toggle != c.expected then s.answer ch .accept
  else
    let (a, s1) := s.placeReport ch r
    let s2 := if a = .accept then s1.setChannel ch { s1.channel ch with expected := !toggle, synced := true } else s1
    s2.answer ch a

/-- A reader's HELLO: expected toggle 0, synchronised, answered ACCEPT; the holding buffer stays (R48). -/
def State.takeHello (ch : Channel) (s : State) : State :=
  (s.setChannel ch { s.channel ch with expected := false, synced := true }).answer ch .accept

/-- A message on a reader channel, by its form: malformed is answered REJECT and changes nothing else (R46, R49). -/
def State.readerMessage (ch : Channel) (m : Option ReaderMessage) (s : State) : State :=
  if s.alive then
    match m with
    | none => s.answer ch .reject
    | some .hello => s.takeHello ch
    | some (.report t r) => s.takeReport ch t r
  else s

/-- A held report attaches to the visit now in the portal, and the buffer empties (R51). -/
def State.attachHeld (n : VisitNumber) (ch : Channel) (s : State) : State :=
  match (s.channel ch).buffer with
  | some r => (s.setChannel ch { s.channel ch with buffer := none, expiry := .stopped }).attachReport n r
  | none => s

/-- The held reports attach in channel order (R24, R51). -/
def State.attachAllHeld (s : State) : State :=
  match s.portal? with
  | some v => ((s.attachHeld v.number .plateReader).attachHeld v.number .codeReader).attachHeld v.number .sealReader
  | none => s

/-- A held report expires: discarded, ORPHAN_READS counts one (R51). -/
def State.bufferExpired (ch : Channel) (s : State) : State :=
  if (s.channel ch).buffer.isSome then
    (s.setChannel ch { s.channel ch with buffer := none, expiry := .stopped }).count .orphanReads
  else s

/-! ### Loop events -/

/-- A visit's slot state. -/
def State.setVisitState (n : VisitNumber) (st : SlotState) (s : State) : State :=
  s.updVisit n (fun v => { v with state := st })

/-- LOOP_A occupied (R10, R22). -/
def State.loopAOccupied (s : State) : State :=
  match s.visits.mode with
  | .starting => s
  | .laneOpen =>
    if s.visits.laneQueue.length < 4 then s.openVisit .approach []
    else if s.visits.pendingArrivals < 3 then s.setPendingArrivals (s.visits.pendingArrivals + 1)
    else s.arrivalLost
  | .laneClosed | .draining => s.placeLaneClosed.count .closedArrivals

/-- Steps 1 of R24: the portal stage of a visit still in the portal closes, with PORTAL_OVERRUN. -/
def State.overrunPortal (s : State) : State :=
  match s.portal? with
  | some v => ((s.portalClose v.number).updVisit v.number (Visit.addReason .portalOverrun)).setVisitState v.number .toStop
  | none => s

/-- A truck in the portal for which no APPROACH visit stands (R10, R24 step 3). -/
def State.unseenAtPortal (s : State) : State :=
  match s.visits.mode with
  | .starting => s
  | .laneOpen =>
    if s.visits.laneQueue.length < 4 then s.openVisit .atPortal [.approachUnseen]
    else (s.setPendingArrivals (s.visits.pendingArrivals - 1)).arrivalLost
  | .laneClosed | .draining =>
    if 0 < s.visits.pendingArrivals then (s.setPendingArrivals (s.visits.pendingArrivals - 1)).arrivalLost else s

/-- LOOP_P occupied (R24, R10). -/
def State.loopPOccupied (s : State) : State :=
  if s.visits.mode = .starting then s
  else
    let s1 := s.overrunPortal
    let s2 := match s1.oldest? (fun v => v.state == .approach) with
      | some v => s1.setVisitState v.number .atPortal
      | none => s1.unseenAtPortal
    s2.attachAllHeld

/-- LOOP_P vacated (R25). -/
def State.loopPVacated (s : State) : State :=
  match s.portal? with
  | some v => (s.portalClose v.number).setVisitState v.number .toStop
  | none => s

/-- LOOP_S occupied (R26). -/
def State.loopSOccupied (s : State) : State :=
  match s.oldest? (fun v => v.state == .toStop) with
  | some v => s.evaluate v.number
  | none =>
    match s.portal? with
    | some v => (s.portalClose v.number).evaluate v.number
    | none => s

/-- LOOP_X occupied: the oldest EXITING visit is passing (R41). -/
def State.loopXOccupied (s : State) : State :=
  match s.oldest? (fun v => v.state == .exiting) with
  | some v => s.updVisit v.number (fun v => { v with passing := true })
  | none => s

/-- LOOP_X vacated: the passing visit leaves the lane, and then the Yard Routing Unit takes the event (R41, R147;
log 21). -/
def State.loopXVacated (s : State) : State :=
  let s1 := match s.oldest? (fun v => v.passing) with
    | some v => s.leaveOverExit v
    | none => s
  s1.yardLoopXVacated

/-- The exit check of a visit runs out: without its passing flag it leaves the lane with EXIT_UNSEEN (R42). -/
def State.exitCheckExpired (n : VisitNumber) (s : State) : State :=
  match s.oldest? (fun v => v.number == n && v.exitCheck.isRunning) with
  | none => s
  | some v =>
    if v.state = .exiting ∧ v.passing = false then
      let s1 := s.updVisit n (fun v => ({ v with exitCheck := .stopped } : Visit).addReason .exitUnseen)
      match s1.visit? n with
      | some w => s1.leaveOverExit w
      | none => s1
    else s.updVisit n (fun v => { v with exitCheck := .stopped })

/-! ### Lane modes (R7 to R9) -/

/-- OPEN (R8). -/
def State.takeOpen (s : State) : State :=
  match s.visits.mode with
  | .starting => s.count .framesIgnored
  | .laneClosed | .draining => s.setMode .laneOpen
  | .laneOpen => s

/-- CLOSE (R9). -/
def State.takeClose (s : State) : State :=
  match s.visits.mode with
  | .starting => s.count .framesIgnored
  | .laneOpen => s.setMode (if s.visits.laneQueue.isEmpty then .laneClosed else .draining)
  | .laneClosed | .draining => s

/-- The lane leaves STARTING for CLOSED when the configuration is fixed and the clock valid (R7). -/
def State.checkReady (s : State) : State :=
  if s.visits.mode = .starting && s.start.config.isSome && s.clock.valid then s.setMode .laneClosed else s

/-! ### Clerk decisions and hold timeouts -/

/-- A parked place has freed: the oldest deferred hold timeout is taken again (R36). -/
def State.retakeDeferred (s : State) : State :=
  match s.oldest? (fun v => v.isClerkHold && v.timeoutRun) with
  | some v => if s.parkedRoom then s.giveVerdict v.number .park else s
  | none => s

/-- The active hold reasons are marked overridden and the clerk-override flag set; an EARLY or LATE visit takes a forced
grant (R37, R38). -/
def State.overrideVisit (v : Visit) (s : State) : State :=
  let s1 := s.updVisit v.number (fun v => { v.overrideHolds with clerkOverride := true })
  if v.needsFlex then s1.forcedGrant v.number else s1

/-- RELEASE naming this lane: a clerk hold is released into the lane, a parked visit closes; anything else is ignored
and counted (R37, R38, R39). -/
def State.takeRelease (n : VisitNumber) (s : State) : State :=
  match s.visit? n with
  | none => s.count .framesIgnored
  | some v =>
    if v.isClerkHold then (s.overrideVisit v).giveVerdict n v.admission
    else if v.state = .parked then
      (((s.overrideVisit v).giveParkedAdmission n v.admission).closeVisit n).retakeDeferred
    else s.count .framesIgnored

/-- REFUSE naming this lane (R40). -/
def State.takeRefuse (n : VisitNumber) (s : State) : State :=
  match s.visit? n with
  | none => s.count .framesIgnored
  | some v =>
    if v.isClerkHold then s.refuseVisit n
    else if v.state = .parked then ((s.writeVerdict n .refuse).closeVisit n).retakeDeferred
    else s.count .framesIgnored

/-- A clerk frame: one that names another lane is ignored and counted (02, section 2.7). -/
def State.clerkFrame (act : VisitNumber → State → State) (payload : List Byte) (s : State) : State :=
  match clerkForm payload with
  | some (lane, n) => if lane.toNat = s.laneId.toNat then act n s else s.count .framesIgnored
  | none => s.count .framesIgnored

/-- The configured hold timeout in tenths (R33). -/
def State.holdTenths (s : State) : Int := s.general.holdMinutes * 600

/-- The hold timeout of a visit has run on gate time from its stamp to `p` (R16, R33). -/
def State.holdDue (s : State) (p : GatePoint) (v : Visit) : Bool :=
  v.isClerkHold && !v.timeoutRun &&
    match v.holdStart with
    | some h => decide (s.holdTenths ≤ gateElapsed s.general.windowMinutes h p)
    | none => false

/-- The hold timeout of a visit expires: REFUSE in degraded mode, PARK with room, deferred otherwise (R35). -/
def State.expireHold (n : VisitNumber) (s : State) : State :=
  match s.visit? n with
  | none => s
  | some v =>
    if v.isClerkHold && !v.timeoutRun then
      if s.bus.degraded then s.refuseVisit n
      else if s.parkedRoom then s.giveVerdict n .park
      else s.updVisit n (fun v => { v with timeoutRun := true })
    else s

/-- The hold timeout of visit `n` runs out, if gate time has reached it (R33, R35). -/
def State.holdTimeout (n : VisitNumber) (s : State) : State :=
  match s.visit? n with
  | none => s
  | some v => if s.holdDue s.point v then s.expireHold n else s

/-! ### Line events -/

/-- The polarity turns a pin level into asserted or not (R1). -/
def assertedBy (p : Polarity) (high : Bool) : Bool :=
  match p with
  | .activeHigh => high
  | .activeLow => !high

/-- The present level of a line, read through its polarity (R1). -/
def State.presentLevel (s : State) (l : Line) : Bool := assertedBy (s.general.polarity.get l) (s.line.pins.get l)

/-- The event a debounced change gives, at the block that owns the line (01, section 1.1). -/
def State.lineEvent (l : Line) (asserted : Bool) (s : State) : State :=
  match l, asserted with
  | .loopA, true => s.loopAOccupied
  | .loopA, false => s
  | .loopP, true => s.loopPOccupied
  | .loopP, false => if s.visits.mode = .starting then s else s.loopPVacated
  | .loopS, true => if s.visits.mode = .starting then s else s.loopSOccupied
  | .loopS, false => s
  | .loopX, true => if s.visits.mode = .starting then s else s.loopXOccupied
  | .loopX, false => if s.visits.mode = .starting then s.yardLoopXVacated else s.loopXVacated
  | .scan, true => s.scanOccupied
  | .scan, false => s.endPass
  | .barUp, true => s.barUpUp
  | .barUp, false => s.barUpDown

/-- A line's debounce timer is set. -/
def State.setLineTimer (l : Line) (t : Timer) (s : State) : State := { s with line := { s.line with timers := s.line.timers.put l t } }

/-- The debounced level of a line takes its present level and gives its event (R2). -/
def State.settleLine (l : Line) (ls : LineSet Bool) (s : State) : State :=
  let now := s.presentLevel l
  let s1 : State := { s with line := { s.line with debounced := some (ls.put l now), timers := s.line.timers.put l .stopped } }
  s1.lineEvent l now

/-- A pin takes a level: a departure from the debounced level starts the debounce timer, or with a debounce time of 0 is
an event at once; a return stops it; while the levels are absent only the pin changes (R1, R2). -/
def State.pinChange (l : Line) (high : Bool) (s : State) : State :=
  if s.line.pins.get l = high then s
  else
    let s1 : State := { s with line := { s.line with pins := s.line.pins.put l high } }
    match s1.line.debounced with
    | none => s1
    | some ls =>
      if s1.presentLevel l = ls.get l then s1.setLineTimer l .stopped
      else if s1.general.debounceMs = 0 then s1.settleLine l ls
      else s1.setLineTimer l (.running s1.general.debounceMs)

/-- A line's debounce timer runs out with the present level still different (R2). -/
def State.debounceExpired (l : Line) (s : State) : State :=
  match s.line.debounced with
  | some ls =>
    if (s.line.timers.get l).isRunning then
      if s.presentLevel l = ls.get l then s.setLineTimer l .stopped else s.settleLine l ls
    else s
  | none => s

end Sys2Proof.Machine
end

