-- ==== Sys2Proof/Machine/CommandsReader.lean ====
section
/-! DEFINITION. The commands of the three reader channels and of the display channel (03). -/

namespace Sys2Proof.Machine

/-- PLATE (R46 to R53). -/
def execPlateReport (toggle : Bool) (text : List Byte) (confidence : Byte) (s : State) : Host.Outcome State Fault Refusal :=
  .next (s.readerMessage .plateReader ((plateForm text confidence).map (.report toggle)))

/-- CODE (R46 to R52, R54, R55). -/
def execCodeReport (toggle : Bool) (position : Byte) (text : List Byte) (size : Byte) (s : State) : Host.Outcome State Fault Refusal :=
  .next (s.readerMessage .codeReader ((codeForm position text size).map (.report toggle)))

/-- SEAL (R46 to R52, R57, R102). -/
def execSealReport (toggle : Bool) (position kind electronic : Byte) (text : List Byte) (s : State) : Host.Outcome State Fault Refusal :=
  .next (s.readerMessage .sealReader ((sealForm position kind electronic text).map (.report toggle)))

/-- HELLO (R48). -/
def execHelloReport (ch : Channel) (s : State) : Host.Outcome State Fault Refusal :=
  .next (s.readerMessage ch (some .hello))

/-- MALFORMED_REPORT (R46, R49, R173); log 24. -/
def execMalformedReport (ch : Channel) (msg : List Byte) (s : State) : Host.Outcome State Fault Refusal :=
  .next (s.readerMessage ch (parseReaderMessage ch msg))

/-- HOLDING_BUFFER_EXPIRY (R51). -/
def execHoldingBufferExpiry (ch : Channel) (s : State) : Host.Outcome State Fault Refusal :=
  .next (s.bufferExpired ch)

/-- DISPLAY_ACCEPT (R58). -/
def execDisplayAccept (toggle : Bool) (s : State) : Host.Outcome State Fault Refusal :=
  .next (s.displayAnswer toggle .accept)

/-- DISPLAY_BUSY (R59). -/
def execDisplayBusy (toggle : Bool) (s : State) : Host.Outcome State Fault Refusal :=
  .next (s.displayAnswer toggle .busy)

/-- DISPLAY_REJECT (R59). -/
def execDisplayReject (toggle : Bool) (s : State) : Host.Outcome State Fault Refusal :=
  .next (s.displayAnswer toggle .reject)

/-- DISPLAY_UNUSABLE_ANSWER (R60, R173); log 24. -/
def execDisplayUnusableAnswer (b : Byte) (s : State) : Host.Outcome State Fault Refusal :=
  .next (s.displayByte b)

/-- ANSWER_WAIT_EXPIRY (R59). -/
def execAnswerWaitExpiry (s : State) : Host.Outcome State Fault Refusal := .next s.answerWaitExpired

/-- RETRY_WAIT_EXPIRY (R59). -/
def execRetryWaitExpiry (s : State) : Host.Outcome State Fault Refusal := .next s.retryWaitExpired

/-- DISPLAY_HELLO (R60). -/
def execDisplayHello (s : State) : Host.Outcome State Fault Refusal := .next s.displayRestarted

end Sys2Proof.Machine
end

