-- ==== Sys2Proof/Config.lean ====
section
/-! DEFINITION. What the spec leaves free. One choice is open: the order in which a roll notice reaches the Capacity
Unit and the Yard Routing Unit. -/

namespace Sys2Proof

/-- FREE VALUE (log 12). At the n-th roll notice whose outcome depends on it: true when the Yard Routing Unit takes the
notice before the Capacity Unit, false when after. R15 gives the blocks no order and R133 describes both. -/
opaque Config.yardFirst : Nat → Bool

end Sys2Proof
end

