-- ==== Sys2Proof/Machine/Clock.lean ====
section
/-! DEFINITION. The Gate Clock: rolls and roll notices (R11, R15), TIME frames (R12 to R14), and the holds whose timeout
ends inside a forward adoption (R16). -/

namespace Sys2Proof.Machine

/-- A free order is drawn: the count of draws rises. -/
def State.drawFree (s : State) : State := { s with freeIndex := s.freeIndex + 1 }

/-- A roll notice is handed to the Booking Store, the Capacity Unit and the Yard Routing Unit (R15). With visits waiting
for a loan, whether the Yard Routing Unit takes the notice before the Capacity Unit is a free value (log 12). -/
def State.rollNotice (w : Window) (cls : Nat) (s : State) : State :=
  let s1 := s.bookingRoll w
  if s1.capacity.waitList.isEmpty then (s1.capacityRoll w cls).yardRoll w
  else if Config.yardFirst s1.freeIndex then (s1.drawFree.yardRoll w).capacityRoll w cls
  else (s1.drawFree.capacityRoll w cls).yardRoll w

/-- The clock's values are replaced. -/
def State.setClock (c : GateClock) (s : State) : State := { s with clock := c }

/-- One window roll (R11). -/
def State.oneRoll (s : State) : State :=
  (s.setClock { s.clock with window := s.clock.window + 1, tenths := 0, curClass := s.clock.nextClass }).rollNotice
    (s.clock.window + 1) s.clock.nextClass

/-- Rolls one after another (R13). -/
def State.rolls : Nat → State → State
  | 0, s => s
  | n + 1, s => State.rolls n s.oneRoll

/-- The clock counts: it is valid and not paused (R11, R14). -/
def State.clockRuns (s : State) : Bool := s.clock.valid && !s.clock.paused

/-- The tenths at which the clock rolls (R11). -/
def State.rollTenths (s : State) : Nat := windowTenths s.general.windowMinutes

/-- A tenth of a second passes, short of the roll (R11). -/
def State.tenthPasses (s : State) : State :=
  if s.clockRuns && s.clock.tenths + 1 < s.rollTenths then s.setClock { s.clock with tenths := s.clock.tenths + 1 } else s

/-- A tenth of a second passes and the tenths reach the window length: the clock rolls (R11). -/
def State.rollDue (s : State) : State :=
  if s.clockRuns && s.rollTenths ≤ s.clock.tenths + 1 then s.oneRoll else s

/-- The clock set directly to a window five or more ahead, with a fifth notice (R13). -/
def State.setWindow (w : Window) (s : State) : State :=
  (s.setClock { s.clock with window := w, curClass := s.clock.nextClass }).rollNotice w s.clock.nextClass

/-- The windows of an adoption at distance `k` (R13). -/
def State.carryWindows (k : Int) (w : Window) (s : State) : State :=
  if k ≤ 4 then State.rolls k.toNat s else (State.rolls 4 s).setWindow w

/-- The holds whose timeout ends inside a jump of `jump` tenths from the point `from_`: the visits in lane-queue order
(R16; log 13). -/
def State.jumpExpired (from_ : GatePoint) (jump : Int) (s : State) : List VisitNumber :=
  (s.visits.laneQueue.filter (fun v => v.isClerkHold && !v.timeoutRun && match v.holdStart with
    | some h => decide (s.holdTenths ≤ gateElapsed s.general.windowMinutes h from_ + jump)
    | none => false)).map (·.number)

/-- Holds expire one after another. -/
def expireHolds (ns : List VisitNumber) (s : State) : State := ns.foldl (fun s n => s.expireHold n) s

/-- A TIME frame at or after the clock is adopted (R13), and the holds it carries past their end expire (R16): after every
roll notice of the adoption has been taken (the order is log 42). -/
def State.adoptTime (p : GatePoint) (cls : Nat) (s : State) : State :=
  let old := s.point
  let k := winDist s.clock.window p.window
  let s1 := (s.setClock { s.clock with paused := false }).carryWindows k p.window
  let s2 := s1.setClock { s1.clock with tenths := p.tenths, nextClass := cls }
  expireHolds (s2.jumpExpired old (gateElapsed s.general.windowMinutes old p)) s2

/-- The first valid TIME frame: the clock becomes valid, its window's notice goes out and readiness is tested (R12). -/
def State.firstTime (p : GatePoint) (cls : Nat) (s : State) : State :=
  ((s.setClock ⟨true, false, p.window, p.tenths, cls, cls⟩).rollNotice p.window cls).checkReady

/-- The frame's point is earlier than the clock's (R14). -/
def State.isEarlier (p : GatePoint) (s : State) : Bool :=
  let k := winDist s.clock.window p.window
  decide (k < 0 ∨ (k = 0 ∧ p.tenths < s.clock.tenths))

/-- A TIME frame (R12 to R14). -/
def State.takeTime (payload : List Byte) (s : State) : State :=
  match timeForm payload with
  | none => s.count .framesIgnored
  | some (p, cls) =>
    if s.start.config.isNone || s.rollTenths ≤ p.tenths || 3 < cls then s.count .framesIgnored
    else if !s.clock.valid then s.firstTime p cls
    else if s.isEarlier p then s.setClock { s.clock with paused := true }
    else s.adoptTime p cls

end Sys2Proof.Machine
end

