-- ==== Sys2Proof/Machine/Start.lean ====
section
/-! DEFINITION. Start Control: resets (R6, R174 to R176, R180), the assembly of the configuration (R177) and its fixing
(R179, R3, R144). -/

namespace Sys2Proof.Machine

/-! ### Resets -/

/-- The device is held in reset with a cause and a places-lost count: every block at its reset values, RAISE and ALERT_N
released (R6, R180). Pins, the RESET_N level and its qualification are inputs and stay (log 35). -/
def State.enterReset (cause : ResetCause) (lost : Nat) (s : State) : State where
  start :=
    { phase := .held, resetPin := s.start.resetPin, resetQual := s.start.resetQual, straps := none, strapFault := false
      cause := cause, placesLost := lost, placesUnknown := cause == .power, assembly := .empty, config := none
      resetPending := false, resetReqTimer := .stopped }
  line := { pins := s.line.pins, debounced := none, timers := .all .stopped, raiseOut := false }
  clock := .initial
  visits := .initial
  reader := .initial
  booking := .initial
  capacity := .initial
  survey := .initial
  yard := .initial
  outcome := .initial
  bus := .initial
  out := s.out
  freeIndex := s.freeIndex
  pending := s.pending

/-- The RESET_N level and its qualification are replaced. -/
def State.setResetPin (high : Bool) (qual : Timer) (s : State) : State :=
  { s with start := { s.start with resetPin := high, resetQual := qual } }

/-- An identifier that no lane has: 0 or 31 (R174). -/
def badLane (l : LaneId) : Bool := l == 0 || l == 31

/-- START is handed over and the office-silence timer starts; the queue is empty when START is made, and a full one would
not admit it (R166, R171, R175). -/
def State.announceStart (s : State) : State :=
  let s1 := if s.txFree = 0 then s
    else s.enqueue (.start s.start.cause s.start.placesLost s.start.placesUnknown)
  { s1 with bus := { s1.bus with silence := .running 5000 } }

/-- The straps are sampled and held (R174). -/
def State.sampleStraps (p : Straps) (s : State) : State :=
  { s with start := { s.start with phase := .running, straps := some p, strapFault := badLane p.lane } }

/-- A reset ends: the straps are sampled; a strap fault holds ALERT_N low, a lane identifier announces the start
(R174, R175). -/
def State.endReset (p : Straps) (s : State) : State :=
  let s1 := (s.sampleStraps p).driveAlertN
  if badLane p.lane then s1 else s1.announceStart

/-- Supply comes up: a power-on reset, which ends when RESET_N is high (R6, R175). -/
def State.powerUp (high : Bool) (p : Straps) (s : State) : State :=
  let s1 := (s.enterReset .power 0).setResetPin high .stopped
  if high then s1.endReset p else s1

/-- RESET_N goes low: its 10 ms begin (R6). -/
def State.resetPinFalls (s : State) : State := if s.start.resetPin then s.setResetPin false (.running 10) else s

/-- RESET_N has been low for 10 ms: the places are counted and the device held in reset with cause LINE (R6, R175). -/
def State.lineResetTaken (s : State) : State :=
  if !s.start.resetPin && s.start.resetQual.isRunning then
    (s.enterReset .line s.placesUsed).setResetPin false .stopped
  else s

/-- RESET_N goes high: a held reset ends; a shorter low level has no effect (R6, R174). -/
def State.resetPinRises (p : Straps) (s : State) : State :=
  if s.start.resetPin then s
  else
    let s1 := s.setResetPin true .stopped
    if s.start.phase = .held then s1.endReset p else s1

/-! ### Reset requests (R176) -/

/-- The pending mark and its timer. -/
def State.setResetPending (b : Bool) (t : Timer) (s : State) : State :=
  { s with start := { s.start with resetPending := b, resetReqTimer := t } }

/-- RESET_REQ by its destination: broadcast ignored, the first of a pair marked, the second a requested reset. -/
def State.takeResetReq (dest : LaneId) (p : Straps) (s : State) : State :=
  if dest = 0 then s.count .framesIgnored
  else if s.start.resetPending then (s.enterReset .request s.placesUsed).endReset p
  else s.setResetPending true (.running 2000)

/-- The 2 s timer runs out: the pending mark clears. -/
def State.resetReqExpired (s : State) : State :=
  if s.start.resetReqTimer.isRunning then s.setResetPending false .stopped else s

/-! ### Configuration (R177, R179) -/

/-- A valid part becomes the held copy, or replaces it whole (R177). -/
def Assembly.hold (a : Assembly) : ConfigPart → Assembly
  | .general g => { a with general := some g }
  | .zones zs => { a with zones := some zs }
  | .profilesA ps => { a with profilesA := some ps }
  | .profilesB ps => { a with profilesB := some ps }
  | .blocks bs => { a with blocks := some bs }

/-- The Lane Line Unit takes the present level of every line as its debounced level, without events (R3). -/
def State.takeLevels (s : State) : State :=
  let now : LineSet Bool :=
    ⟨s.presentLevel .loopA, s.presentLevel .loopP, s.presentLevel .loopS, s.presentLevel .loopX, s.presentLevel .scan,
      s.presentLevel .barUp⟩
  { s with line := { s.line with debounced := some now } }

/-- The configuration is fixed and handed out: levels, blocks, the barrier, ALERT_N, readiness (R179). -/
def State.fixConfig (c : LaneConfig) (bs : List BlockEntry) (s : State) : State :=
  let s1 := ({ s with start := { s.start with config := some c } } : State).takeLevels
  (((s1.setBlocks bs).barrierAtFix).driveAlertN).checkReady

/-- With the five parts held the configuration is fixed (R177, R179). -/
def State.fixIfComplete (s : State) : State :=
  match s.start.assembly with
  | ⟨some g, some zs, some pa, some pb, some bs⟩ => s.fixConfig ⟨g, zs, pa ++ pb⟩ bs
  | _ => s

/-- A CONFIG frame (R177). -/
def State.takeConfig (payload : List Byte) (s : State) : State :=
  if s.start.config.isSome then s.count .framesIgnored
  else match configForm payload with
    | none => s.count .framesIgnored
    | some part =>
      ({ s with start := { s.start with assembly := s.start.assembly.hold part } } : State).fixIfComplete

end Sys2Proof.Machine
end

