-- ==== Sys2Proof/Machine/CommandsStart.lean ====
section
/-! DEFINITION. The commands of Start Control, the Lane Line Unit and the Gate Clock (01, 11). -/

namespace Sys2Proof.Machine

/-- POWER_ON (R6, R174, R175). -/
def execPowerOn (high : Bool) (p : Straps) (s : State) : Host.Outcome State Fault Refusal :=
  .next (s.powerUp high p)

/-- RESET_N_FALL (R6). -/
def execResetNFall (s : State) : Host.Outcome State Fault Refusal := .next s.resetPinFalls

/-- LINE_RESET (R6, R175). -/
def execLineReset (s : State) : Host.Outcome State Fault Refusal := .next s.lineResetTaken

/-- RESET_N_RELEASE (R6, R174). -/
def execResetNRelease (p : Straps) (s : State) : Host.Outcome State Fault Refusal :=
  .next (s.resetPinRises p)

/-- CONFIG (R177 to R179). -/
def execConfigFrame (s : State) : Host.Outcome State Fault Refusal :=
  .next (s.onFrame .config (fun f => State.takeConfig f.payload))

/-- RESET_REQ (R176). -/
def execResetReqFrame (p : Straps) (s : State) : Host.Outcome State Fault Refusal :=
  .next (s.onFrame .resetReq (fun f => State.takeResetReq f.dest p))

/-- RESET_REQ_TIMER_EXPIRY (R176). -/
def execResetReqTimerExpiry (s : State) : Host.Outcome State Fault Refusal := .next s.resetReqExpired

/-- LINE_LEVEL_CHANGE (R1, R2). -/
def execLineLevelChange (l : Line) (high : Bool) (s : State) : Host.Outcome State Fault Refusal :=
  .next (s.pinChange l high)

/-- DEBOUNCE_EXPIRY (R2), with the event it gives (R10, R22 to R26, R41, R114, R115, R145 to R148). -/
def execDebounceExpiry (l : Line) (s : State) : Host.Outcome State Fault Refusal :=
  .next (s.debounceExpired l)

/-- TENTHS_RISE (R11). -/
def execTenthsRise (s : State) : Host.Outcome State Fault Refusal := .next s.tenthPasses

/-- WINDOW_ROLL (R11, R15). -/
def execWindowRoll (s : State) : Host.Outcome State Fault Refusal := .next s.rollDue

/-- TIME (R12 to R14, R16). -/
def execTimeFrame (s : State) : Host.Outcome State Fault Refusal :=
  .next (s.onFrame .time (fun f => State.takeTime f.payload))

end Sys2Proof.Machine
end

