-- ==== Sys2Proof/Machine/CommandsVisits.lean ====
section
/-! DEFINITION. The commands of the Visit Engine and of the Booking Store (01, 02, 04). -/

namespace Sys2Proof.Machine

/-- A BOOKING payload: one that breaks a form rule is ignored and counted (R64). -/
def State.bookingPayload (payload : List Byte) (s : State) : State :=
  match bookingForm payload with
  | some f => s.takeBooking f
  | none => s.count .framesIgnored

/-- A BOOKING_CANCEL payload: one that breaks a form rule is ignored and counted (R64, R69; log 11). -/
def State.cancelPayload (payload : List Byte) (s : State) : State :=
  match cancelForm payload with
  | some ref => s.takeCancel ref
  | none => s.count .framesIgnored

/-- A CLAIM payload; a malformed one is ignored without a count (R77; log 11). -/
def State.claimPayload (source : LaneId) (payload : List Byte) (s : State) : State :=
  match claimForm payload with
  | some (ref, key) => s.takeClaimFrame source ref key
  | none => s

/-- A CLAIM_END payload; a malformed one is ignored and counted (R80; log 11). -/
def State.claimEndPayload (source : LaneId) (payload : List Byte) (s : State) : State :=
  match claimEndForm payload with
  | some (ref, r) => s.takeClaimEnd source ref r
  | none => s.count .framesIgnored

/-- OPEN (R8). -/
def execOpenFrame (s : State) : Host.Outcome State Fault Refusal :=
  .next (s.onFrame .openLane (fun _ => State.takeOpen))

/-- CLOSE (R9). -/
def execCloseFrame (s : State) : Host.Outcome State Fault Refusal :=
  .next (s.onFrame .closeLane (fun _ => State.takeClose))

/-- HOLD_TIMEOUT_EXPIRY (R33, R35). -/
def execHoldTimeoutExpiry (n : VisitNumber) (s : State) : Host.Outcome State Fault Refusal :=
  .next (s.holdTimeout n)

/-- RELEASE (R37 to R39). -/
def execReleaseFrame (s : State) : Host.Outcome State Fault Refusal :=
  .next (s.onFrame .release (fun f => State.clerkFrame State.takeRelease f.payload))

/-- REFUSE (R39, R40). -/
def execRefuseFrame (s : State) : Host.Outcome State Fault Refusal :=
  .next (s.onFrame .refuse (fun f => State.clerkFrame State.takeRefuse f.payload))

/-- EXIT_CHECK_EXPIRY (R42). -/
def execExitCheckExpiry (n : VisitNumber) (s : State) : Host.Outcome State Fault Refusal :=
  .next (s.exitCheckExpired n)

/-- BOOKING (R64 to R68). -/
def execBookingFrame (s : State) : Host.Outcome State Fault Refusal :=
  .next (s.onFrame .booking (fun f => State.bookingPayload f.payload))

/-- BOOKING_CANCEL (R69). -/
def execBookingCancelFrame (s : State) : Host.Outcome State Fault Refusal :=
  .next (s.onFrame .bookingCancel (fun f => State.cancelPayload f.payload))

/-- CLAIM (R76 to R78). -/
def execClaimFrame (s : State) : Host.Outcome State Fault Refusal :=
  .next (s.onFrame .claim (fun f => State.claimPayload f.source f.payload))

/-- CLAIM_END (R80). -/
def execClaimEndFrame (s : State) : Host.Outcome State Fault Refusal :=
  .next (s.onFrame .claimEnd (fun f => State.claimEndPayload f.source f.payload))

end Sys2Proof.Machine
end

