-- ==== Sys2Proof/Machine/Outcome.lean ====
section
/-! DEFINITION. What the Outcome and Alert Unit does with the frames of the office station: ALERT_CLEAR (R158) and
COUNTERS_FETCH (R160). -/

namespace Sys2Proof.Machine

/-- A flag that a frame's flag set names clears if it is set and its condition has ended (R158). -/
def clearNamed (set : BitVec 16) (fs : AlertFlags) (f : AlertFlag) : AlertFlags :=
  if set.getLsbD f.bit && (fs.get f).isSet && !(fs.get f).standing then fs.put f .clear else fs

/-- The flags after an ALERT_CLEAR naming `set`: bits that name no latched flag do nothing (R158). -/
def AlertFlags.afterClear (set : BitVec 16) (fs : AlertFlags) : AlertFlags := AlertFlag.all.foldl (clearNamed set) fs

/-- ALERT_CLEAR: the named flags clear together, as one change of the flag set (R158). -/
def State.clearAlerts (set : BitVec 16) (s : State) : State :=
  let fs := s.outcome.flags.afterClear set
  if fs = s.outcome.flags then s else ({ s with outcome := { s.outcome with flags := fs } } : State).flagSetChanged

/-- The payload of an ALERT_CLEAR, one word (R173). -/
def State.takeAlertClear (payload : List Byte) (s : State) : State :=
  match flagSetForm payload with
  | some set => s.clearAlerts set
  | none => s.count .framesIgnored

/-- COUNTERS_FETCH: the values go into a COUNTERS frame and every counter becomes 0, which ends the BUS condition
(R160). -/
def State.fetchCounters (s : State) : State :=
  ((s.setCounters .zero).endCondition .bus).handCounters s.outcome.counters

end Sys2Proof.Machine
end

