-- ==== Sys2Proof/Machine/CommandsYard.lean ====
section
/-! DEFINITION. The commands of the Survey Unit, the Yard Routing Unit, the Outcome and Alert Unit and the Peer Bus
Interface (07 to 10). -/

namespace Sys2Proof.Machine

/-- A BLOCK_NOTE's payload; one whose block is no identifier is ignored (R139; log 11). -/
def State.notePayload (payload : List Byte) (s : State) : State :=
  match noteForm payload with
  | some (b, w) => s.takeNote b w
  | none => s

/-- CONVERTER_SAMPLE (R117 to R119). -/
def execConverterSample (raw : BitVec 12) (s : State) : Host.Outcome State Fault Refusal :=
  .next (s.sample raw.toNat)

/-- BLOCK_NOTE (R139). -/
def execBlockNoteFrame (s : State) : Host.Outcome State Fault Refusal :=
  .next (s.onFrame .blockNote (fun f => State.notePayload f.payload))

/-- UP_CHECK_EXPIRY (R146, R148). -/
def execUpCheckExpiry (s : State) : Host.Outcome State Fault Refusal := .next s.upCheckExpired

/-- SETTLE_TIME_EXPIRY (R147, R148). -/
def execSettleTimeExpiry (s : State) : Host.Outcome State Fault Refusal := .next s.settleExpired

/-- ALERT_CLEAR (R158). -/
def execAlertClearFrame (s : State) : Host.Outcome State Fault Refusal :=
  .next (s.onFrame .alertClear (fun f => State.takeAlertClear f.payload))

/-- COUNTERS_FETCH (R160). -/
def execCountersFetchFrame (s : State) : Host.Outcome State Fault Refusal :=
  .next (s.onFrame .countersFetch (fun _ => State.fetchCounters))

/-- ID_CLASH_TIMER_EXPIRY (R155). -/
def execIdClashTimerExpiry (s : State) : Host.Outcome State Fault Refusal := .next s.clashOver

/-- FRAME_RECEIVED (R162, R169 to R171). -/
def execFrameReceived (stopFault : Bool) (bytes : List Byte) (s : State) : Host.Outcome State Fault Refusal :=
  .next (s.receive stopFault bytes)

/-- OFFICE_SILENCE_EXPIRY (R171). -/
def execOfficeSilenceExpiry (s : State) : Host.Outcome State Fault Refusal := .next s.officeSilent

/-- TX_START (R168). -/
def execTxStart (s : State) : Host.Outcome State Fault Refusal := .next s.beginSending

/-- CONTENTION_LOST (R163). -/
def execContentionLost (stopFault : Bool) (bytes : List Byte) (s : State) : Host.Outcome State Fault Refusal :=
  .next (s.loseContention stopFault bytes)

/-- FRAME_SENT (R154, R157, R168). -/
def execFrameSent (s : State) : Host.Outcome State Fault Refusal := .next s.sent

end Sys2Proof.Machine
end

