-- ==== Sys2Proof/Machine/Dispatch.lean ====
section
/-! DEFINITION. One arm for each command. -/

namespace Sys2Proof.Machine

def exec (i : Instr) (s : State) : Host.Outcome State Fault Refusal :=
  match i with
  | .powerOn resetHigh straps => Sys2Proof.Machine.execPowerOn resetHigh straps s
  | .resetNFall => Sys2Proof.Machine.execResetNFall s
  | .lineReset => Sys2Proof.Machine.execLineReset s
  | .resetNRelease straps => Sys2Proof.Machine.execResetNRelease straps s
  | .lineLevelChange line high => Sys2Proof.Machine.execLineLevelChange line high s
  | .debounceExpiry line => Sys2Proof.Machine.execDebounceExpiry line s
  | .windowRoll => Sys2Proof.Machine.execWindowRoll s
  | .timeFrame => Sys2Proof.Machine.execTimeFrame s
  | .openFrame => Sys2Proof.Machine.execOpenFrame s
  | .closeFrame => Sys2Proof.Machine.execCloseFrame s
  | .holdTimeoutExpiry n => Sys2Proof.Machine.execHoldTimeoutExpiry n s
  | .releaseFrame => Sys2Proof.Machine.execReleaseFrame s
  | .refuseFrame => Sys2Proof.Machine.execRefuseFrame s
  | .exitCheckExpiry n => Sys2Proof.Machine.execExitCheckExpiry n s
  | .plateReport toggle text confidence => Sys2Proof.Machine.execPlateReport toggle text confidence s
  | .codeReport toggle position text size => Sys2Proof.Machine.execCodeReport toggle position text size s
  | .sealReport toggle position kind electronic text => Sys2Proof.Machine.execSealReport toggle position kind electronic text s
  | .helloReport ch => Sys2Proof.Machine.execHelloReport ch s
  | .malformedReport ch msg => Sys2Proof.Machine.execMalformedReport ch msg s
  | .holdingBufferExpiry ch => Sys2Proof.Machine.execHoldingBufferExpiry ch s
  | .displayAccept toggle => Sys2Proof.Machine.execDisplayAccept toggle s
  | .displayBusy toggle => Sys2Proof.Machine.execDisplayBusy toggle s
  | .displayReject toggle => Sys2Proof.Machine.execDisplayReject toggle s
  | .displayUnusableAnswer b => Sys2Proof.Machine.execDisplayUnusableAnswer b s
  | .answerWaitExpiry => Sys2Proof.Machine.execAnswerWaitExpiry s
  | .retryWaitExpiry => Sys2Proof.Machine.execRetryWaitExpiry s
  | .displayHello => Sys2Proof.Machine.execDisplayHello s
  | .blockNoteFrame => Sys2Proof.Machine.execBlockNoteFrame s
  | .upCheckExpiry => Sys2Proof.Machine.execUpCheckExpiry s
  | .settleTimeExpiry => Sys2Proof.Machine.execSettleTimeExpiry s
  | .bookingFrame => Sys2Proof.Machine.execBookingFrame s
  | .bookingCancelFrame => Sys2Proof.Machine.execBookingCancelFrame s
  | .claimFrame => Sys2Proof.Machine.execClaimFrame s
  | .claimEndFrame => Sys2Proof.Machine.execClaimEndFrame s
  | .loanAskFrame => Sys2Proof.Machine.execLoanAskFrame s
  | .loanOfferFrame => Sys2Proof.Machine.execLoanOfferFrame s
  | .loanTakeFrame => Sys2Proof.Machine.execLoanTakeFrame s
  | .loanConfirmFrame => Sys2Proof.Machine.execLoanConfirmFrame s
  | .loanVoidFrame => Sys2Proof.Machine.execLoanVoidFrame s
  | .loanDeclineFrame => Sys2Proof.Machine.execLoanDeclineFrame s
  | .askDeadlineExpiry => Sys2Proof.Machine.execAskDeadlineExpiry s
  | .offerExpiry => Sys2Proof.Machine.execOfferExpiry s
  | .peerSilenceExpiry => Sys2Proof.Machine.execPeerSilenceExpiry s
  | .converterSample raw => Sys2Proof.Machine.execConverterSample raw s
  | .alertClearFrame => Sys2Proof.Machine.execAlertClearFrame s
  | .countersFetchFrame => Sys2Proof.Machine.execCountersFetchFrame s
  | .idClashTimerExpiry => Sys2Proof.Machine.execIdClashTimerExpiry s
  | .frameReceived stopFault bytes => Sys2Proof.Machine.execFrameReceived stopFault bytes s
  | .officeSilenceExpiry => Sys2Proof.Machine.execOfficeSilenceExpiry s
  | .txStart => Sys2Proof.Machine.execTxStart s
  | .contentionLost stopFault bytes => Sys2Proof.Machine.execContentionLost stopFault bytes s
  | .frameSent => Sys2Proof.Machine.execFrameSent s
  | .configFrame => Sys2Proof.Machine.execConfigFrame s
  | .resetReqFrame straps => Sys2Proof.Machine.execResetReqFrame straps s
  | .resetReqTimerExpiry => Sys2Proof.Machine.execResetReqTimerExpiry s
  | .tenthsRise => Sys2Proof.Machine.execTenthsRise s

end Sys2Proof.Machine
end

