-- ==== Sys2Proof/Safety.lean ====
section
/-! DEFINITION. What counts as a sound state of the device, in the terms the statements use: the bounds and couplings the
rules give, each kept by every command; and the few state expressions that several statements share. -/

namespace Sys2Proof.Machine

/-! ### Invariants -/

/-- The sixteen places of the Outcome Queue: those RESERVED and those FILLED are at most sixteen (R151). -/
def State.placesSound (s : State) : Prop := s.outcome.reserved.length + s.outcome.filled.length ≤ 16

/-- No counter is above 255 (R159). -/
def State.countersSound (s : State) : Prop := ∀ k, s.outcome.counters.get k ≤ 255

/-- The account of the window: used and lent never exceed share and borrowed, borrowed is at most 15, each live Offer is a
unit lent, and without an entry there is no Offer; at most 4 Offers and 4 outstanding TAKEs (R84, R91, R95). -/
def State.quotaSound (s : State) : Prop :=
  s.capacity.offers.length ≤ 4 ∧ s.capacity.takes.length ≤ 4 ∧
    match s.capacity.quota with
    | some q => q.used + q.lent ≤ q.share + q.borrowed ∧ s.capacity.offers.length ≤ q.lent ∧ q.borrowed ≤ 15
    | none => s.capacity.offers = []

/-- The Transmit Queue holds at most 8 frames; a frame waits in an outbox only while the queue is full, at most one for each
owner; at most two receive buffers are full (R166, R167, R170). -/
def State.busSound (s : State) : Prop :=
  s.bus.txQueue.length ≤ 8 ∧ (s.bus.outboxes ≠ [] → s.bus.txQueue.length = 8) ∧
    (s.bus.outboxes.map (·.owner)).Nodup ∧ s.bus.rx.length ≤ 2

/-- ALERT_N is low exactly while an unmasked alert flag is set or the lane has a strap fault (R5, R156). -/
def State.alertSound (s : State) : Prop := s.outcome.alertLow = s.alertDue

/-- At most four visits in the lane queue and three pending arrivals; an arrival is pending only while the lane queue is
full; no visit stands in the lane in STARTING or CLOSED, some visit does in DRAINING, and none is parked in STARTING (R7,
R9, R20, R22). -/
def State.laneSound (s : State) : Prop :=
  s.visits.laneQueue.length ≤ 4 ∧ s.visits.pendingArrivals ≤ 3 ∧
    (0 < s.visits.pendingArrivals → s.visits.laneQueue.length = 4) ∧
    ((s.visits.mode = .starting ∨ s.visits.mode = .laneClosed) → s.visits.laneQueue = []) ∧
    (s.visits.mode = .draining → s.visits.laneQueue ≠ []) ∧ (s.visits.mode = .starting → s.visits.parked = [])

/-- The Direction Queue holds at most four messages; the display channel is IDLE exactly while it is empty, and in each
delivery state the timer of that state alone runs; the busy count stays below five, and is 0 in IDLE (R58, R59, R140;
log 40). -/
def State.displaySound (s : State) : Prop :=
  s.yard.queue.length ≤ 4 ∧ s.reader.display.busyCount ≤ 4 ∧
    match s.reader.display.delivery with
    | .idle => s.yard.queue = [] ∧ s.reader.display.answerWait = .stopped ∧ s.reader.display.retryWait = .stopped
        ∧ s.reader.display.busyCount = 0
    | .sent => s.yard.queue ≠ [] ∧ s.reader.display.answerWait = .running 200 ∧ s.reader.display.retryWait = .stopped
    | .retryWait => s.yard.queue ≠ [] ∧ s.reader.display.answerWait = .stopped
        ∧ s.reader.display.retryWait = .running 200

/-- The Booking Table has 64 places, and no reference stands in two of them (R62). -/
def State.bookingsSound (s : State) : Prop :=
  s.booking.table.length = 64 ∧ ((s.booking.table.filterMap id).map (·.ref)).Nodup

/-- The limits of the GENERAL part (R178). -/
def General.withinLimits (g : General) : Prop :=
  g.windowMinutes ∈ [15, 20, 30, 60] ∧ g.graceEarly ≤ 120 ∧ g.graceLate ≤ 120 ∧ g.shares.length = 4 ∧
    (∀ n ∈ g.shares, n ≤ 15) ∧ g.reserve ≤ 15 ∧ g.plateThreshold ≤ 100 ∧ 1 ≤ g.holdMinutes ∧ g.holdMinutes ≤ 15 ∧
    g.debounceMs ≤ 255 ∧ g.samplesPerReading ∈ [1, 2, 4, 8] ∧ g.bandMinor ≤ g.bandMajor ∧ g.bandMajor ≤ 4095 ∧
    1 ≤ g.hardLimit ∧ g.hardLimit ≤ 255

/-- Twelve zones within the limits (R111, R178). -/
def zonesWithinLimits (zs : List Zone) : Prop :=
  zs.length = 12 ∧ ∀ z ∈ zs, z.offset ≤ 1023 ∧ z.tolerance ≤ 63 ∧ 1 ≤ z.weight ∧ z.weight ≤ 4

/-- `n` profiles of twelve expected distances within the limits (R112, R178). -/
def profilesWithinLimits (n : Nat) (ps : List (List Nat)) : Prop :=
  ps.length = n ∧ ∀ p ∈ ps, p.length = 12 ∧ ∀ d ∈ p, d ≤ 2047

/-- A Block Table as R132 and R178 demand it, with every count 0. -/
def blocksWithinLimits (bs : List BlockEntry) : Prop :=
  blocksSound bs = true ∧ 1 ≤ bs.length ∧ bs.length ≤ 16 ∧ ∀ b ∈ bs, b.cap ≤ 255 ∧ b.count = 0

/-- Every part held, and the configuration once fixed, is within the limits (R177 to R179). -/
def State.configSound (s : State) : Prop :=
  (∀ g, s.start.assembly.general = some g → g.withinLimits) ∧
    (∀ zs, s.start.assembly.zones = some zs → zonesWithinLimits zs) ∧
    (∀ ps, s.start.assembly.profilesA = some ps → profilesWithinLimits 2 ps) ∧
    (∀ ps, s.start.assembly.profilesB = some ps → profilesWithinLimits 2 ps) ∧
    (∀ bs, s.start.assembly.blocks = some bs → blocksWithinLimits bs) ∧
    ∀ c, s.start.config = some c →
      c.general.withinLimits ∧ zonesWithinLimits c.zones ∧ profilesWithinLimits 4 c.profiles

/-- A valid clock has a configuration, tenths inside the window and share classes 0 to 3; a clock not yet valid is as the
reset left it (R11, R12). -/
def State.clockSound (s : State) : Prop :=
  (s.clock.valid = true → ∃ c, s.start.config = some c ∧ s.clock.tenths < windowTenths c.general.windowMinutes ∧
      s.clock.curClass ≤ 3 ∧ s.clock.nextClass ≤ 3) ∧
    (s.clock.valid = false → s.clock = .initial)

/-- Every block at its reset values, with the reset's cause and places lost; the pins, the RESET_N level and its
qualification, the log of outputs and the queue of commands are not the reset's (R6, R175, R180; logs 25, 35). -/
def State.resetImage (s : State) (pin : Bool) (qual : Timer) (cause : ResetCause) (lost : Nat) : State :=
  { State.reset with
    start := { State.reset.start with resetPin := pin, resetQual := qual, cause := cause, placesLost := lost
                                      placesUnknown := cause == .power }
    line := { State.reset.line with pins := s.line.pins }
    out := s.out, freeIndex := s.freeIndex, pending := s.pending }

/-- While the device is held in reset, every block stands at its reset values (R6, R180). -/
def State.heldSound (s : State) : Prop :=
  s.start.phase = .held →
    s = s.resetImage s.start.resetPin s.start.resetQual s.start.cause s.start.placesLost

/-! ### Shared expressions -/

/-- The end of a reset (R174, R175): the straps are held; with an identifier that no lane has, ALERT_N goes low and the lane
stays silent; with a lane's, START is queued and the office-silence timer runs. -/
def State.startImage (s : State) (p : Straps) : State :=
  if p.lane = 0 ∨ p.lane = 31 then
    { s with start := { s.start with phase := .running, straps := some p, strapFault := true }
             outcome := { s.outcome with alertLow := true } }
  else
    { s with start := { s.start with phase := .running, straps := some p, strapFault := false }
             bus := { s.bus with txQueue := [⟨.start s.start.cause s.start.placesLost s.start.placesUnknown, false⟩]
                                 silence := .running 5000 } }

/-- What the owner of a frame finds when it takes the buffered frame `f`, `rest` being the buffers left: with it every
frame that arrived before it has been handed on, and the first hand-on of one addressed to this lane, other than a
RESET_REQ, ends a pending reset request (R170, R176). -/
def State.handedOn (s : State) (f : RxFrame) (rest : List RxFrame) : State :=
  { s with bus := { s.bus with rx := rest }
           start := if ∃ g ∈ handedUpTo f.kind s.bus.rx, g.dest = s.laneId ∧ g.kind ≠ .resetReq ∧ g.handed = false then
               { s.start with resetPending := false, resetReqTimer := .stopped }
             else s.start }

/-- The debounced level of a line is about to change to `up`: its timer runs, and the pin read through the polarity differs
from the debounced level (R1, R2). -/
def State.edge (s : State) (l : Line) (up : Bool) : Prop :=
  (s.line.timers.get l).isRunning = true ∧ s.presentLevel l = up ∧
    ∃ ls, s.line.debounced = some ls ∧ ls.get l = !up

/-- The debounced level of a line has changed to `up`, and its timer has stopped (R2). -/
def State.debouncedTo (s : State) (l : Line) (up : Bool) : State :=
  { s with line := { s.line with debounced := s.line.debounced.map (fun ls => ls.put l up)
                                 timers := s.line.timers.put l .stopped } }

/-- `t` is `s` but for what a change of the alert flags may touch: the flags with their marks, ALERT_N, status due, and the
Transmit Queue that a STATUS joins (R155 to R157). -/
def State.sameButAlerts (s t : State) : Prop :=
  t = { s with outcome := { s.outcome with flags := t.outcome.flags, alertLow := t.outcome.alertLow
                                           statusDue := t.outcome.statusDue }
               bus := { s.bus with txQueue := t.bus.txQueue } }

/-- A command brings the report `r` with toggle `toggle` on channel `ch`, and the report's form is sound (R46, R47). -/
def carriesReport (c : Instr) (ch : Channel) (toggle : Bool) (r : Report) : Prop :=
  match ch with
  | .plateReader => ∃ text confidence, c = .plateReport toggle text confidence ∧ plateForm text confidence = some r
  | .codeReader => ∃ pos text size, c = .codeReport toggle pos text size ∧ codeForm pos text size = some r
  | .sealReader => ∃ pos kind tag text, c = .sealReport toggle pos kind tag text ∧ sealForm pos kind tag text = some r

/-- A report with this toggle is new on its channel (R48). -/
def State.newOn (s : State) (ch : Channel) (toggle : Bool) : Prop :=
  (s.channel ch).synced = false ∨ toggle = (s.channel ch).expected

/-! ### Tables of the rules, as the statements read them -/

/-- A visit has been given a reason, active or overridden. -/
def Visit.given (v : Visit) (r : Reason) : Prop := r ∈ v.active ∨ r ∈ v.overridden

/-- The arrival class of a booked window at a point of gate time: the lines of R17's table. Of an offset of exactly one
window the table says LATE with a late grace of 0 as well, and R17's last line TOO_LATE; the table is followed (log 38). -/
def arrivalByTable (g : General) (booked : Window) (p : GatePoint) (c : ArrivalClass) : Prop :=
  ∀ len d : Int, len = g.windowMinutes * 60 → d = winDist booked p.window * len + (p.tenths / 10 : Nat) →
    (0 ≤ d → d < len → c = .onTime) ∧
    (d < 0 → -d ≤ g.graceEarly * 60 → c = .early) ∧ (d < 0 → g.graceEarly * 60 < -d → c = .tooEarly) ∧
    (len ≤ d → d - len ≤ g.graceLate * 60 → c = .late) ∧ (len ≤ d → g.graceLate * 60 < d - len → c = .tooLate)

/-- A report is refused: a seal for a list that holds three texts, none of them its own (R57). -/
def Visit.refusesReport (v : Visit) (r : Report) : Prop :=
  ∃ p e, r = .sealRead p e ∧ 3 ≤ (v.slot p).seals.length ∧ ∀ h ∈ (v.slot p).seals, h.text ≠ e.text

/-- The slot `d` that a code read makes of the slot `c`: the lines of R55, the size class going with the code (R56). A VALID code
read again leaves the size class as it was (log 45). -/
def codeByTable (text : Text) (size : Option Nat) (passes : Bool) (c d : ContainerSlot) : Prop :=
  (c.status = .none ∨ c.status = .checkFail →
    d = { c with code := some text, size := size, status := if passes then .valid else .checkFail }) ∧
  (c.status = .valid → passes = true → c.code ≠ some text → d = { c with status := .conflict }) ∧
  (c.status = .valid → passes = false ∨ c.code = some text → d = c) ∧ (c.status = .conflict → d = c)

/-- The seal entry that a report of the same text makes of the entry held: the lines of R102. -/
def sealByTable (held reported after : SealEntry) : Prop :=
  after.text = held.text ∧
  (reported.kind ≠ .electronic → after = held) ∧
  (held.kind ≠ .electronic → reported.kind = .electronic → after.kind = .electronic ∧ after.tag = reported.tag) ∧
  (held.kind = .electronic → reported.kind = .electronic →
    (held.tag = some .noReply → ∀ g, reported.tag = some g → after = { held with tag := some g }) ∧
    (held.tag = some .intact → reported.tag = some .opened → after = { held with tag := some .opened }) ∧
    (held.tag = some .intact → reported.tag ≠ some .opened → after = held) ∧ (held.tag = some .opened → after = held))

/-- The record `w` that a report attached to the visit makes of its record `v`: the plate by R53, a code by R55 and R56 in the slot of
its position, a seal by R57 and R102 in the list of its position; nothing else changes. -/
def Visit.reportWritten (v w : Visit) : Report → Prop
  | .plate text confidence =>
    (v.plate = none ∨ v.confidence < confidence → w = { v with plate := some text, confidence := confidence }) ∧
      (v.plate ≠ none → confidence ≤ v.confidence → w = v)
  | .code p text size passes =>
    w = v.updSlot p (fun _ => w.slot p) ∧ codeByTable text size passes (v.slot p) (w.slot p)
  | .sealRead p e =>
    w = v.updSlot p (fun c => { c with seals := (w.slot p).seals }) ∧
      ((∀ h ∈ (v.slot p).seals, h.text ≠ e.text) → (w.slot p).seals = (v.slot p).seals ++ [e]) ∧
      ((∃ h ∈ (v.slot p).seals, h.text = e.text) → (w.slot p).seals.length = (v.slot p).seals.length ∧
        ∀ (i : Nat) (h k : SealEntry), (v.slot p).seals[i]? = some h → (w.slot p).seals[i]? = some k →
          (h.text ≠ e.text → k = h) ∧ (h.text = e.text → sealByTable h e k))

/-- The code result of a lone inbound container: the lines of R56's merge of the REAR slot into the FRONT slot. A REAR CONFLICT
brings its code where FRONT has no VALID one (log 15). -/
def mergedByTable (front rear c : ContainerSlot) : Prop :=
  (rear.status = .none → c.status = front.status ∧ c.code = front.code) ∧
  (rear.status ≠ .none → front.status = .none ∨ front.status = .checkFail → c.status = rear.status ∧ c.code = rear.code) ∧
  (front.status = .valid → c.code = front.code ∧
    (rear.status = .valid → rear.code = front.code → c.status = .valid) ∧
    (rear.status = .valid → rear.code ≠ front.code → c.status = .conflict) ∧
    (rear.status = .checkFail → c.status = .valid) ∧ (rear.status = .conflict → c.status = .conflict)) ∧
  (front.status = .conflict → c.status = .conflict ∧ c.code = front.code)

/-- A record matches the visit by code: a drop move carries the code of a slot whose status is VALID (R71). -/
def Booking.hasCodeOf (b : Booking) (v : Visit) : Prop :=
  ∃ m ∈ b.moves, (m.kind = .dropFull ∨ m.kind = .dropEmpty) ∧ ∃ c, (c = v.front ∨ c = v.rear) ∧ c.status = .valid ∧
    m.code ≠ none ∧ c.code = m.code

/-- A record matches the visit by code, or by a plate at or above the plate threshold (R71). -/
def Booking.isMatchFor (b : Booking) (threshold : Nat) (v : Visit) : Prop :=
  b.hasCodeOf v ∨ (v.plate = some b.plate ∧ threshold ≤ v.confidence)

/-- The record `b` in place `i` ranks before the record `c` in place `j` at the window `wc`: a match by code before one by plate
alone, then the nearer booked window, then the earlier of two as near, then the lower-numbered place (R72). -/
def ranksBefore (v : Visit) (wc : Window) (b c : Booking) (i j : Nat) : Prop :=
  (b.hasCodeOf v ∧ ¬ c.hasCodeOf v) ∨
    ((b.hasCodeOf v ↔ c.hasCodeOf v) ∧ ∀ db dc : Int, db = winDist b.window wc → dc = winDist c.window wc →
      db.natAbs < dc.natAbs ∨ (db.natAbs = dc.natAbs ∧ (dc < db ∨ (dc = db ∧ i < j))))

/-- The record `b` is selected: a matching record in state OPEN that ranks before every other one (R71, R72). -/
def selectedByTable (threshold : Nat) (v : Visit) (wc : Window) (table : List (Option Booking)) (b : Booking) : Prop :=
  ∃ i : Nat, table[i]? = some (some b) ∧ b.state = .available ∧ b.isMatchFor threshold v ∧
    ∀ (j : Nat) (c : Booking), table[j]? = some (some c) → j ≠ i → c.state = .available → c.isMatchFor threshold v →
      ranksBefore v wc b c i j

/-- The reasons of a visit for which no record was selected, from the matching records (R74). -/
def missByTable (threshold : Nat) (v : Visit) (table : List (Option Booking)) : Reason → Prop
  | .duplicate => ∃ b, some b ∈ table ∧ b.isMatchFor threshold v ∧
      ((∃ k n, b.state = .here k n) ∨ ∃ l k, b.state = .elsewhere l k)
  | .bookingCancelled => ∃ b, some b ∈ table ∧ b.isMatchFor threshold v ∧ b.state = .cancelled
  | .bookingUnknown => ∀ b, some b ∈ table → b.isMatchFor threshold v → b.state = .available ∨ b.state = .used
  | _ => False

/-- The peaks of a container: each enabled zone in zone order with its peak, the larger departure of Dmax and Dmin from the zone's
expected distance in the profile, at most 255; none for a zone with no valid reading (R125, R126). -/
def peaksByTable (zs : List Zone) (profile : Option (List Nat)) (data : Option PassSummary)
    (peaks : List (Zone × Option Nat)) : Prop :=
  List.Forall₂ (fun (p : Zone × Nat) q => q.1 = p.1 ∧ ∀ n, q.2 = some n ↔
      ∃ es ds e d dmin dmax, profile = some es ∧ data = some ds ∧ es[p.2]? = some e ∧ ds[p.2]? = some d ∧
        d.dmin = some dmin ∧ d.dmax = some dmax ∧
        n = min 255 (max ((dmax : Int) - e).natAbs ((dmin : Int) - e).natAbs))
    (zs.zipIdx.filter (fun p => p.1.enabled)) peaks

/-- The dark runs after a pass, zone by zone: the lines of R121, a zone that is not enabled keeping its run. -/
def darkRunsByTable (zs : List Zone) (data : PassSummary) (before after : List Nat) : Prop :=
  after.length = before.length ∧
  ∀ (enabled : Nat → Prop) (gave : Nat → ZoneData), (∀ i, enabled i ↔ ∃ z, zs[i]? = some z ∧ z.enabled = true) →
    (∀ i, gave i = data.getD i ⟨none, none, 0, 0⟩) →
      ∀ i run next, before[i]? = some run → after[i]? = some next →
        (enabled i → 0 < (gave i).valid → next = 0) ∧
        (enabled i → (gave i).valid = 0 → 0 < (gave i).invalid →
          (∃ j, j ≠ i ∧ enabled j ∧ 0 < (gave j).valid + (gave j).invalid) → next = min 3 (run + 1)) ∧
        (enabled i → (gave i).valid = 0 → (gave i).invalid = 0 ∨
          (∀ j, j ≠ i → enabled j → (gave j).valid + (gave j).invalid = 0) → next = run) ∧
        (¬ enabled i → next = run)

/-- The closure outcome of a container: the first line of R107 that holds for its expected seals and its read set. -/
def closureByTable (expected : List Text) (set : List SealEntry) (o : ClosureOutcome) : Prop :=
  if ∃ e ∈ set, e.kind = .electronic ∧ e.tag = some .opened then o = .tampered
  else if expected ≠ [] ∧ set = [] then o = .missing
  else if ∃ x ∈ expected, ∀ e ∈ set, e.text ≠ x then o = .mismatch
  else if expected ≠ [] then o = .fits
  else if set = [] then o = .none
  else o = .unexpected

/-- The damage score of a container whose enabled zones have these peaks, none being an unsurveyed zone (R127). -/
def scoreByTable (peaks : List (Zone × Option Nat)) : Nat :=
  min 4095 ((peaks.map (fun p => match p.2 with
    | some k => (if p.1.tolerance < k then k - p.1.tolerance else 0) * p.1.weight
    | none => 0)).sum)

/-- The band of a container: the first line of R128 that holds for its peaks, U and the damage score. -/
def bandByTable (g : General) (peaks : List (Zone × Option Nat)) (u score : Nat) (b : Band) : Prop :=
  if ∃ p ∈ peaks, ∃ k, p.2 = some k ∧ g.hardLimit ≤ k then b = .major
  else if 4 ≤ u then b = .unknown
  else if g.bandMajor ≤ score then b = .major
  else if g.bandMinor ≤ score then b = .minor
  else b = .clean

/-- What the checks of an inbound container give the visit: by its code against the booked one (R75), by its closure
outcome `o` (R108) and by its band `b` (R129). -/
def checkGives (m : Move) (c : ContainerSlot) (set : List SealEntry) (o : ClosureOutcome) (b : Band) : Reason → Prop
  | .codeUnread => c.status = .none ∨ c.status = .checkFail
  | .codeMismatch => c.status = .conflict ∨ (c.status = .valid ∧ c.code ≠ m.code)
  | .sealTampered => o = .tampered
  | .sealMissing => o = .missing
  | .sealMismatch => o = .mismatch
  | .sealExtra => o = .fits ∧ ∃ e ∈ set, e.text ∉ m.seals
  | .sealUnexpected => o = .unexpected
  | .damageMajor => b = .major
  | .surveyUnknown => b = .unknown
  | .damageMinor => b = .minor
  | _ => False

/-- The stops of drop moves routed in turn against a Block Table, and the table after them: the first candidate in the
table, of kind STACK and below its cap, whose count rises; else the OVERFLOW block (R134, R135). -/
def routeByTable : List Move → List BlockEntry → List Text × List BlockEntry
  | [], bs => ([], bs)
  | m :: ms, bs =>
    match m.blocks.find? (fun x => bs.any (fun e => decide (e.ident = x ∧ e.kind = .stack ∧ e.count < e.cap))) with
    | some x =>
      let (stops, bs') := routeByTable ms
        (bs.map (fun e => if e.ident = x ∧ e.kind = .stack then { e with count := min 255 (e.count + 1) } else e))
      (x :: stops, bs')
    | none =>
      let (stops, bs') := routeByTable ms bs
      (((bs.find? (fun e => e.kind = .overflow)).map (·.ident)).toList ++ stops, bs')

/-- The Booking Table once this lane has ended the claim of visit `n` on the booking `ref`: the HERE record that the visit
holds takes the state `st`, or leaves where it then meets the expiry condition (R70, R79). -/
def State.claimEnded (s : State) (n : VisitNumber) (ref : Text) (st : BookingState) : List (Option Booking) :=
  s.booking.table.map (fun o => o.bind (fun b => match b.state with
    | .here _ h =>
      if b.ref = ref ∧ h = n then
        (match s.booking.window with
          | some w => if bookingExpired s.general w b.window then none else some { b with state := st }
          | none => some { b with state := st })
      else some b
    | _ => some b))

/-- RAISE has been withdrawn (R147): with BAR_UP up the barrier settles for 4 s; with it down the barrier is LOWERED, and
is raised afresh where the oldest visit is EXITING with its direction settled (R145). -/
def State.raiseWithdrawn (t : State) : Prop :=
  (t.level .barUp = true → t.line.raiseOut = false ∧ t.yard.barrier = .settling ∧ t.yard.settle = .running 4000) ∧
    (t.level .barUp = false →
      ((∀ v ∈ t.visits.laneQueue.head?, v.state ≠ .exiting ∨ v.settled = false) →
        t.line.raiseOut = false ∧ t.yard.barrier = .lowered) ∧
      ∀ v, t.visits.laneQueue.head? = some v → v.state = .exiting → v.settled = true →
        t.line.raiseOut = true ∧ t.yard.barrier = .raising ∧ t.yard.raiseVisit = some v.number ∧
          t.yard.upCheck = .running 4000)

/-- RAISE has been asserted for the visit `n` (R145): with BAR_UP down the barrier is RAISING and the 4 s up check runs; BAR_UP
found up is seen up at once, the barrier is RAISED and the exit check of the visit runs for 60 s (R42, R146). -/
def State.raisedFor (t : State) (n : VisitNumber) : Prop :=
  t.line.raiseOut = true ∧ t.yard.raiseVisit = some n ∧
    (t.level .barUp = false → t.yard.barrier = .raising ∧ t.yard.upCheck = .running 4000) ∧
    (t.level .barUp = true → t.yard.barrier = .raised ∧ t.yard.upCheck = .stopped ∧
      ∀ v ∈ t.visits.laneQueue, v.number = n → v.exitCheck = .running 60000)

/-- The end of the delivery of `m` has been acted on, from `s` to `t`, `note` being what the end writes into the record of its
visit: a final message settles the direction of its visit in the lane queue; the barrier is raised where it was LOWERED and the
oldest visit is then EXITING and settled, and is left as it was otherwise (R143, R145). Only an exit check that a raise starts
changes besides. -/
def State.directionEnded (s t : State) (m : Message) (note : Visit → Visit) : Prop :=
  t.visits = { s.visits with laneQueue := t.visits.laneQueue, parked := t.visits.parked } ∧
  t.visits.parked.map (fun v => { v with exitCheck := .stopped }) = s.visits.parked.map (fun v =>
    { (if m.visit = some v.number then note v else v) with exitCheck := .stopped }) ∧
  t.visits.laneQueue.map (fun v => { v with exitCheck := .stopped }) = s.visits.laneQueue.map (fun v =>
    if m.visit = some v.number then { note v with settled := v.settled || m.kind.isFinal, exitCheck := .stopped }
    else { v with exitCheck := .stopped }) ∧
  (∀ v, s.visits.laneQueue.head? = some v → s.yard.barrier = .lowered → v.state = .exiting →
    v.settled = true ∨ (m.kind.isFinal = true ∧ m.visit = some v.number) → t.raisedFor v.number) ∧
  (s.yard.barrier ≠ .lowered ∨ (∀ v ∈ s.visits.laneQueue.head?, v.state ≠ .exiting ∨
      (v.settled = false ∧ (m.kind.isFinal = false ∨ m.visit ≠ some v.number))) →
    t.line = s.line ∧ t.yard.barrier = s.yard.barrier ∧ t.yard.raiseVisit = s.yard.raiseVisit ∧
      t.yard.upCheck = s.yard.upCheck ∧ t.yard.settle = s.yard.settle ∧
      t.visits.laneQueue.map (·.exitCheck) = s.visits.laneQueue.map (·.exitCheck))

/-- The message `m` for the visit `n` has been placed from `s` to `t`, by what stands for the visit (R141): with nothing in the
Direction Queue and nothing held it joins the tail where there is room and no message is held, and is held otherwise (R142); with a
message of it at the head it is held; one elsewhere in the queue, and one held, it replaces. -/
def State.messagePlaced (s t : State) (n : VisitNumber) (m : Message) : Prop :=
  ((∀ x ∈ s.yard.queue ++ s.yard.held, x.visit ≠ some n) →
    (s.yard.queue.length < 4 → s.yard.held = [] → t.yard.queue = s.yard.queue ++ [m] ∧ t.yard.held = []) ∧
    (4 ≤ s.yard.queue.length ∨ s.yard.held ≠ [] →
      t.yard.queue = s.yard.queue ∧ t.yard.held = s.yard.held ++ [m])) ∧
  (∀ h q, s.yard.queue = h :: q → h.visit = some n → (∀ x ∈ s.yard.held, x.visit ≠ some n) →
    t.yard.queue = s.yard.queue ∧ t.yard.held = s.yard.held ++ [m]) ∧
  (∀ before x after, s.yard.queue = before ++ x :: after → before ≠ [] → x.visit = some n →
    (∀ y ∈ before, y.visit ≠ some n) → t.yard.queue = before ++ m :: after ∧ t.yard.held = s.yard.held) ∧
  ∀ before x after, s.yard.held = before ++ x :: after → x.visit = some n → (∀ y ∈ before, y.visit ≠ some n) →
    (∀ y ∈ s.yard.queue.tail, y.visit ≠ some n) → t.yard.queue = s.yard.queue ∧ t.yard.held = before ++ m :: after

/-- The clerk's frame has closed a parked visit, from `s` to `t`, and its parked place has freed: with no deferred timeout in the lane
queue the visits of the lane, the Direction Queue, what is held and the display channel stay as they were; else the oldest visit with
a deferred timeout is given PARK, to the BUFFER block, and the other visits stay as they were (R36, R38, R40). -/
def State.parkedPlaceFreed (s t : State) : Prop :=
  (s.oldest? (fun v => v.isClerkHold && v.timeoutRun) = none →
    t.visits.laneQueue = s.visits.laneQueue ∧ t.yard.queue = s.yard.queue ∧ t.yard.held = s.yard.held ∧
      t.reader = s.reader ∧ t.out = s.out) ∧
  ∀ v, s.oldest? (fun v => v.isClerkHold && v.timeoutRun) = some v → s.visit? v.number = some v → s.parkedInUse ≤ 4 →
    (∃ w, t.visit? v.number = some w ∧
      w = { v with state := .exiting, verdict := .park, verdictStamp := some ⟨s.clock.window, s.clock.tenths⟩
                   timeoutRun := false
                   stops := ((s.yard.blocks.find? (fun e => e.kind == .buffer)).map (·.ident)).toList } ∧
      s.messagePlaced t v.number ⟨.buffer, some v.number, w.stops⟩) ∧
    ∀ x ∈ s.visits.laneQueue, x.number ≠ v.number → x ∈ t.visits.laneQueue

/-- The clerk's RELEASE has written the record `w` over the record `v` of its visit, from `s` to `t`: the hold reasons overridden and
the clerk-override flag set, the verdict of admission with its stamp, the unit of an EARLY or LATE visit taken from the spare or forced
(R87), and the stops, with the block counts and BLOCK_NOTEs of the drop moves (R37, R38, R134 to R138). -/
def State.releaseWritten (s t : State) (v w : Visit) : Prop :=
  w = { v with state := w.state, verdict := if v.needsInspection then .admitInspect else .admitted
               verdictStamp := some ⟨s.clock.window, s.clock.tenths⟩, timeoutRun := false, clerkOverride := true
               active := v.active.filter (fun r => !r.isHold), overridden := w.overridden, flex := w.flex
               stops := w.stops } ∧
  (∀ r, r ∈ w.overridden ↔ r ∈ v.overridden ∨ (r ∈ v.active ∧ r.isHold = true)) ∧
  (v.needsFlex = false → w.flex = v.flex ∧ t.capacity = s.capacity) ∧
  (v.needsFlex = true →
    (∀ q, s.capacity.quota = some q → q.lent + q.used < q.share + q.borrowed →
      w.flex = .own ∧ t.capacity = { s.capacity with quota := some { q with used := q.used + 1 } }) ∧
    ((∀ q, s.capacity.quota = some q → q.share + q.borrowed ≤ q.lent + q.used) →
      w.flex = .forced ∧ t.capacity = s.capacity)) ∧
  (v.needsInspection = false →
    w.stops = (routeByTable (v.moves.filter Move.isDrop) s.yard.blocks).1
        ++ (v.moves.filter (fun m => !m.isDrop)).flatMap (·.blocks) ∧
      t.yard.blocks = (routeByTable (v.moves.filter Move.isDrop) s.yard.blocks).2 ∧
      ∀ win, s.yard.window = some win → s.bus.txQueue.length + (v.moves.filter Move.isDrop).length ≤ 8 →
        ∀ x ∈ (routeByTable (v.moves.filter Move.isDrop) s.yard.blocks).1,
          ∃ e ∈ t.bus.txQueue, e.frame = .blockNote x win) ∧
  (v.needsInspection = true →
    w.stops = ((s.yard.blocks.find? (fun e => e.kind == .inspection)).map (·.ident)).toList
        ++ (v.moves.filter (fun m => !m.isDrop)).flatMap (·.blocks) ∧ t.yard.blocks = s.yard.blocks)

/-- A frame waits in the Transmit Queue or in an outbox. -/
def State.holdsFrame (s : State) (f : TxFrame) : Prop :=
  (∃ e ∈ s.bus.txQueue, e.frame = f) ∨ ∃ e ∈ s.bus.outboxes, e.frame = f

/-- The waiting visits `ns` have been taken in order against the entry `q`, with no Ask open, from `s` to `t`: as many as the
spare of `q` serves take a unit with the flex source `src` and are admitted; for the oldest of the others an Ask is opened where
a loan can be asked, and where none can each is given NO_CAPACITY and a clerk hold (R86, R89, R90, R93, R99). -/
def State.waitersTaken (s t : State) (ns : List VisitNumber) (src : FlexSource) (q : Quota) : Prop :=
  ∀ k, k = min ns.length (q.share + q.borrowed - q.lent - q.used) →
    t.capacity.quota = some { q with used := q.used + k } ∧
    (∀ n ∈ ns.take k, ∀ v, s.visit? n = some v → ∃ w, t.visit? n = some w ∧ w.state = .exiting ∧ w.flex = src ∧
      w.verdict = (if v.needsInspection then .admitInspect else .admitted)) ∧
    ((s.bus.degraded = false ∨ s.capacity.peerTimer.isRunning = true) → q.borrowed < 15 →
      t.capacity.waitList = ns.drop k ∧ (∀ n ∈ ns.drop k, t.visit? n = s.visit? n) ∧
      (ns.length = k → t.capacity.ask = none ∧ t.capacity.askCounter = s.capacity.askCounter) ∧
      (k < ns.length →
        t.capacity.ask = some ⟨s.capacity.askCounter, q.window, .asking, .running 1500⟩ ∧
          t.capacity.askCounter = s.capacity.askCounter + 1 ∧
          (s.outbox? .capacityUnit = none → t.holdsFrame (.loanAsk q.window s.capacity.askCounter)))) ∧
    ((s.bus.degraded = true ∧ s.capacity.peerTimer.isRunning = false) ∨ 15 ≤ q.borrowed →
      t.capacity.waitList = [] ∧ t.capacity.ask = none ∧ t.capacity.askCounter = s.capacity.askCounter ∧
      ∀ n ∈ ns.drop k, ∀ v, s.visit? n = some v → ∃ w, t.visit? n = some w ∧ w.state = .hold ∧ w.verdict = .hold ∧
        w.given .noCapacity ∧ w.holdStart = some ⟨t.clock.window, t.clock.tenths⟩)

/-- The outcome record `r` is that of the visit `v` closed in the state `s`, field by field (R153). -/
def State.recordOf (s : State) (v : Visit) (r : OutcomeRecord) : Prop :=
  r.lane = s.laneId ∧ r.number = v.number ∧ r.ref = v.ref ∧ r.plate = v.plate ∧ r.confidence = v.confidence ∧
    r.arrival = v.arrival ∧ r.verdict = v.verdict ∧ r.clerkOverride = v.clerkOverride ∧ r.active = v.active ∧
    r.overridden = v.overridden ∧ r.outcomeNotes = v.outcomeNotes ∧ r.flex = v.flex ∧ r.stops = v.stops ∧
    r.arrivalStamp = v.arrivalStamp ∧ r.verdictStamp = v.verdictStamp ∧
    r.closeStamp = some ⟨s.clock.window, s.clock.tenths⟩ ∧
    ∀ (c : ContainerSlot) (o : SlotOutcome), (c = v.front ∧ o = r.front) ∨ (c = v.rear ∧ o = r.rear) →
      o.code = c.code ∧ o.status = c.status ∧ o.size = c.size ∧ o.closure = c.closure.getD .notChecked ∧
        o.band = c.band ∧ o.score = c.score ∧ o.unsurveyed = c.unsurveyed

end Sys2Proof.Machine
end

