-- ==== Sys2Proof/Certificates/Slice0/Obligations.lean ====
section
/-! DEFINITION. The statements for the provers. A statement about a frame command speaks of `u`, the state its owner finds
when the frame has been handed on; one about a debounced event of `u`, the state with the new debounced level. Equations give the
whole next state, and so what stays as it was. -/

section Slice0Obligations

open Sys2Proof Sys2Proof.Machine

/-! ### The machine as a whole -/

/-- A step takes the command at the front of the queue and runs it on the state with the queue's rest (00, 95). -/
def Obligations.StepRunsFrontCommand : Prop :=
  ∀ (s : State) (c : Instr) (rest : List Instr), s.pending = c :: rest → step s = exec c { s with pending := rest }

/-- Every command completes in every state; none touches the queue of commands; the log of outputs only grows (logs 2, 25). The
model's choice (logs 1, 27): on an empty queue the device idles; no word spells a command, so a fetched word changes nothing. -/
def Obligations.EveryStepCompletes : Prop :=
  (∀ (c : Instr) (s : State), ∃ t, exec c s = .next t ∧ t.pending = s.pending ∧ ∃ new, t.out = new ++ s.out) ∧
    (∀ s : State, s.pending = [] → step s = .next s) ∧
    ∀ (s : State) (nbits w : Nat), decodeTableWord nbits w = none ∧ s.withFetchWord nbits w = s

/-- The state after reset has every invariant. -/
def Obligations.ResetIsSound : Prop :=
  State.reset.placesSound ∧ State.reset.countersSound ∧ State.reset.quotaSound ∧ State.reset.busSound ∧
    State.reset.alertSound ∧ State.reset.laneSound ∧ State.reset.displaySound ∧ State.reset.bookingsSound ∧
    State.reset.configSound ∧ State.reset.clockSound ∧ State.reset.heldSound

/-- Every step keeps the places of the Outcome Queue at sixteen and each counter at most 255 (R151, R159). -/
def Obligations.PlacesAndCountersStayInBounds : Prop :=
  (∀ s t : State, s.placesSound → step s = .next t → t.placesSound) ∧
    ∀ s t : State, s.countersSound → step s = .next t → t.countersSound

/-- Every step keeps the account of the window: no unit is used or lent that the lane does not have (R84, R91, R95). -/
def Obligations.QuotaStaysCovered : Prop :=
  ∀ s t : State, s.quotaSound → step s = .next t → t.quotaSound

/-- Every step keeps the bounds of the Transmit Queue, the outboxes and the receive buffers (R166, R167, R170). -/
def Obligations.BusUnitStaysInBounds : Prop :=
  ∀ s t : State, s.busSound → step s = .next t → t.busSound

/-- After every step ALERT_N is low exactly while an unmasked flag is set or the lane has a strap fault (R5, R156). -/
def Obligations.AlertLineFollowsFlags : Prop :=
  ∀ s t : State, s.alertSound → step s = .next t → t.alertSound

/-- Every step keeps the lane queue and the pending arrivals in their bounds and in agreement with the lane mode: a visit stands in
the lane in DRAINING, and none in STARTING or CLOSED (R7, R9, R20, R22). -/
def Obligations.LaneQueueAgreesWithMode : Prop :=
  ∀ s t : State, s.laneSound → step s = .next t → t.laneSound

/-- Every step keeps the Direction Queue and the display channel in agreement (R58, R59, R140; that the busy count of an idle channel
is 0 is log 40). -/
def Obligations.DisplayAgreesWithQueue : Prop :=
  ∀ s t : State, s.displaySound → step s = .next t → t.displaySound

/-- Every step keeps the 64 places of the Booking Table and the uniqueness of references (R62). -/
def Obligations.BookingReferencesStayUnique : Prop :=
  ∀ s t : State, s.bookingsSound → step s = .next t → t.bookingsSound

/-- Every step keeps the parts held and the configuration fixed within their limits, and the Gate Clock inside its window and its
share classes in range (R11, R177 to R179). -/
def Obligations.ConfigurationAndClockStayInRange : Prop :=
  (∀ s t : State, s.configSound → step s = .next t → t.configSound) ∧
    ∀ s t : State, s.configSound → s.clockSound → step s = .next t → t.clockSound

/-- Held in reset, the device stays at its reset values, whatever is commanded, until the reset ends (R6, R180). -/
def Obligations.HeldDeviceStaysAtReset : Prop :=
  ∀ s t : State, s.heldSound → step s = .next t → t.heldSound

/-- Only a reset takes a fixed configuration away or changes it, and only a reset, the passing of time and a TIME frame move
the Gate Clock (R11, R179). -/
def Obligations.ClockAndConfigurationMoveOnlyBy : Prop :=
  ∀ (c : Instr) (s t : State), exec c s = .next t →
    (∀ high p, c ≠ .powerOn high p) → c ≠ .lineReset → (∀ p, c ≠ .resetReqFrame p) →
      (∀ cfg, s.start.config = some cfg → t.start.config = some cfg) ∧
        (c ≠ .tenthsRise → c ≠ .windowRoll → c ≠ .timeFrame → t.clock = s.clock)

/-- A valid clock that stays valid never moves to an earlier window (R11). -/
def Obligations.WindowNeverMovesBack : Prop :=
  ∀ (c : Instr) (s t : State), exec c s = .next t → s.clock.valid = true → t.clock.valid = true →
    0 ≤ winDist s.clock.window t.clock.window

/-! ### What several blocks share -/

/-- A latched flag is set and its condition stands; a flag that was clear drives ALERT_N and sends a STATUS, or sets status
due where one waits, or drops it where there is no place (R155 to R157). -/
def Obligations.LatchedFlagIsReported : Prop :=
  ∀ (f : AlertFlag) (s : State),
    s.sameButAlerts (s.latch f) ∧ (s.latch f).outcome.flags = s.outcome.flags.put f ⟨true, true⟩ ∧
      ((s.flag f).isSet = true →
        (s.latch f).outcome.alertLow = s.outcome.alertLow ∧ (s.latch f).outcome.statusDue = s.outcome.statusDue ∧
          (s.latch f).bus.txQueue = s.bus.txQueue) ∧
      ((s.flag f).isSet = false →
        (s.latch f).outcome.alertLow = (s.latch f).alertDue ∧
          (s.statusWaiting = true →
            (s.latch f).bus.txQueue = s.bus.txQueue ∧ (s.latch f).outcome.statusDue = true) ∧
          (s.statusWaiting = false → 8 ≤ s.bus.txQueue.length →
            (s.latch f).bus.txQueue = s.bus.txQueue ∧ (s.latch f).outcome.statusDue = false) ∧
          (s.statusWaiting = false → s.bus.txQueue.length < 8 →
            (s.latch f).bus.txQueue
                = insertFrame ⟨.status (s.latch f).flagWord s.visits.mode, false⟩ s.bus.txQueue ∧
              (s.latch f).outcome.statusDue = s.outcome.statusDue))

/-- A count raises its own counter by one up to 255 and no other; CRC_ERRORS rising to 32, and nothing else, latches BUS
(R159). -/
def Obligations.CounterRisesAndSaturates : Prop :=
  ∀ (k : Counter) (s : State),
    (s.count k).outcome.counters.get k = min 255 (s.outcome.counters.get k + 1) ∧
      (∀ j, j ≠ k → (s.count k).outcome.counters.get j = s.outcome.counters.get j) ∧
      (k = .crcErrors → s.outcome.counters.get k = 31 → (s.count k).flag .bus = ⟨true, true⟩) ∧
      (k ≠ .crcErrors ∨ s.outcome.counters.get k ≠ 31 →
        s.count k = { s with outcome := { s.outcome with counters := (s.count k).outcome.counters } })

/-- A frame enters the Transmit Queue behind every frame of its own or a lower class and ahead of every frame of a higher
class; a class-0 frame on a full queue displaces the youngest class-2 frame not in transmission, else waits in its block's empty
outbox, else is lost. A class-1 or class-2 frame on a full queue is not admitted: a BLOCK_NOTE is dropped and TX_DROPS counts one, a
START is dropped, and a STATUS ends its due mark, a COUNTERS is added back and an OUTCOME is not offered; so does a displaced one, its
owner being told (R138, R154, R157, R160, R166, R167). The model's choice: the class-0 frame displaces whether or not the other block's
outbox holds a frame (log 19). -/
def Obligations.TransmitQueueKeepsOrder : Prop :=
  (∀ (e : TxEntry) (q : List TxEntry), q.Pairwise (fun a b => a.frame.cls ≤ b.frame.cls) →
    ∃ before after, q = before ++ after ∧ insertFrame e q = before ++ e :: after ∧
      (∀ x ∈ before, x.frame.cls ≤ e.frame.cls) ∧ ∀ x ∈ after, e.frame.cls < x.frame.cls) ∧
  (∀ (o : OutboxOwner) (f : TxFrame) (s : State), s.bus.txQueue.length < 8 →
    s.handClass0 o f = { s with bus := { s.bus with txQueue := insertFrame ⟨f, false⟩ s.bus.txQueue } }) ∧
  (∀ (o : OutboxOwner) (f : TxFrame) (s : State) (before after : List TxEntry) (e : TxEntry),
    8 ≤ s.bus.txQueue.length → s.bus.txQueue = before ++ e :: after → e.frame.cls = 2 → e.sending = false →
      (∀ x ∈ after, x.frame.cls = 2 → x.sending = true) → s.outbox? o = none →
        s.handClass0 o f =
          ({ s with bus := { s.bus with txQueue := insertFrame ⟨f, false⟩ (before ++ after) } } : State).displaced
            e.frame) ∧
  (∀ (o : OutboxOwner) (f : TxFrame) (s : State), 8 ≤ s.bus.txQueue.length →
    (∀ x ∈ s.bus.txQueue, x.frame.cls = 2 → x.sending = true) →
      (s.outbox? o = none →
        s.handClass0 o f = { s with bus := { s.bus with outboxes := s.bus.outboxes ++ [⟨o, f⟩] } }) ∧
      ((s.outbox? o).isSome = true → s.handClass0 o f = s)) ∧
  (∀ (s : State) (b : Text) (w : Window) (c : Counters),
    (s.bus.txQueue.length < 8 →
      s.handNote b w = { s with bus := { s.bus with txQueue := insertFrame ⟨.blockNote b w, false⟩ s.bus.txQueue } } ∧
      s.handCounters c = { s with bus := { s.bus with txQueue := insertFrame ⟨.counters c, false⟩ s.bus.txQueue } } ∧
      s.handStatus = { s with bus := { s.bus with
        txQueue := insertFrame ⟨.status s.flagWord s.visits.mode, false⟩ s.bus.txQueue } }) ∧
    (8 ≤ s.bus.txQueue.length →
      s.handNote b w = { s with outcome := { s.outcome with counters := { s.outcome.counters with
        txDrops := min 255 (s.outcome.counters.txDrops + 1) } } } ∧
      s.announceStart.bus.txQueue = s.bus.txQueue ∧ s.handCounters c = s.displaced (.counters c) ∧
      s.handStatus = s.displaced (.status s.flagWord s.visits.mode) ∧ s.offerOutcome = s)) ∧
  ∀ (s : State) (r : OutcomeRecord) (flags : BitVec 16) (m : LaneMode) (c : Counters),
    s.displaced (.outcome r) = { s with outcome := { s.outcome with offered := false } } ∧
    s.displaced (.status flags m) = { s with outcome := { s.outcome with statusDue := false } } ∧
    ∀ k, (s.displaced (.counters c)).outcome.counters.get k = min 255 (s.outcome.counters.get k + c.get k)

/-- An owner takes its buffered frames, and those of one kind, in the order they arrived, and exactly one buffer empties; with the
frame taken, every frame that arrived before it has been handed on (R170). The model's choice (log 7): an owner may take its frame
before an older one of another owner, but for a RESET_REQ, which Start Control takes before any frame that arrived after it. -/
def Obligations.FramesOfOneOwnerInOrder : Prop :=
  ∀ (k : FrameKind) (rx rest : List RxFrame) (f : RxFrame), takeFirst k rx = some (f, rest) ↔
    ∃ before after, rx = before ++ f :: after ∧ f.kind = k ∧ (∀ g ∈ before, g.kind ≠ k ∧ g.kind.owner ≠ k.owner ∧ g.kind ≠ .resetReq) ∧
      rest = before.map (fun g => { g with handed := true }) ++ after ∧ handedUpTo k rx = before ++ [f]

/-! ### Start Control and the configuration -/

/-- POWER_ON holds the device in reset with the cause POWER, and with RESET_N high ends the reset at once (R6, R174, R175, R180;
the pins and the output log stay: logs 25, 35). -/
def Obligations.PowerOnResetsTheDevice : Prop :=
  ∀ (s : State) (p : Straps),
    exec (.powerOn false p) s = .next (s.resetImage false .stopped .power 0) ∧
      exec (.powerOn true p) s = .next ((s.resetImage true .stopped .power 0).startImage p)

/-- RESET_N going low starts its 10 ms, and does nothing where it is low; at 10 ms LINE_RESET holds the device in reset with the
cause LINE and the count of RESERVED and FILLED places (R6, R175); a LINE_RESET that is not due does nothing (log 2). -/
def Obligations.LowResetLineHoldsTheDevice : Prop :=
  ∀ s : State,
    (s.start.resetPin = true → exec .resetNFall s =
      .next { s with start := { s.start with resetPin := false, resetQual := .running 10 } }) ∧
    (s.start.resetPin = false → exec .resetNFall s = .next s) ∧
    (s.start.resetPin = false → s.start.resetQual.isRunning = true → exec .lineReset s =
      .next (s.resetImage false .stopped .line (s.outcome.reserved.length + s.outcome.filled.length))) ∧
    (s.start.resetPin = true ∨ s.start.resetQual.isRunning = false → exec .lineReset s = .next s)

/-- RESET_N going high ends a held reset: the straps are sampled and START is queued, or the lane is silent with a strap fault; a
low level shorter than 10 ms has had no effect (R6, R174, R175). -/
def Obligations.ResetReleaseStartsTheLane : Prop :=
  ∀ (s : State) (p : Straps), s.start.resetPin = false →
    (s.start.phase = .held → s.heldSound → exec (.resetNRelease p) s =
      .next ((s.resetImage true .stopped s.start.cause s.start.placesLost).startImage p)) ∧
    (s.start.phase = .running → exec (.resetNRelease p) s =
      .next { s with start := { s.start with resetPin := true, resetQual := .stopped } })

/-- RESET_REQ: broadcast it is counted as ignored; the first addressed one is marked pending for 2 s, the second is a requested
reset that counts the places; the 2 s running out clears the mark (R174, R175, R176). The model's choice: a requested reset leaves
RESET_N's level and its running 10 ms qualification as they were (log 35); the running out of a stopped timer does nothing (log 2); a
frame is handed on with every frame that arrived before it, so that one of those clears the mark first, and before every frame that
arrived after it (log 7). -/
def Obligations.ResetRequestTakesTwoFrames : Prop :=
  (∀ (s : State) (p : Straps) (f : RxFrame) (rest : List RxFrame), takeFirst .resetReq s.bus.rx = some (f, rest) →
    (f.dest = 0 → exec (.resetReqFrame p) s = .next ((s.handedOn f rest).count .framesIgnored)) ∧
    (f.dest ≠ 0 → s.start.resetPending = false ∨
        (∃ g ∈ s.bus.rx.takeWhile (fun x => x.kind != .resetReq), g.dest = s.laneId ∧ g.handed = false) →
      exec (.resetReqFrame p) s = .next { s with
        bus := { s.bus with rx := rest }, start := { s.start with resetPending := true, resetReqTimer := .running 2000 } }) ∧
    (f.dest ≠ 0 → s.start.resetPending = true →
        (∀ g ∈ s.bus.rx.takeWhile (fun x => x.kind != .resetReq), g.dest ≠ s.laneId ∨ g.handed = true) →
      exec (.resetReqFrame p) s =
      .next ((s.resetImage s.start.resetPin s.start.resetQual .request
        (s.outcome.reserved.length + s.outcome.filled.length)).startImage p))) ∧
  (∀ s : State, s.start.resetReqTimer.isRunning = true → exec .resetReqTimerExpiry s =
    .next { s with start := { s.start with resetPending := false, resetReqTimer := .stopped } }) ∧
  ∀ s : State, s.start.resetReqTimer.isRunning = false → exec .resetReqTimerExpiry s = .next s

/-- CONFIG before the fixing: a part of sound form becomes the held copy, another is counted as ignored; with the fifth part the
configuration is fixed: the debounced levels are the pins read through the polarities, without events, the Block Table goes to the
yard, BAR_UP found up puts the barrier into SETTLING, ALERT_N takes the mask. Fixed, a CONFIG is counted as ignored (R1, R3, R144,
R156, R177, R179). -/
def Obligations.ConfigPartsAreHeldThenFixed : Prop :=
  ∀ (s : State) (f : RxFrame) (rest : List RxFrame), takeFirst .config s.bus.rx = some (f, rest) →
    (s.start.config.isSome = true ∨ configForm f.payload = none →
      exec .configFrame s = .next ((s.handedOn f rest).count .framesIgnored)) ∧
    ∀ part, s.start.config = none → configForm f.payload = some part →
      ((s.start.assembly.hold part).general = none ∨ (s.start.assembly.hold part).zones = none ∨
          (s.start.assembly.hold part).profilesA = none ∨ (s.start.assembly.hold part).profilesB = none ∨
          (s.start.assembly.hold part).blocks = none →
        exec .configFrame s = .next { s.handedOn f rest with
          start := { (s.handedOn f rest).start with assembly := s.start.assembly.hold part } }) ∧
      ∀ g zs pa pb bs, s.start.assembly.hold part = ⟨some g, some zs, some pa, some pb, some bs⟩ →
        s.clock.valid = false →
          ∃ t levels, exec .configFrame s = .next t ∧
            (∀ l, levels.get l = if g.polarity.get l = .activeHigh then s.line.pins.get l else !s.line.pins.get l) ∧
            t = { s.handedOn f rest with
              start := { (s.handedOn f rest).start with assembly := s.start.assembly.hold part
                                                        config := some ⟨g, zs, pa ++ pb⟩ }
              line := { s.line with debounced := some levels }
              yard := if levels.barUp then { s.yard with blocks := bs, barrier := .settling, settle := .running 4000 }
                else { s.yard with blocks := bs }
              outcome := { s.outcome with alertLow := s.start.strapFault || (s.flagWord &&& ~~~g.alertMask) != 0 } }

/-! ### The input lines -/

/-- LINE_LEVEL_CHANGE: until the configuration is fixed only the pin changes; after it, a present level that differs from the
debounced one starts the debounce timer, a return stops it, and with a debounce time of 0 the event comes at once, as DEBOUNCE_EXPIRY
would give it (R1, R2; log 28). DEBOUNCE_EXPIRY with nothing left to report gives no event. The model's choice: the running out of a
stopped debounce timer, or one before there are debounced levels, does nothing (log 2). -/
def Obligations.LineChangeRunsTheDebounce : Prop :=
  (∀ (s : State) (l : Line) (high : Bool), s.line.pins.get l = high → exec (.lineLevelChange l high) s = .next s) ∧
  (∀ (s : State) (l : Line) (high : Bool), s.line.pins.get l ≠ high →
    ∀ u : State, u = { s with line := { s.line with pins := s.line.pins.put l high } } →
      (s.line.debounced = none → exec (.lineLevelChange l high) s = .next u) ∧
      ∀ ls, s.line.debounced = some ls →
        (u.presentLevel l = ls.get l → exec (.lineLevelChange l high) s =
          .next { u with line := { u.line with timers := u.line.timers.put l .stopped } }) ∧
        (u.presentLevel l ≠ ls.get l → s.general.debounceMs ≠ 0 → exec (.lineLevelChange l high) s =
          .next { u with line := { u.line with timers := u.line.timers.put l (.running s.general.debounceMs) } }) ∧
        (u.presentLevel l ≠ ls.get l → s.general.debounceMs = 0 → exec (.lineLevelChange l high) s =
          exec (.debounceExpiry l) { u with line := { u.line with timers := u.line.timers.put l (.running 0) } })) ∧
  ∀ (s : State) (l : Line),
    (s.line.debounced = none ∨ (s.line.timers.get l).isRunning = false → exec (.debounceExpiry l) s = .next s) ∧
    ∀ ls, s.line.debounced = some ls → (s.line.timers.get l).isRunning = true → s.presentLevel l = ls.get l →
      exec (.debounceExpiry l) s = .next { s with line := { s.line with timers := s.line.timers.put l .stopped } }

/-- LOOP_A occupied: an OPEN lane with room opens a visit in APPROACH at the tail; with a full lane queue an arrival pends, a fourth
pending one is lost and latches LANE_OVERFLOW; a CLOSED or DRAINING lane counts the arrival and shows LANE_CLOSED where the
Direction Queue has a place; in STARTING nothing happens (R10, R19, R22). LOOP_A vacated has no effect (R3, R22). -/
def Obligations.LoopAOccupiedIsAnArrival : Prop :=
  (∀ s u : State, s.edge .loopA false → u = s.debouncedTo .loopA false → exec (.debounceExpiry .loopA) s = .next u) ∧
  ∀ s u : State, s.edge .loopA true → u = s.debouncedTo .loopA true →
    (s.visits.mode = .starting → exec (.debounceExpiry .loopA) s = .next u) ∧
    (s.visits.mode = .laneOpen → s.visits.laneQueue.length < 4 → exec (.debounceExpiry .loopA) s =
      .next { u with visits := { u.visits with
        laneQueue := u.visits.laneQueue ++ [Visit.fresh s.visits.nextNumber .approach ⟨s.clock.window, s.clock.tenths⟩]
        nextNumber := s.visits.nextNumber + 1 } }) ∧
    (s.visits.mode = .laneOpen → 4 ≤ s.visits.laneQueue.length → s.visits.pendingArrivals < 3 →
      ∃ t, exec (.debounceExpiry .loopA) s = .next t ∧
        t = { u with visits := { u.visits with pendingArrivals := s.visits.pendingArrivals + 1 }
                     outcome := { u.outcome with flags := t.outcome.flags } } ∧
        (∀ f, (t.flag f).isSet = (s.flag f).isSet) ∧ ∀ f, f ≠ .laneOverflow → t.flag f = s.flag f) ∧
    (s.visits.mode = .laneOpen → 4 ≤ s.visits.laneQueue.length → 3 ≤ s.visits.pendingArrivals →
      ∃ t, exec (.debounceExpiry .loopA) s = .next t ∧ t = { u with outcome := t.outcome, bus := t.bus } ∧
        t.outcome.counters.arrivalsLost = min 255 (s.outcome.counters.arrivalsLost + 1) ∧
        t.flag .laneOverflow = ⟨true, true⟩) ∧
    (s.visits.mode = .laneClosed ∨ s.visits.mode = .draining →
      ∃ t, exec (.debounceExpiry .loopA) s = .next t ∧
        t = { u with outcome := { u.outcome with counters := t.outcome.counters }
                     yard := { u.yard with queue := t.yard.queue }, reader := t.reader, out := t.out } ∧
        t.outcome.counters.closedArrivals = min 255 (s.outcome.counters.closedArrivals + 1) ∧
        t.yard.queue = (if s.yard.queue.length < 4 then s.yard.queue ++ [⟨.laneClosed, none, []⟩] else s.yard.queue))

/-- LOOP_P occupied. A visit still in the portal closes its portal stage first, gains PORTAL_OVERRUN and becomes TO_STOP (`x` is the
lane after that; what the portal stage leaves behind, LoopPVacatedClosesThePortal says). Then the oldest APPROACH visit comes to the
portal, and the held reports are written into its record in channel order, each buffer emptying. With no APPROACH visit an OPEN lane
with room opens a visit at the portal with the note APPROACH_UNSEEN; with a full lane queue, and in CLOSED or DRAINING with an arrival
pending, the truck is lost: ARRIVALS_LOST counts one, LANE_OVERFLOW latches and the pending count falls; in CLOSED or DRAINING with
none pending nothing more happens. In STARTING nothing happens (R10, R24, R51). -/
def Obligations.LoopPOccupiedFillsThePortal : Prop :=
  ∀ s u : State, s.edge .loopP true → u = s.debouncedTo .loopP true →
    (s.visits.mode = .starting → exec (.debounceExpiry .loopP) s = .next u) ∧
    (s.visits.mode ≠ .starting → s.portal? = none → (∀ ch, (s.channel ch).buffer = none) →
      (∀ v, s.oldest? (fun v => v.state == .approach) = some v → exec (.debounceExpiry .loopP) s =
        .next (u.updVisit v.number (fun w => { w with state := .atPortal }))) ∧
      (s.oldest? (fun v => v.state == .approach) = none → s.visits.mode = .laneOpen → s.visits.laneQueue.length < 4 →
        exec (.debounceExpiry .loopP) s = .next { u with visits := { u.visits with
          laneQueue := u.visits.laneQueue ++
            [{ Visit.fresh s.visits.nextNumber .atPortal ⟨s.clock.window, s.clock.tenths⟩ with
                active := [.approachUnseen] }]
          nextNumber := s.visits.nextNumber + 1 } })) ∧
    (s.visits.mode ≠ .starting → s.portal? = none → ∀ v, s.oldest? (fun v => v.state == .approach) = some v →
      ∃ t, exec (.debounceExpiry .loopP) s = .next t ∧ t = { u with visits := t.visits, reader := t.reader } ∧
        t.visits = (u.updVisit v.number (fun w =>
          ([.plateReader, .codeReader, .sealReader].filterMap (fun ch => (s.channel ch).buffer)).foldl
            (fun (x : Visit) r => (x.attach r).getD x) { w with state := .atPortal })).visits ∧
        t.portal?.isSome = true ∧ t.reader.display = s.reader.display ∧
        ∀ ch, t.channel ch = if (s.channel ch).buffer = none then s.channel ch
          else { s.channel ch with buffer := none, expiry := .stopped }) ∧
    ∀ x : State, s.visits.mode ≠ .starting → (∀ ch, (s.channel ch).buffer = none) →
      ((s.portal? = none ∧ x = u) ∨ ∃ v, s.portal? = some v ∧ x = (u.portalClose v.number).updVisit v.number
        (fun w => { w.addReason .portalOverrun with state := .toStop })) →
        (∀ a, x.oldest? (fun v => v.state == .approach) = some a → exec (.debounceExpiry .loopP) s =
          .next (x.updVisit a.number (fun w => { w with state := .atPortal }))) ∧
        (x.oldest? (fun v => v.state == .approach) = none → s.visits.mode = .laneOpen → s.visits.laneQueue.length < 4 →
          exec (.debounceExpiry .loopP) s = .next { x with visits := { x.visits with
            laneQueue := x.visits.laneQueue ++
              [{ Visit.fresh s.visits.nextNumber .atPortal ⟨s.clock.window, s.clock.tenths⟩ with
                  active := [.approachUnseen] }]
            nextNumber := s.visits.nextNumber + 1 } }) ∧
        (x.oldest? (fun v => v.state == .approach) = none →
          (s.visits.mode = .laneOpen ∧ 4 ≤ s.visits.laneQueue.length) ∨
            ((s.visits.mode = .laneClosed ∨ s.visits.mode = .draining) ∧ 0 < s.visits.pendingArrivals) →
          ∃ t, exec (.debounceExpiry .loopP) s = .next t ∧
            t = { x with visits := { x.visits with pendingArrivals := s.visits.pendingArrivals - 1 }
                         outcome := t.outcome, bus := t.bus } ∧
            t.outcome.counters.arrivalsLost = min 255 (x.outcome.counters.arrivalsLost + 1) ∧
            t.flag .laneOverflow = ⟨true, decide (3 ≤ s.visits.pendingArrivals - 1)⟩) ∧
        (x.oldest? (fun v => v.state == .approach) = none → s.visits.mode = .laneClosed ∨ s.visits.mode = .draining →
          s.visits.pendingArrivals = 0 → exec (.debounceExpiry .loopP) s = .next x)

/-- LOOP_P vacated closes the portal stage of the visit in the portal, which becomes TO_STOP (R25, R27). A pass still open for it
ends first, its summary goes into its slot and the visit gains PASS_TRUNCATED (`v1` is the record after that; R116, R121). With a
booking selected, the matching OPEN record that ranks first (R71, R72), its record is HERE with the clock's point and the visit as
holder, and the visit has the reference, the moves, the claim and the arrival class of the booked window, and the CLAIM with that
point is handed over (R17, R73; an arrival exactly at the end of its window with a late grace of 0 is LATE: log 38). Each inbound
container, FRONT the first drop move and REAR the second, is checked by its code (R75), its read set (R104, R107) and its peaks
(R123 to R128), and gets its closure outcome, score, U and band; with one inbound container the reads and passes of both positions
are taken together (R56, R104, R124). The reasons the visit then has are those it had and what these steps give (R18, R71, R108,
R129). With no matching OPEN record no record changes, the reasons are those of R74, no closure is checked and the passes are
discarded. -/
def Obligations.LoopPVacatedClosesThePortal : Prop :=
  ∀ s u : State, s.edge .loopP false → u = s.debouncedTo .loopP false → s.visits.mode ≠ .starting →
    (s.portal? = none → exec (.debounceExpiry .loopP) s = .next u) ∧
    ∀ v v1 : Visit, s.portal? = some v → s.visit? v.number = some v →
      ((∀ p ∈ s.survey.pass, p.visit ≠ v.number) ∧ v1 = v ∨ ∃ p ∈ s.survey.pass, p.visit = v.number ∧
        v1 = (v.updSlot p.target (fun c => { c with pass := some p.data })).addReason .passTruncated) →
      ∃ t w, exec (.debounceExpiry .loopP) s = .next t ∧
        t = { u with visits := t.visits, booking := t.booking, outcome := t.outcome, bus := t.bus, survey := t.survey } ∧
        t.visit? v.number = some w ∧ w.state = .toStop ∧
        ((∀ p ∈ s.survey.pass, p.visit ≠ v.number) → t.survey = s.survey) ∧
        (∀ p ∈ s.survey.pass, p.visit = v.number → t.survey.pass = none ∧
          darkRunsByTable s.zones p.data s.survey.darkRuns t.survey.darkRuns) ∧
        ((∀ b, some b ∈ s.booking.table → b.state = .available → ¬ b.isMatchFor s.general.plateThreshold v) →
          t.booking = s.booking ∧ (s.survey.pass = none → t.bus = s.bus) ∧ w.claimHeld = v.claimHeld ∧ w.arrival = .none ∧
          (v.moves = [] →
            w.inbound = 0 ∧ w.front.closure = some .notChecked ∧ w.rear.closure = some .notChecked ∧
              w.front.pass = none ∧ w.rear.pass = none ∧
              ∀ r, w.given r ↔ v1.given r ∨ (r = .plateLowConf ∧ v.confidence < s.general.plateThreshold) ∨
                missByTable s.general.plateThreshold v s.booking.table r)) ∧
        ∀ b, selectedByTable s.general.plateThreshold v s.clock.window s.booking.table b →
          t.booking.table = updRecord b.ref
              (fun r => some { r with state := .here ⟨s.clock.window, s.clock.tenths⟩ v.number }) s.booking.table ∧
            w.ref = some b.ref ∧ w.moves = b.moves ∧ w.claimHeld = true ∧
            arrivalByTable s.general b.window ⟨s.clock.window, s.clock.tenths⟩ w.arrival ∧
            (s.outbox? .bookingStore = none → t.holdsFrame (.claim b.ref ⟨s.clock.window, s.clock.tenths⟩)) ∧
            w.inbound = min 2 (b.moves.filter Move.isDrop).length ∧
            ∀ (one : Bool) (drop : Position → Option Move) (c : Position → ContainerSlot)
              (set : Position → List SealEntry) (data : Position → Option PassSummary)
              (peaks : Position → Move → List (Zone × Option Nat)),
              one = ((b.moves.filter Move.isDrop).length == 1) →
              (∀ p, drop p = (b.moves.filter Move.isDrop)[match p with | .front => 0 | .rear => 1]?) →
              (if one then mergedByTable v.front v.rear (c .front) else ∀ p, c p = v.slot p) →
              (∀ p, set p = if one then v.rear.seals.foldl (fun l e => addSeal e l) v.front.seals else (v.slot p).seals) →
              (∀ p, data p = if one then
                  (match v1.front.pass, v1.rear.pass with
                    | some x, some y => some (List.zipWith ZoneData.merge x y)
                    | x, none => x
                    | none, y => y)
                else (v1.slot p).pass) →
              (∀ p m, peaksByTable s.zones s.profiles[m.profile]? (data p) (peaks p m)) →
                (∀ p m, drop p = some m →
                  ∃ o bd, (w.slot p).closure = some o ∧ (w.slot p).band = some bd ∧ closureByTable m.seals (set p) o ∧
                    (w.slot p).score = scoreByTable (peaks p m) ∧
                    (w.slot p).unsurveyed = (peaks p m).countP (fun x => x.2.isNone) ∧
                    bandByTable s.general (peaks p m) (w.slot p).unsurveyed (w.slot p).score bd) ∧
                (∀ p, drop p = none → (w.slot p).closure = some .notChecked) ∧
                ∀ r, w.given r ↔ v1.given r ∨ (r = .plateLowConf ∧ v.confidence < s.general.plateThreshold) ∨
                  (r = .tooEarly ∧ w.arrival = .tooEarly) ∨ (r = .tooLate ∧ w.arrival = .tooLate) ∨
                  ∃ p m o bd, drop p = some m ∧ (w.slot p).closure = some o ∧ (w.slot p).band = some bd ∧
                    checkGives m (c p) (set p) o bd r

/-- LOOP_S occupied evaluates the oldest TO_STOP visit, or, with none, the visit in the portal once its portal stage has closed (`y`
is the lane that finds the visit to evaluate); with neither nothing happens, nor in STARTING, nor at LOOP_S vacated (R3, R10, R26).
With no FREE place it enters a place hold, its verdict staying as it was (log 14). With one it reserves the place, and the first
group of reasons that holds decides: REFUSE, its claim ending as RELEASED; a clerk hold; else the flex step for an EARLY or LATE
visit, and admission (R29, R30, R32, R33, R79). At the flex step a unit of the spare admits where nobody waits; with spare 0 the
visit waits for a loan where one can be asked, LOAN_ASK going out with a fresh Ask where none is open, and is given NO_CAPACITY and
a clerk hold where none can (R31, R85, R88 to R90). An admission routes its drop moves to blocks with their counts and BLOCK_NOTEs,
or to the inspection block, its pick moves to their blocks, and directs the driver; a hold shows WAIT and a refusal TURN_OUT, where
nothing stands for the visit and the Direction Queue has room (R134 to R138, R141; that INSPECT names the inspection block alone is
log 17). -/
def Obligations.LoopSOccupiedEvaluates : Prop :=
  (∀ s u : State, s.edge .loopS true → u = s.debouncedTo .loopS true → s.oldest? (fun v => v.state == .toStop) = none →
    s.portal? = none → exec (.debounceExpiry .loopS) s = .next u) ∧
  (∀ s u : State, s.edge .loopS true → u = s.debouncedTo .loopS true → s.visits.mode = .starting →
    exec (.debounceExpiry .loopS) s = .next u) ∧
  (∀ s u : State, s.edge .loopS false → u = s.debouncedTo .loopS false → exec (.debounceExpiry .loopS) s = .next u) ∧
  ∀ (s u y : State) (v : Visit), s.edge .loopS true → u = s.debouncedTo .loopS true → s.visits.mode ≠ .starting →
    (s.oldest? (fun v => v.state == .toStop) = some v ∧ y = u) ∨
      (s.oldest? (fun v => v.state == .toStop) = none ∧
        ∃ p, s.portal? = some p ∧ p.number = v.number ∧ y = u.portalClose p.number) →
    y.visit? v.number = some v →
      ∃ t w, exec (.debounceExpiry .loopS) s = .next t ∧
        t = { u with visits := t.visits, yard := t.yard, reader := t.reader, out := t.out, booking := t.booking
                     capacity := t.capacity, outcome := t.outcome, bus := t.bus, survey := y.survey } ∧
        t.visit? v.number = some w ∧
        ∀ (direct : MessageKind → List Text → Prop), (∀ k stops, direct k stops ↔
          (s.yard.held = [] → s.yard.queue.length < 4 → (∀ x ∈ s.yard.queue, x.visit ≠ some v.number) →
            t.yard.queue = s.yard.queue ++ [⟨k, some v.number, stops⟩])) →
        (16 ≤ s.outcome.reserved.length + s.outcome.filled.length →
          w = ({ v with state := .hold } : Visit).addReason .recordFull ∧ t.outcome.holdWaiting = true ∧
            t.booking = y.booking ∧ t.capacity = s.capacity ∧ t.outcome.reserved = s.outcome.reserved ∧ direct .wait []) ∧
        (s.outcome.reserved.length + s.outcome.filled.length < 16 →
          t.outcome.reserved = s.outcome.reserved ++ [v.number] ∧ w.placeReserved = true ∧
          (v.active.any Reason.isRefuse = true →
            w.state = .exiting ∧ w.verdict = .refuse ∧ w.stops = [] ∧
              w.verdictStamp = some ⟨s.clock.window, s.clock.tenths⟩ ∧ t.capacity = s.capacity ∧
              t.yard.blocks = s.yard.blocks ∧ direct .turnOut [] ∧ (v.claimHeld = false → t.booking = y.booking) ∧
              ∀ ref, v.claimHeld = true → v.ref = some ref → w.claimHeld = false ∧
                t.booking = { y.booking with table := y.claimEnded v.number ref .available } ∧
                (y.outbox? .bookingStore = none → t.holdsFrame (.claimEnd ref .released))) ∧
          (v.active.any Reason.isRefuse = false → v.active.any Reason.isClerkHold = true →
            w.state = .hold ∧ w.verdict = .hold ∧ w.holdStart = some ⟨s.clock.window, s.clock.tenths⟩ ∧
              t.outcome.holdWaiting = true ∧ t.booking = y.booking ∧ t.capacity = s.capacity ∧
              (.recordFull ∉ v.active → direct .wait [])) ∧
          (v.active.any Reason.isRefuse = false → v.active.any Reason.isClerkHold = false →
            v.needsFlex = false ∨ (∃ q, s.capacity.quota = some q ∧ q.lent + q.used < q.share + q.borrowed ∧
              s.capacity.waitList = []) →
            w.state = .exiting ∧ w.verdict = (if v.needsInspection then .admitInspect else .admitted) ∧
              w.verdictStamp = some ⟨s.clock.window, s.clock.tenths⟩ ∧ t.booking = y.booking ∧
              (v.needsFlex = false → t.capacity = s.capacity ∧ w.flex = v.flex) ∧
              (v.needsFlex = true → w.flex = .own ∧
                t.capacity = { s.capacity with quota := s.capacity.quota.map (fun q => { q with used := q.used + 1 }) }) ∧
              (v.needsInspection = false →
                w.stops = (routeByTable (v.moves.filter Move.isDrop) s.yard.blocks).1
                    ++ (v.moves.filter (fun m => !m.isDrop)).flatMap (·.blocks) ∧
                  t.yard.blocks = (routeByTable (v.moves.filter Move.isDrop) s.yard.blocks).2 ∧
                  direct .proceed w.stops ∧
                  ∀ win, s.yard.window = some win → y.bus.txQueue.length + (v.moves.filter Move.isDrop).length ≤ 7 →
                    ∀ x ∈ (routeByTable (v.moves.filter Move.isDrop) s.yard.blocks).1,
                      ∃ e ∈ t.bus.txQueue, e.frame = .blockNote x win) ∧
              (v.needsInspection = true →
                w.stops = ((s.yard.blocks.find? (fun e => e.kind == .inspection)).map (·.ident)).toList
                    ++ (v.moves.filter (fun m => !m.isDrop)).flatMap (·.blocks) ∧
                  t.yard.blocks = s.yard.blocks ∧ direct .inspect (w.stops.take 1))) ∧
          (v.active.any Reason.isRefuse = false → v.active.any Reason.isClerkHold = false → v.needsFlex = true →
            ∀ q, s.capacity.quota = some q → q.share + q.borrowed ≤ q.lent + q.used →
              t.booking = y.booking ∧
              ((s.bus.degraded = false ∨ s.capacity.peerTimer.isRunning = true) → q.borrowed < 15 →
                w.state = .awaitLoan ∧ w.verdict = v.verdict ∧ t.yard = s.yard ∧
                  (s.capacity.ask ≠ none →
                    t.capacity = { s.capacity with waitList := s.capacity.waitList ++ [v.number] }) ∧
                  (s.capacity.ask = none →
                    t.capacity = { s.capacity with
                      waitList := s.capacity.waitList ++ [v.number], askCounter := s.capacity.askCounter + 1
                      ask := some ⟨s.capacity.askCounter, q.window, .asking, .running 1500⟩ } ∧
                    (y.outbox? .capacityUnit = none → t.holdsFrame (.loanAsk q.window s.capacity.askCounter)))) ∧
              ((s.bus.degraded = true ∧ s.capacity.peerTimer.isRunning = false) ∨ 15 ≤ q.borrowed →
                w.state = .hold ∧ w.verdict = .hold ∧ w.given .noCapacity ∧ t.outcome.holdWaiting = true ∧
                  w.holdStart = some ⟨s.clock.window, s.clock.tenths⟩ ∧ t.capacity = s.capacity ∧
                  (.recordFull ∉ v.active → direct .wait []))))

/-- LOOP_X occupied marks the oldest EXITING visit as passing; LOOP_X vacated takes the passing visit out of the lane: with the
verdict PARK to the parked set, its claim and its place kept, else it closes: its RESERVED place becomes FILLED with its record, and
its claim ends, as USED for an admission and RELEASED otherwise; a pending arrival is opened in the freed place, and a DRAINING lane
that the last visit leaves becomes CLOSED (R9, R23, R41, R43, R44, R79, R152, R153). With the raise visit gone, or the barrier
HELD_OPEN, RAISE is withdrawn: SETTLING for 4 s with BAR_UP up, LOWERED with it down, and then raised afresh where the next visit is
EXITING and settled; a visit that was not the raise visit leaves RAISE as it is, and with no visit passing only HELD_OPEN withdraws
it (R145, R147; that the visit leaves before the Yard Routing Unit takes the event is log 21). -/
def Obligations.LoopXClearsTheLane : Prop :=
  (∀ s u : State, s.edge .loopX true → u = s.debouncedTo .loopX true → s.visits.mode ≠ .starting →
    (∀ v, s.oldest? (fun v => v.state == .exiting) = some v → exec (.debounceExpiry .loopX) s =
      .next (u.updVisit v.number (fun w => { w with passing := true }))) ∧
    (s.oldest? (fun v => v.state == .exiting) = none → exec (.debounceExpiry .loopX) s = .next u)) ∧
  (∀ s u : State, s.edge .loopX true → u = s.debouncedTo .loopX true → s.visits.mode = .starting →
    exec (.debounceExpiry .loopX) s = .next u) ∧
  (∀ (s u : State) (v : Visit), s.edge .loopX false → u = s.debouncedTo .loopX false → s.visits.mode ≠ .starting →
    s.laneSound → s.oldest? (fun v => v.passing) = some v → s.visit? v.number = some v →
      ∃ t, exec (.debounceExpiry .loopX) s = .next t ∧
        t = { u with visits := t.visits, yard := t.yard, reader := t.reader, out := t.out
                     line := { u.line with raiseOut := t.line.raiseOut }
                     booking := t.booking, outcome := t.outcome, bus := t.bus } ∧
        t.visits.laneQueue.map (·.number) = (s.visits.laneQueue.map (·.number)).erase v.number
          ++ (if 0 < s.visits.pendingArrivals then [s.visits.nextNumber] else []) ∧
        t.visits.pendingArrivals = s.visits.pendingArrivals - 1 ∧
        t.visits.mode = (if s.visits.mode = .draining ∧ s.visits.laneQueue.length = 1 then .laneClosed else s.visits.mode) ∧
        (v.verdict = .park → t.visits.parked.map (·.number) = s.visits.parked.map (·.number) ++ [v.number] ∧
          t.booking = s.booking ∧ t.outcome.reserved = s.outcome.reserved ∧ t.outcome.filled = s.outcome.filled) ∧
        (v.verdict ≠ .park → t.visits.parked.map (·.number) = s.visits.parked.map (·.number) ∧
          (v.number ∈ s.outcome.reserved → t.outcome.reserved = s.outcome.reserved.erase v.number ∧
            ∃ r, t.outcome.filled = s.outcome.filled ++ [r] ∧ s.recordOf v r) ∧
          (v.claimHeld = false → t.booking = s.booking) ∧
          ∀ (ref : Text) (r : ClaimResult), v.claimHeld = true → v.ref = some ref →
            r = (if v.verdict = .admitted ∨ v.verdict = .admitInspect then .used else .released) →
              t.booking = { s.booking with
                table := s.claimEnded v.number ref (if r = .used then .used else .available) } ∧
              (s.outbox? .bookingStore = none → t.holdsFrame (.claimEnd ref r))) ∧
        (s.yard.raiseVisit = some v.number ∨ s.yard.barrier = .heldOpen → t.raiseWithdrawn) ∧
        (s.yard.raiseVisit = some v.number → s.level .barUp = true →
          t.yard.raiseVisit = none ∧ t.yard.upCheck = .stopped) ∧
        (s.yard.raiseVisit ≠ some v.number → s.yard.barrier ≠ .heldOpen → s.yard.barrier ≠ .lowered →
          t.line = u.line ∧ t.yard.barrier = s.yard.barrier ∧ t.yard.raiseVisit = s.yard.raiseVisit)) ∧
  ∀ s u : State, s.edge .loopX false → u = s.debouncedTo .loopX false →
    s.visits.mode = .starting ∨ s.oldest? (fun v => v.passing) = none →
      (s.yard.barrier ≠ .heldOpen → exec (.debounceExpiry .loopX) s = .next u) ∧
      (s.yard.barrier = .heldOpen → ∃ t, exec (.debounceExpiry .loopX) s = .next t ∧ t.raiseWithdrawn ∧
        t.visits.laneQueue.map (·.number) = s.visits.laneQueue.map (·.number) ∧
        t = { u with visits := t.visits, yard := t.yard, line := { u.line with raiseOut := t.line.raiseOut }
                     outcome := { u.outcome with flags := t.outcome.flags } })

/-- The exit check of an EXITING visit not seen on the exit loop runs out: it gains EXIT_UNSEEN and leaves the lane, its record
filling its place and its claim ending unless its verdict is PARK, and a DRAINING lane that it leaves empty becomes CLOSED; for a
visit passing, or no longer EXITING, the check ends without effect (R9, R42 to R44, R79). The raise visit gone, the barrier is
HELD_OPEN with RAISE on while a truck stands on LOOP_X; with LOOP_X vacated RAISE is withdrawn; another visit leaves RAISE as it is
(R147). A stopped exit check does nothing (log 2). -/
def Obligations.ExitCheckEndsAVisitUnseen : Prop :=
  ∀ (s : State) (n : VisitNumber),
    (s.oldest? (fun v => v.number == n && v.exitCheck.isRunning) = none → exec (.exitCheckExpiry n) s = .next s) ∧
    ∀ v, s.oldest? (fun v => v.number == n && v.exitCheck.isRunning) = some v →
      (v.state ≠ .exiting ∨ v.passing = true →
        exec (.exitCheckExpiry n) s = .next (s.updVisit n (fun w => { w with exitCheck := .stopped }))) ∧
      (v.state = .exiting → v.passing = false → s.visit? n = some v → s.laneSound →
        ∃ t, exec (.exitCheckExpiry n) s = .next t ∧
          t.visits.laneQueue.map (·.number) = (s.visits.laneQueue.map (·.number)).erase n
            ++ (if 0 < s.visits.pendingArrivals then [s.visits.nextNumber] else []) ∧
          t.visits.mode = (if s.visits.mode = .draining ∧ s.visits.laneQueue.length = 1 then .laneClosed
            else s.visits.mode) ∧
          (v.verdict = .park → t.visits.parked.map (·.number) = s.visits.parked.map (·.number) ++ [n] ∧
            t.outcome.filled = s.outcome.filled ∧ t.booking = s.booking) ∧
          (v.verdict ≠ .park → n ∈ s.outcome.reserved →
            t.visits.parked.map (·.number) = s.visits.parked.map (·.number) ∧
              t.outcome.reserved = s.outcome.reserved.erase n ∧
              ∃ r, t.outcome.filled = s.outcome.filled ++ [r] ∧ r.number = n ∧ r.verdict = v.verdict ∧
                r.closeStamp = some ⟨s.clock.window, s.clock.tenths⟩ ∧
                (.exitUnseen ∈ r.active ∨ .exitUnseen ∈ r.overridden) ∧ s.recordOf (v.addReason .exitUnseen) r) ∧
          (v.verdict ≠ .park → v.claimHeld = false → t.booking = s.booking) ∧
          (∀ (ref : Text) (r : ClaimResult), v.verdict ≠ .park → v.claimHeld = true → v.ref = some ref →
            r = (if v.verdict = .admitted ∨ v.verdict = .admitInspect then .used else .released) →
              t.booking = { s.booking with
                table := s.claimEnded n ref (if r = .used then .used else .available) } ∧
              (s.outbox? .bookingStore = none → t.holdsFrame (.claimEnd ref r))) ∧
          (s.yard.raiseVisit = some n → s.level .loopX = true →
            t.line = s.line ∧ t.yard.barrier = .heldOpen ∧ t.yard.raiseVisit = none ∧ t.yard.upCheck = .stopped) ∧
          (s.yard.raiseVisit = some n → s.level .loopX = false → t.raiseWithdrawn) ∧
          (s.yard.raiseVisit ≠ some n → s.yard.barrier ≠ .lowered →
            t.line = s.line ∧ t.yard.barrier = s.yard.barrier ∧ t.yard.raiseVisit = s.yard.raiseVisit))

/-- SCAN occupied opens a pass for the first empty container slot of the visit in the portal, the converter starting at the lowest
enabled zone; with both slots taken the visit gains EXTRA_PASS; with no visit in the portal the pass is an orphan (R114, R117). -/
def Obligations.ScanOccupiedOpensAPass : Prop :=
  ∀ s u : State, s.edge .scan true → u = s.debouncedTo .scan true →
    (s.portal? = none → exec (.debounceExpiry .scan) s = .next (u.count .orphanPasses)) ∧
    ∀ v, s.portal? = some v →
      (v.front.pass = none → exec (.debounceExpiry .scan) s = .next { u with survey := { u.survey with
        pass := some ⟨v.number, .front, List.replicate 12 ⟨none, none, 0, 0⟩, (enabledZones s.zones).head?, 0, 0, false⟩ } }) ∧
      (v.front.pass ≠ none → v.rear.pass = none → exec (.debounceExpiry .scan) s = .next { u with survey := { u.survey with
        pass := some ⟨v.number, .rear, List.replicate 12 ⟨none, none, 0, 0⟩, (enabledZones s.zones).head?, 0, 0, false⟩ } }) ∧
      (v.front.pass ≠ none → v.rear.pass ≠ none → exec (.debounceExpiry .scan) s =
        .next (u.updVisit v.number (Visit.addReason .extraPass)))

/-- SCAN vacated ends the open pass: the converter stops, the summary goes into the target slot of the pass's visit, and every dark
run is settled, zone by zone (R121); with no pass open it has no effect (R115). Where the settling brings an enabled zone's run to
3, SURVEY_CHANNEL latches; where it leaves none at 3 after one was, its condition ends; else no flag moves (R122). -/
def Obligations.ScanVacatedEndsThePass : Prop :=
  ∀ s u : State, s.edge .scan false → u = s.debouncedTo .scan false →
    (s.survey.pass = none → exec (.debounceExpiry .scan) s = .next u) ∧
    ∀ p, s.survey.pass = some p →
      ∃ t, exec (.debounceExpiry .scan) s = .next t ∧
        t = { u with visits := t.visits, survey := ⟨none, t.survey.darkRuns⟩, outcome := t.outcome, bus := t.bus } ∧
        darkRunsByTable s.zones p.data s.survey.darkRuns t.survey.darkRuns ∧
        t.visits = (u.updVisit p.visit (Visit.updSlot p.target (fun c => { c with pass := some p.data }))).visits ∧
        (∀ f, f ≠ .surveyChannel → t.flag f = s.flag f) ∧
        ∀ dark : List Nat → Nat → Prop,
          (∀ runs i, dark runs i ↔ ∃ z, s.zones[i]? = some z ∧ z.enabled = true ∧ runs[i]? = some 3) →
            ((∃ i, dark t.survey.darkRuns i ∧ ¬ dark s.survey.darkRuns i) → t.flag .surveyChannel = ⟨true, true⟩) ∧
            ((∀ i, ¬ dark t.survey.darkRuns i) → (∃ i, dark s.survey.darkRuns i) →
              t.flag .surveyChannel = ⟨(s.flag .surveyChannel).isSet, false⟩) ∧
            ((∀ i, dark t.survey.darkRuns i → dark s.survey.darkRuns i) →
              (∃ i, dark t.survey.darkRuns i) ∨ (∀ i, ¬ dark s.survey.darkRuns i) →
                t.outcome = s.outcome ∧ t.bus = s.bus)

/-- BAR_UP: seen up in RAISING the barrier is RAISED, the up check stops and the raise visit's exit check of 60 s starts; up in LOWERED
or SETTLING, or down in RAISED or HELD_OPEN, is a disagreement that latches BARRIER and moves nothing; up in RAISED or HELD_OPEN, or
down in LOWERED or RAISING, moves nothing and latches nothing. Down in SETTLING the barrier is LOWERED, and raised afresh where the
oldest visit is EXITING and settled. A BARRIER flag once latched follows the agreement of BAR_UP and RAISE (R145 to R148). -/
def Obligations.BarrierSenseActsByState : Prop :=
  (∀ (s u : State) (n : VisitNumber), s.edge .barUp true → u = s.debouncedTo .barUp true → s.yard.barrier = .raising →
    s.yard.raiseVisit = some n →
      ∃ t, exec (.debounceExpiry .barUp) s = .next t ∧
        t = { u with visits := (u.updVisit n (fun v => { v with exitCheck := .running 60000 })).visits
                     yard := { u.yard with barrier := .raised, upCheck := .stopped }
                     outcome := { u.outcome with flags := t.outcome.flags } } ∧
        (∀ f, (t.flag f).isSet = (s.flag f).isSet) ∧ (∀ f, f ≠ .barrier → t.flag f = s.flag f) ∧
        ((s.flag .barrier).isSet = true → t.flag .barrier = ⟨true, !s.line.raiseOut⟩)) ∧
  (∀ (s u : State) (up : Bool), s.edge .barUp up → u = s.debouncedTo .barUp up →
    (up = true ∧ (s.yard.barrier = .raised ∨ s.yard.barrier = .heldOpen)) ∨
      (up = false ∧ (s.yard.barrier = .lowered ∨ s.yard.barrier = .raising)) →
      ∃ t, exec (.debounceExpiry .barUp) s = .next t ∧
        t = { u with outcome := { u.outcome with flags := t.outcome.flags } } ∧
        (∀ f, f ≠ .barrier → t.flag f = s.flag f) ∧
        t.flag .barrier = (if (s.flag .barrier).isSet then ⟨true, up != s.line.raiseOut⟩ else s.flag .barrier)) ∧
  (∀ (s u : State) (v : Visit) (vs : List Visit), s.edge .barUp false → u = s.debouncedTo .barUp false →
    s.yard.barrier = .settling → s.visits.laneQueue = v :: vs → v.state = .exiting → v.settled = true →
      ∃ t, exec (.debounceExpiry .barUp) s = .next t ∧ t.raisedFor v.number ∧
        t = { u with line := { u.line with raiseOut := true }
                     yard := { u.yard with barrier := .raising, raiseVisit := some v.number, upCheck := .running 4000
                                           settle := .stopped }
                     outcome := { u.outcome with flags := t.outcome.flags } } ∧
        ∀ f, (t.flag f).isSet = (s.flag f).isSet) ∧
  (∀ (s u : State) (up : Bool), s.edge .barUp up → u = s.debouncedTo .barUp up →
    (up = true ∧ (s.yard.barrier = .lowered ∨ s.yard.barrier = .settling)) ∨
      (up = false ∧ (s.yard.barrier = .raised ∨ s.yard.barrier = .heldOpen)) →
      ∃ t, exec (.debounceExpiry .barUp) s = .next t ∧ u.sameButAlerts t ∧
        t.flag .barrier = ⟨true, up != s.line.raiseOut⟩ ∧ ∀ f, f ≠ .barrier → t.flag f = s.flag f) ∧
  ∀ s u : State, s.edge .barUp false → u = s.debouncedTo .barUp false → s.yard.barrier = .settling →
    (∀ v ∈ s.visits.laneQueue.head?, v.state ≠ .exiting ∨ v.settled = false) →
      ∃ t, exec (.debounceExpiry .barUp) s = .next t ∧
        t = { u with yard := { u.yard with barrier := .lowered, settle := .stopped }
                     outcome := { u.outcome with flags := t.outcome.flags } } ∧
        (∀ f, f ≠ .barrier → t.flag f = s.flag f) ∧
        t.flag .barrier = (if (s.flag .barrier).isSet then ⟨true, s.line.raiseOut⟩ else s.flag .barrier)

/-! ### The Gate Clock -/

/-- TENTHS_RISE counts one tenth short of the window's end, and WINDOW_ROLL comes at its end; a clock not valid or paused does
neither (R11, R14). -/
def Obligations.TenthsCountOnlyWhileTheClockRuns : Prop :=
  ∀ s : State,
    (s.clock.valid = true → s.clock.paused = false → s.clock.tenths + 1 < windowTenths s.general.windowMinutes →
      exec .tenthsRise s = .next { s with clock := { s.clock with tenths := s.clock.tenths + 1 } } ∧
        exec .windowRoll s = .next s) ∧
    (s.clock.valid = false ∨ s.clock.paused = true → exec .tenthsRise s = .next s ∧ exec .windowRoll s = .next s) ∧
    (windowTenths s.general.windowMinutes ≤ s.clock.tenths + 1 → exec .tenthsRise s = .next s)

/-- WINDOW_ROLL: the window rises by one modulo 256, the tenths are 0 and the next share class is current; the Booking Store drops the
expired records that are not HERE, the Capacity Unit starts a fresh entry, every block count is 0 (R11, R15, R70, R99, R133). With
visits waiting for a loan the order of the notice is free (log 12), and what is said holds for either order: each takes a unit of the
fresh entry, oldest first, while the spare lasts, and a fresh Ask is opened for the oldest of the others, or each of them is given
NO_CAPACITY where no loan can be asked (R86, R90, R99). -/
def Obligations.WindowRollStartsAFreshWindow : Prop :=
  ∀ (s : State) (w : Window), s.clock.valid = true → s.clock.paused = false →
    windowTenths s.general.windowMinutes ≤ s.clock.tenths + 1 → w = s.clock.window + 1 →
      ∃ t, exec .windowRoll s = .next t ∧
        t.clock = { s.clock with window := w, tenths := 0, curClass := s.clock.nextClass } ∧
        t.booking = { window := some w
                      table := s.booking.table.map (fun o => o.bind (fun b => match b.state with
                        | .here _ _ => some b
                        | _ => if bookingExpired s.general w b.window then none else some b)) } ∧
        t.yard.window = some w ∧ t.capacity.offers = [] ∧ t.capacity.takes = [] ∧
        (s.capacity.waitList = [] →
          t = { s with clock := t.clock, booking := t.booking
                       capacity := { s.capacity with
                         quota := some ⟨w, s.general.shares.getD s.clock.nextClass 0, 0, 0, 0⟩, offers := []
                         ask := none, takes := [] }
                       yard := { s.yard with window := some w
                                             blocks := s.yard.blocks.map (fun e => { e with count := 0 }) } }) ∧
        (s.capacity.waitList ≠ [] → t.freeIndex = s.freeIndex + 1) ∧
        (s.capacity.waitList.Nodup → s.waitersTaken t s.capacity.waitList .own
            ⟨w, s.general.shares.getD s.clock.nextClass 0, 0, 0, 0⟩ ∧
          ∀ n, n ∉ s.capacity.waitList → t.visit? n = s.visit? n)

/-- TIME: before the fixing, or with a field out of range, it is counted as ignored; the first makes the clock valid; one earlier
than the clock pauses it; one at or after it is adopted, the current share class changing only where a window is crossed (R12 to
R14). With nobody waiting for a loan, an adoption into a later window leaves a fresh quota of that window and every block count 0
(R99, R133), and every clerk hold whose timeout ends inside the jump expires: in degraded mode with REFUSE, else with PARK while the
parked set has room, and deferred once it is full (R16, R35). The model's choice: the holds expire in lane-queue order (log 13),
after the last roll notice (log 42). -/
def Obligations.TimeFrameSetsOrPausesTheClock : Prop :=
  ∀ (s u : State) (f : RxFrame) (rest : List RxFrame) (p : GatePoint) (cls : Nat),
    takeFirst .time s.bus.rx = some (f, rest) → u = s.handedOn f rest → timeForm f.payload = some (p, cls) →
      (s.start.config = none ∨ windowTenths s.general.windowMinutes ≤ p.tenths ∨ 3 < cls →
        exec .timeFrame s = .next (u.count .framesIgnored)) ∧
      (s.start.config ≠ none → p.tenths < windowTenths s.general.windowMinutes → cls ≤ 3 →
        (s.clock.valid = false → s.capacity.waitList = [] →
          ∃ t, exec .timeFrame s = .next t ∧ t.clock = ⟨true, false, p.window, p.tenths, cls, cls⟩ ∧
            t.booking.window = some p.window ∧ t.yard.window = some p.window ∧
            t.capacity.quota = some ⟨p.window, s.general.shares.getD cls 0, 0, 0, 0⟩ ∧
            t.visits = { s.visits with
              mode := if s.visits.mode = .starting then .laneClosed else s.visits.mode }) ∧
        (s.clock.valid = true → winDist s.clock.window p.window < 0 ∨
            (winDist s.clock.window p.window = 0 ∧ p.tenths < s.clock.tenths) →
          exec .timeFrame s = .next { u with clock := { s.clock with paused := true } }) ∧
        (s.clock.valid = true → 0 < winDist s.clock.window p.window ∨
            (winDist s.clock.window p.window = 0 ∧ s.clock.tenths ≤ p.tenths) →
          ∃ t, exec .timeFrame s = .next t ∧
            t.clock = ⟨true, false, p.window, p.tenths,
              if winDist s.clock.window p.window = 0 then s.clock.curClass else s.clock.nextClass, cls⟩ ∧
            (0 < winDist s.clock.window p.window → t.booking.window = some p.window) ∧
            (winDist s.clock.window p.window = 0 → (∀ v ∈ s.visits.laneQueue, v.isClerkHold = false) →
              t = { u with clock := t.clock }) ∧
            (s.capacity.waitList = [] →
              (winDist s.clock.window p.window = 0 → t.capacity = s.capacity ∧ t.yard.blocks = s.yard.blocks) ∧
              (0 < winDist s.clock.window p.window → t.yard.window = some p.window ∧
                t.yard.blocks = s.yard.blocks.map (fun e => { e with count := 0 }) ∧
                t.capacity = { s.capacity with
                  quota := some ⟨p.window, s.general.shares.getD s.clock.nextClass 0, 0, 0, 0⟩, offers := []
                  ask := none, takes := [] }) ∧
              ∀ due : Visit → Bool, (∀ v, due v = true ↔ v.isClerkHold = true ∧ v.timeoutRun = false ∧
                  ∃ h, v.holdStart = some h ∧ s.general.holdMinutes * 600 ≤
                    gateElapsed s.general.windowMinutes h ⟨s.clock.window, s.clock.tenths⟩ +
                      gateElapsed s.general.windowMinutes ⟨s.clock.window, s.clock.tenths⟩ p) →
                (s.allVisits.map (·.number)).Nodup →
                  (∀ v ∈ s.visits.laneQueue, due v = false → t.visit? v.number = some v) ∧
                  (s.bus.degraded = true → ∀ v ∈ s.visits.laneQueue, due v = true → ∃ w, t.visit? v.number = some w ∧
                    w.state = .exiting ∧ w.verdict = .refuse ∧ w.verdictStamp = some p) ∧
                  (s.bus.degraded = false →
                    (∀ v ∈ (s.visits.laneQueue.filter due).take (4 - s.parkedInUse), ∃ w, t.visit? v.number = some w ∧
                      w.state = .exiting ∧ w.verdict = .park ∧ w.verdictStamp = some p) ∧
                    (4 ≤ s.parkedInUse ∨ (∀ v ∈ s.visits.laneQueue, due v = true → v.verdict = .hold) →
                      ∀ v ∈ (s.visits.laneQueue.filter due).drop (4 - s.parkedInUse),
                        t.visit? v.number = some { v with timeoutRun := true })))))

/-! ### The Visit Engine -/

/-- OPEN by the lane mode: counted as ignored in STARTING; CLOSED and DRAINING become OPEN, no visit being touched, and the change is
reported; in OPEN nothing changes (R8). -/
def Obligations.OpenFrameByLaneMode : Prop :=
  ∀ (s u : State) (f : RxFrame) (rest : List RxFrame),
    takeFirst .openLane s.bus.rx = some (f, rest) → u = s.handedOn f rest →
      (s.visits.mode = .starting → exec .openFrame s = .next (u.count .framesIgnored)) ∧
      (s.visits.mode = .laneClosed ∨ s.visits.mode = .draining → exec .openFrame s =
        .next ({ u with visits := { u.visits with mode := .laneOpen } } : State).reportStatus) ∧
      (s.visits.mode = .laneOpen → exec .openFrame s = .next u)

/-- CLOSE by the lane mode: an OPEN lane becomes CLOSED where its lane queue is empty and DRAINING where it is not, and the change is
reported; nothing changes in DRAINING or CLOSED; in STARTING it is counted as ignored (R9). -/
def Obligations.CloseFrameByLaneMode : Prop :=
  ∀ (s u : State) (f : RxFrame) (rest : List RxFrame),
    takeFirst .closeLane s.bus.rx = some (f, rest) → u = s.handedOn f rest →
      (s.visits.mode = .starting → exec .closeFrame s = .next (u.count .framesIgnored)) ∧
      (s.visits.mode = .laneOpen → s.visits.laneQueue = [] → exec .closeFrame s =
        .next ({ u with visits := { u.visits with mode := .laneClosed } } : State).reportStatus) ∧
      (s.visits.mode = .laneOpen → s.visits.laneQueue ≠ [] → exec .closeFrame s =
        .next ({ u with visits := { u.visits with mode := .draining } } : State).reportStatus) ∧
      (s.visits.mode = .laneClosed ∨ s.visits.mode = .draining → exec .closeFrame s = .next u)

/-- The hold timeout of a clerk hold: before its gate time nothing; in degraded mode REFUSE with the claim ended as RELEASED, the
HERE record becoming OPEN or leaving the table; with room PARK, the reasons and the claim kept; with the parked set full the timeout
is deferred (R33, R35, R79). PARK's one stop is the BUFFER block and its message BUFFER, with no block counted; a refusal has no
stop and its message is TURN_OUT, each joining the Direction Queue where it has room and nothing stands for the visit (R137, R141).
A visit in no clerk hold, or deferred, has no timeout running (log 2). -/
def Obligations.HoldTimeoutDecidesAClerkHold : Prop :=
  (∀ (s : State) (n : VisitNumber), (∀ v, s.visit? n = some v → v.isClerkHold = false ∨ v.timeoutRun = true) →
    exec (.holdTimeoutExpiry n) s = .next s) ∧
  ∀ (s : State) (n : VisitNumber) (v : Visit) (h : GatePoint), s.visit? n = some v → v.isClerkHold = true →
    v.timeoutRun = false → v.holdStart = some h →
      (gateElapsed s.general.windowMinutes h ⟨s.clock.window, s.clock.tenths⟩ < s.general.holdMinutes * 600 →
        exec (.holdTimeoutExpiry n) s = .next s) ∧
      (s.general.holdMinutes * 600 ≤ gateElapsed s.general.windowMinutes h ⟨s.clock.window, s.clock.tenths⟩ →
        (s.bus.degraded = true → ∃ t w, exec (.holdTimeoutExpiry n) s = .next t ∧ t.visit? n = some w ∧
          w.state = .exiting ∧ w.verdict = .refuse ∧ (v.ref ≠ none → w.claimHeld = false) ∧ w.stops = [] ∧
          (s.yard.held = [] → s.yard.queue.length < 4 → (∀ x ∈ s.yard.queue, x.visit ≠ some n) →
            t.yard.queue = s.yard.queue ++ [⟨.turnOut, some n, []⟩]) ∧
          (v.claimHeld = false → t.booking = s.booking) ∧
          ∀ ref, v.claimHeld = true → v.ref = some ref →
            t.booking = { s.booking with table := s.claimEnded n ref .available } ∧
            (s.outbox? .bookingStore = none → t.holdsFrame (.claimEnd ref .released))) ∧
        (s.bus.degraded = false → s.parkedInUse < 4 → ∃ t w, exec (.holdTimeoutExpiry n) s = .next t ∧
          t.visit? n = some w ∧ w.state = .exiting ∧ w.verdict = .park ∧ w.active = v.active ∧
          w.claimHeld = v.claimHeld ∧ t.booking = s.booking ∧ t.capacity = s.capacity ∧ t.yard.blocks = s.yard.blocks ∧
          w.stops = ((s.yard.blocks.find? (fun e => e.kind == .buffer)).map (·.ident)).toList ∧
          (s.yard.held = [] → s.yard.queue.length < 4 → (∀ x ∈ s.yard.queue, x.visit ≠ some n) →
            t.yard.queue = s.yard.queue ++ [⟨.buffer, some n, w.stops⟩])) ∧
        (s.bus.degraded = false → 4 ≤ s.parkedInUse → exec (.holdTimeoutExpiry n) s =
          .next (s.updVisit n (fun w => { w with timeoutRun := true }))))

/-- RELEASE: a clerk hold is released into the lane, its hold reasons overridden, an EARLY or LATE visit taking a forced grant, with
its stops, block counts and BLOCK_NOTEs, and PROCEED or INSPECT placed for it (that INSPECT names the inspection block alone is log
17); a parked visit is released likewise with no direction message, and closes with its place filled by its record and its claim
ended as USED, and its parked place goes to the oldest deferred timeout, which is given PARK; any other visit, an unknown one or
another lane's is counted as ignored (R36 to R39, R79, R87, R134 to R138, R141). -/
def Obligations.ReleaseActsByVisitState : Prop :=
  ∀ (s u : State) (f : RxFrame) (rest : List RxFrame) (lane : Byte) (n : VisitNumber),
    takeFirst .release s.bus.rx = some (f, rest) → u = s.handedOn f rest → clerkForm f.payload = some (lane, n) →
      (lane.toNat ≠ s.laneId.toNat ∨ s.visit? n = none ∨
          (∃ v, s.visit? n = some v ∧ v.isClerkHold = false ∧ v.state ≠ .parked) →
        exec .releaseFrame s = .next (u.count .framesIgnored)) ∧
      ∀ v, lane.toNat = s.laneId.toNat → s.visit? n = some v →
        (v.isClerkHold = true → ∃ t w, exec .releaseFrame s = .next t ∧ t.visit? n = some w ∧ w.state = .exiting ∧
          s.releaseWritten t v w ∧ w.claimHeld = v.claimHeld ∧ t.booking = s.booking ∧
          s.messagePlaced t n (if v.needsInspection then ⟨.inspect, some n, w.stops.take 1⟩
            else ⟨.proceed, some n, w.stops⟩) ∧
          (v.needsFlex = true → w.flex = if 0 < s.spare then .own else .forced) ∧
          ∀ m, m ≠ n → t.visit? m = s.visit? m) ∧
        (v.state = .parked → n ∈ s.outcome.reserved → s.visits.laneQueue.any (fun w => w.number == n) = false →
          ∃ t w r, exec .releaseFrame s = .next t ∧ s.releaseWritten t v w ∧ s.recordOf w r ∧
            t.visits.laneQueue.map (·.number) = s.visits.laneQueue.map (·.number) ∧
            t.visits.parked.map (·.number) = (s.visits.parked.map (·.number)).erase n ∧
            t.outcome.reserved = s.outcome.reserved.erase n ∧ t.outcome.filled = s.outcome.filled ++ [r] ∧
            s.parkedPlaceFreed t ∧ (v.claimHeld = false → t.booking = s.booking) ∧
            ∀ ref, v.claimHeld = true → v.ref = some ref →
              t.booking = { s.booking with table := u.claimEnded n ref .used } ∧
              (s.outbox? .bookingStore = none → t.holdsFrame (.claimEnd ref .used)))

/-- REFUSE: a clerk hold is refused, with no stop, and TURN_OUT placed for it; a parked visit closes with the verdict REFUSE, its place
filled by its record, with no direction message, and its parked place goes to the oldest deferred timeout, which is given PARK; each
ends its claim as RELEASED, the HERE record becoming OPEN or leaving the table; any other visit, an unknown one or another lane's is
counted as ignored (R36, R40, R79, R137, R141). -/
def Obligations.RefuseActsByVisitState : Prop :=
  ∀ (s u : State) (f : RxFrame) (rest : List RxFrame) (lane : Byte) (n : VisitNumber),
    takeFirst .refuse s.bus.rx = some (f, rest) → u = s.handedOn f rest → clerkForm f.payload = some (lane, n) →
      (lane.toNat ≠ s.laneId.toNat ∨ s.visit? n = none ∨
          (∃ v, s.visit? n = some v ∧ v.isClerkHold = false ∧ v.state ≠ .parked) →
        exec .refuseFrame s = .next (u.count .framesIgnored)) ∧
      ∀ v, lane.toNat = s.laneId.toNat → s.visit? n = some v →
        (v.isClerkHold = true → ∃ t w, exec .refuseFrame s = .next t ∧ t.visit? n = some w ∧
          w = { v with state := .exiting, verdict := .refuse, verdictStamp := some ⟨s.clock.window, s.clock.tenths⟩
                       timeoutRun := false, stops := [], claimHeld := w.claimHeld } ∧
          t.capacity = s.capacity ∧ t.yard.blocks = s.yard.blocks ∧ s.messagePlaced t n ⟨.turnOut, some n, []⟩ ∧
          (∀ m, m ≠ n → t.visit? m = s.visit? m) ∧
          (v.ref ≠ none → w.claimHeld = false) ∧ (v.claimHeld = false → t.booking = s.booking) ∧
          ∀ ref, v.claimHeld = true → v.ref = some ref →
            t.booking = { s.booking with table := u.claimEnded n ref .available } ∧
            (s.outbox? .bookingStore = none → t.holdsFrame (.claimEnd ref .released))) ∧
        (v.state = .parked → n ∈ s.outcome.reserved → s.visits.laneQueue.any (fun w => w.number == n) = false →
          ∃ t r, exec .refuseFrame s = .next t ∧
            s.recordOf { v with verdict := .refuse, verdictStamp := some ⟨s.clock.window, s.clock.tenths⟩ } r ∧
            t.visits.laneQueue.map (·.number) = s.visits.laneQueue.map (·.number) ∧
            t.visits.parked.map (·.number) = (s.visits.parked.map (·.number)).erase n ∧
            t.outcome.reserved = s.outcome.reserved.erase n ∧ t.outcome.filled = s.outcome.filled ++ [r] ∧
            t.capacity = s.capacity ∧ t.yard.blocks = s.yard.blocks ∧ s.parkedPlaceFreed t ∧
            (v.claimHeld = false → t.booking = s.booking) ∧
            ∀ ref, v.claimHeld = true → v.ref = some ref →
              t.booking = { s.booking with table := u.claimEnded n ref .available } ∧
              (s.outbox? .bookingStore = none → t.holdsFrame (.claimEnd ref .released)))

/-! ### The Reader Port -/

/-- PLATE, CODE and SEAL with a visit in the portal: a new report is written into its record, a plate by R53, a code by R55 and R56, a
seal by R57 and R102, and answered ACCEPT, which moves the expected toggle; a fourth seal is answered REJECT and changes nothing; a
repeat is answered ACCEPT and changes nothing (R48 to R50, R57). That a VALID code read again leaves its size class is log 45. -/
def Obligations.ReportAtThePortalAttaches : Prop :=
  ∀ (s : State) (c : Instr) (ch : Channel) (toggle : Bool) (r : Report), carriesReport c ch toggle r → s.alive = true →
    (¬ s.newOn ch toggle → exec c s = .next { s with out := .answer ch 0x01 :: s.out }) ∧
    ∀ v, s.newOn ch toggle → s.portal? = some v →
      ((v.attach r).isSome = true → exec c s = .next { s with
        visits := (s.updVisit v.number (fun w => (w.attach r).getD w)).visits
        reader := s.reader.put ch { s.channel ch with expected := !toggle, synced := true }
        out := .answer ch 0x01 :: s.out }) ∧
      (v.attach r = none → exec c s = .next { s with out := .answer ch 0x03 :: s.out }) ∧
      (v.refusesReport r → exec c s = .next { s with out := .answer ch 0x03 :: s.out }) ∧
      (¬ v.refusesReport r → ∃ t w, exec c s = .next t ∧ t.portal? = some w ∧ v.reportWritten w r ∧
        t.out = .answer ch 0x01 :: s.out)

/-- PLATE, CODE and SEAL with no visit in the portal: held for 3 s where a visit is in APPROACH and the channel's buffer is empty, BUSY
where it is not; with no visit in APPROACH an orphan, answered REJECT and counted, the expected toggle staying. A lane held in
reset, or with a strap fault, answers nothing (R6, R48, R49, R51, R52, R174). -/
def Obligations.ReportWithoutPortalIsHeldOrOrphan : Prop :=
  ∀ (s : State) (c : Instr) (ch : Channel) (toggle : Bool) (r : Report), carriesReport c ch toggle r →
    (s.alive = false → exec c s = .next s) ∧
    (s.alive = true → s.newOn ch toggle → s.portal? = none →
      (s.visits.laneQueue.any (fun v => v.state == .approach) = true → (s.channel ch).buffer = none →
        exec c s = .next { s with reader := s.reader.put ch ⟨!toggle, true, some r, .running 3000⟩
                                  out := .answer ch 0x01 :: s.out }) ∧
      (s.visits.laneQueue.any (fun v => v.state == .approach) = true → (s.channel ch).buffer ≠ none →
        exec c s = .next { s with out := .answer ch 0x02 :: s.out }) ∧
      (s.visits.laneQueue.any (fun v => v.state == .approach) = false →
        exec c s = .next { s.count .orphanReads with out := .answer ch 0x03 :: s.out }))

/-- A reader's HELLO sets the expected toggle to 0 and synchronises the channel, its buffer staying; a malformed report is answered
REJECT and changes nothing else; a held report that expires is discarded and counted (R46, R48, R49, R51). The model's choice: the
expiry of an empty holding buffer does nothing (log 2). -/
def Obligations.HelloMalformedAndExpiry : Prop :=
  (∀ (s : State) (ch : Channel), s.alive = true → exec (.helloReport ch) s =
    .next { s with reader := s.reader.put ch { s.channel ch with expected := false, synced := true }
                   out := .answer ch 0x01 :: s.out }) ∧
  (∀ (s : State) (ch : Channel) (msg : List Byte), s.alive = true → parseReaderMessage ch msg = none →
    exec (.malformedReport ch msg) s = .next { s with out := .answer ch 0x03 :: s.out }) ∧
  (∀ (s : State) (ch : Channel) (msg : List Byte), s.alive = false →
    exec (.helloReport ch) s = .next s ∧ exec (.malformedReport ch msg) s = .next s) ∧
  (∀ (s : State) (ch : Channel) (r : Report), (s.channel ch).buffer = some r → exec (.holdingBufferExpiry ch) s =
    .next (({ s with reader := s.reader.put ch { s.channel ch with buffer := none, expiry := .stopped } } : State).count
      .orphanReads)) ∧
  ∀ (s : State) (ch : Channel), (s.channel ch).buffer = none → exec (.holdingBufferExpiry ch) s = .next s

/-- ACCEPT with the send toggle in SENT ends the delivery: the head leaves the queue and a held message that may joins it, the
DISPLAY condition ends, the toggle flips, and the bytes of the next head go out with it; a final message settles the direction of
its visit, and the barrier is raised where that or an earlier end lets it. Any answer in another state or with the other toggle is
ignored (R58, R60, R142, R143, R145). The model's choice: where the oldest held message may not join, the oldest that may does
(mayJoin, log 18), and the busy count of an idle channel is 0 (log 40). -/
def Obligations.DisplayAcceptEndsTheDelivery : Prop :=
  (∀ (s : State) (toggle : Bool), s.reader.display.delivery ≠ .sent ∨ toggle ≠ s.reader.display.sendToggle →
    exec (.displayAccept toggle) s = .next s ∧ exec (.displayBusy toggle) s = .next s ∧
      exec (.displayReject toggle) s = .next s) ∧
  ∀ (s : State) (toggle : Bool) (m : Message) (q : List Message), s.displaySound → s.reader.display.delivery = .sent →
    toggle = s.reader.display.sendToggle → s.yard.queue = m :: q →
      ∃ t, exec (.displayAccept toggle) s = .next t ∧
        t = { s with visits := t.visits, yard := t.yard, reader := t.reader, out := t.out, line := t.line
                     outcome := t.outcome } ∧
        t.flag .display = ⟨(s.flag .display).isSet, false⟩ ∧ s.directionEnded t m (fun v => v) ∧
        t.yard.queue = q ++ (s.yard.held.find? (fun x => x.mayJoin q)).toList ∧
        t.yard.held = s.yard.held.eraseP (fun x => x.mayJoin q) ∧
        t.reader.display = (if t.yard.queue = [] then ⟨.idle, !toggle, 0, .stopped, .stopped⟩
          else ⟨.sent, !toggle, 0, .running 200, .stopped⟩) ∧
        t.out = (t.yard.queue.head?.map (fun x => .display (x.bytes (!toggle)))).toList ++ s.out

/-- BUSY, and the answer wait running out, raise the busy count: below five the message waits 200 ms and is sent again with the same
toggle; the fifth, and a REJECT, give the message up, which latches DISPLAY, sends the next head with the toggle flipped, and gives
the visit it concerns DISPLAY_UNCONFIRMED while that has not closed; the end acts on the direction and the barrier as an accepted
one does (R59, R143, R145). The model's choice: the held message that then joins is the oldest that may (mayJoin, log 18), a stopped
answer wait or retry wait running out does nothing (log 2), and the busy count of an idle channel is 0 (log 40). -/
def Obligations.DisplayBusyRetriesAndGivesUp : Prop :=
  (∀ s : State, s.reader.display.delivery = .sent → s.reader.display.busyCount + 1 < 5 →
    (∀ t, t = { s with reader := { s.reader with display := ⟨.retryWait, s.reader.display.sendToggle,
        s.reader.display.busyCount + 1, .stopped, .running 200⟩ } } →
      exec (.displayBusy s.reader.display.sendToggle) s = .next t ∧
        (s.reader.display.answerWait.isRunning = true → exec .answerWaitExpiry s = .next t))) ∧
  (∀ (s : State) (m : Message) (q : List Message), s.yard.queue = m :: q →
    s.reader.display.retryWait.isRunning = true → exec .retryWaitExpiry s =
      .next { s with reader := { s.reader with display := ⟨.sent, s.reader.display.sendToggle,
                       s.reader.display.busyCount, .running 200, .stopped⟩ }
                     out := .display (m.bytes s.reader.display.sendToggle) :: s.out }) ∧
  (∀ s : State, (s.reader.display.retryWait.isRunning = false → exec .retryWaitExpiry s = .next s) ∧
    (s.reader.display.answerWait.isRunning = false → exec .answerWaitExpiry s = .next s)) ∧
  ∀ (s : State) (c : Instr) (m : Message) (q : List Message), s.displaySound → s.reader.display.delivery = .sent →
    s.yard.queue = m :: q →
      (c = .displayReject s.reader.display.sendToggle ∨
        (4 ≤ s.reader.display.busyCount ∧ (c = .displayBusy s.reader.display.sendToggle ∨ c = .answerWaitExpiry))) →
        ∃ t, exec c s = .next t ∧ t.flag .display = ⟨true, true⟩ ∧
          (∀ n v, m.visit = some n → s.visit? n = some v →
            ∃ w, t.visit? n = some w ∧ w.given .displayUnconfirmed ∧ w.state = v.state ∧ w.verdict = v.verdict) ∧
          s.directionEnded t m (Visit.addReason .displayUnconfirmed) ∧
          t.yard.queue = q ++ (s.yard.held.find? (fun x => x.mayJoin q)).toList ∧
          t.yard.held = s.yard.held.eraseP (fun x => x.mayJoin q) ∧
          t.reader.display = (if t.yard.queue = [] then ⟨.idle, !s.reader.display.sendToggle, 0, .stopped, .stopped⟩
            else ⟨.sent, !s.reader.display.sendToggle, 0, .running 200, .stopped⟩) ∧
          t.out = (t.yard.queue.head?.map (fun x => .display (x.bytes (!s.reader.display.sendToggle)))).toList ++ s.out

/-- The display's HELLO sets the send toggle to 0 and sends an outstanding message afresh; a byte that is no answer is ignored (R60,
R173; that a usable byte is taken as what it is, is log 24). -/
def Obligations.DisplayHelloAndUnusableBytes : Prop :=
  (∀ s : State, s.reader.display.delivery = .idle → exec .displayHello s =
    .next { s with reader := { s.reader with display := { s.reader.display with sendToggle := false } } }) ∧
  (∀ (s : State) (m : Message) (q : List Message), s.reader.display.delivery ≠ .idle → s.yard.queue = m :: q →
    exec .displayHello s =
      .next { s with reader := { s.reader with display := ⟨.sent, false, 0, .running 200, .stopped⟩ }
                     out := .display (m.bytes false) :: s.out }) ∧
  (∀ (s : State) (b : Byte), b ≠ 0x0F → b.toNat % 128 = 0 ∨ 3 < b.toNat % 128 →
    exec (.displayUnusableAnswer b) s = .next s) ∧
  ∀ s : State, exec (.displayUnusableAnswer 0x0F) s = exec .displayHello s

/-! ### The Yard Routing Unit -/

/-- BLOCK_NOTE for the current window raises the count of the STACK block it names, up to 255, and of no other entry; for another
window, or before there is one, it is ignored (R139). -/
def Obligations.BlockNoteCountsAtThePeers : Prop :=
  ∀ (s u : State) (f : RxFrame) (rest : List RxFrame) (b : Text) (w : Window),
    takeFirst .blockNote s.bus.rx = some (f, rest) → u = s.handedOn f rest → noteForm f.payload = some (b, w) →
      (s.yard.window = some w → exec .blockNoteFrame s = .next { u with yard := { u.yard with
        blocks := u.yard.blocks.map (fun e =>
          if e.ident = b ∧ e.kind = .stack then { e with count := min 255 (e.count + 1) } else e) } }) ∧
      (s.yard.window ≠ some w → exec .blockNoteFrame s = .next u)

/-- The up check running out in RAISING latches BARRIER and moves nothing; the settle time running out in SETTLING lowers the barrier
state, latching BARRIER where BAR_UP is still up, and raises at once for an oldest visit that is EXITING and settled, BAR_UP still up
being seen up at once (R145 to R148). The model's choice: a stopped up check or settle time running out does nothing (log 2). -/
def Obligations.UpCheckAndSettleTimeRunOut : Prop :=
  (∀ s : State, s.yard.upCheck.isRunning = true → s.yard.barrier = .raising →
    ∃ t, exec .upCheckExpiry s = .next t ∧
      ({ s with yard := { s.yard with upCheck := .stopped } } : State).sameButAlerts t ∧
      t.flag .barrier = ⟨true, s.level .barUp != s.line.raiseOut⟩) ∧
  (∀ s : State, (s.yard.upCheck.isRunning = false → exec .upCheckExpiry s = .next s) ∧
    (s.yard.settle.isRunning = false → exec .settleTimeExpiry s = .next s)) ∧
  (∀ s : State, s.yard.settle.isRunning = true → s.yard.barrier = .settling →
    (∀ v ∈ s.visits.laneQueue.head?, v.state ≠ .exiting ∨ v.settled = false) →
      ∃ t, exec .settleTimeExpiry s = .next t ∧
        ({ s with yard := { s.yard with barrier := .lowered, settle := .stopped } } : State).sameButAlerts t ∧
        (s.level .barUp = true → (t.flag .barrier).isSet = true) ∧
        (s.level .barUp = false → t.outcome = s.outcome ∧ t.bus = s.bus)) ∧
  (∀ (s : State) (v : Visit) (vs : List Visit), s.yard.settle.isRunning = true → s.yard.barrier = .settling →
    s.visits.laneQueue = v :: vs → v.state = .exiting → v.settled = true → s.level .barUp = false →
      ∃ t, exec .settleTimeExpiry s = .next t ∧ t.line = { s.line with raiseOut := true } ∧
        t.yard = { s.yard with barrier := .raising, raiseVisit := some v.number, upCheck := .running 4000
                               settle := .stopped }) ∧
  ∀ (s : State) (v : Visit) (vs : List Visit), s.yard.settle.isRunning = true → s.yard.barrier = .settling →
    s.visits.laneQueue = v :: vs → v.state = .exiting → v.settled = true → s.level .barUp = true →
      ∃ t, exec .settleTimeExpiry s = .next t ∧ t.raisedFor v.number ∧ t.flag .barrier = ⟨true, false⟩ ∧
        t.line = { s.line with raiseOut := true } ∧
        t.yard = { s.yard with barrier := .raised, raiseVisit := some v.number, upCheck := .stopped, settle := .stopped }

/-! ### The Booking Store -/

/-- BOOKING: malformed, before the first roll notice, too far ahead or already expired, it is counted as ignored (R64, R65). A new
reference goes, in state OPEN with the frame's plate, booked window and moves, into the lowest-numbered empty place, whatever its
reissue flag (R66); with the table full, the OPEN record farthest ahead, in the lowest-numbered place among equals, gives it its place
if its window is the later, else the frame is dropped, and BOOKINGS_DROPPED counts one either way (R67). A reference in the table is
replaced in its place, or refused and counted in UPDATES_REFUSED, by the record's state and the reissue flag (R68). -/
def Obligations.NewBookingTakesTheLowestPlace : Prop :=
  ∀ (s u : State) (f : RxFrame) (rest : List RxFrame), takeFirst .booking s.bus.rx = some (f, rest) → u = s.handedOn f rest →
    (bookingForm f.payload = none → exec .bookingFrame s = .next (u.count .framesIgnored)) ∧
    ∀ b, bookingForm f.payload = some b →
      (s.booking.window = none → exec .bookingFrame s = .next (u.count .framesIgnored)) ∧
      ∀ w, s.booking.window = some w →
        (8 < winDist w b.window ∨ bookingExpired s.general w b.window = true →
          exec .bookingFrame s = .next (u.count .framesIgnored)) ∧
        ∀ r : Booking, winDist w b.window ≤ 8 → bookingExpired s.general w b.window = false →
          r = ⟨b.ref, b.plate, b.window, b.moves, .available⟩ →
            (∀ before after, s.booking? b.ref = none → s.booking.table = before ++ none :: after → none ∉ before →
              exec .bookingFrame s = .next { u with booking := { u.booking with table := before ++ some r :: after } }) ∧
            (s.booking? b.ref = none → none ∉ s.booking.table →
              ((∀ x, some x ∈ s.booking.table → x.state ≠ .available) →
                exec .bookingFrame s = .next (u.count .bookingsDropped)) ∧
              ∀ before c after, s.bookingsSound → s.booking.table = before ++ some c :: after → c.state = .available →
                (∀ x, some x ∈ before → x.state = .available → winDist w x.window < winDist w c.window) →
                (∀ x, some x ∈ after → x.state = .available → winDist w x.window ≤ winDist w c.window) →
                  (0 < winDist b.window c.window → exec .bookingFrame s = .next (({ u with booking := { u.booking with
                    table := before ++ some r :: after } } : State).count .bookingsDropped)) ∧
                  (winDist b.window c.window ≤ 0 → exec .bookingFrame s = .next (u.count .bookingsDropped))) ∧
            ∀ o, s.booking? b.ref = some o →
              (o.state = .available ∨ o.state = .cancelled ∨
                  (b.reissue = true ∧ (o.state = .used ∨ ∃ k p, o.state = .elsewhere k p)) →
                exec .bookingFrame s = .next { u with booking := { u.booking with
                  table := s.booking.table.map (fun x => x.map (fun q => if q.ref = b.ref then r else q)) } }) ∧
              ((∃ p n, o.state = .here p n) ∨
                  (b.reissue = false ∧ (o.state = .used ∨ ∃ k p, o.state = .elsewhere k p)) →
                exec .bookingFrame s = .next (u.count .updatesRefused))

/-- BOOKING_CANCEL: an OPEN or ELSEWHERE record becomes CANCELLED; so does a HERE one, whose holder loses its claim and is told; USED,
CANCELLED and unknown references change nothing (R28, R69); a malformed frame is counted as ignored (R64). -/
def Obligations.BookingCancelByRecordState : Prop :=
  ∀ (s u : State) (f : RxFrame) (rest : List RxFrame),
    takeFirst .bookingCancel s.bus.rx = some (f, rest) → u = s.handedOn f rest →
      (cancelForm f.payload = none → exec .bookingCancelFrame s = .next (u.count .framesIgnored)) ∧
      ∀ ref, cancelForm f.payload = some ref →
      (s.booking? ref = none → exec .bookingCancelFrame s = .next u) ∧
      ∀ b, s.booking? ref = some b →
        ∀ table, table = s.booking.table.map (fun o => o.map (fun r =>
            if r.ref = ref then { r with state := .cancelled } else r)) →
          (b.state = .used ∨ b.state = .cancelled → exec .bookingCancelFrame s = .next u) ∧
          (b.state = .available ∨ (∃ c k, b.state = .elsewhere c k) → exec .bookingCancelFrame s =
            .next { u with booking := { u.booking with table := table } }) ∧
          ∀ k n v, b.state = .here k n → s.visit? n = some v →
            ∃ t w, exec .bookingCancelFrame s = .next t ∧
              t = { u with booking := { u.booking with table := table }, visits := t.visits } ∧
              t.visit? n = some w ∧ w.claimHeld = false ∧ w.state = v.state ∧ w.verdict = v.verdict ∧
              (v.state = .toStop → w = ({ v with claimHeld := false } : Visit).addReason .bookingCancelled) ∧
              (v.state = .hold ∨ v.state = .awaitLoan ∨ v.state = .exiting ∨ v.state = .parked →
                w = ({ v with claimHeld := false } : Visit).addOutcomeNote .bookingCancelled)

/-- CLAIM from a peer: an OPEN record goes ELSEWHERE; an ELSEWHERE one follows its claimant, or an earlier claim; a HERE one is lost to
an earlier claim, the holder gaining DUPLICATE, and kept against a later one (against one exactly 128 windows away: log 44). A holder
in AWAIT_LOAN leaves the Loan Wait List for a clerk hold; where it was the oldest its Ask is withdrawn and the next is taken (R28, R88,
R94). CLAIM_END: only the claimant of an ELSEWHERE record ends its claim (R76 to R78, R80). A malformed CLAIM_END is counted as ignored
(R80), a malformed CLAIM is ignored without a count; that an ill-formed reference makes either malformed is the model's reading
(log 11). -/
def Obligations.PeerClaimsByRecordState : Prop :=
  (∀ (s u : State) (f : RxFrame) (rest : List RxFrame), takeFirst .claim s.bus.rx = some (f, rest) →
    u = s.handedOn f rest →
      (claimForm f.payload = none → exec .claimFrame s = .next u) ∧
      ∀ (ref : Text) (key : GatePoint), claimForm f.payload = some (ref, key) →
        ∀ table, table = s.booking.table.map (fun o => o.map (fun r =>
          if r.ref = ref then { r with state := .elsewhere f.source key } else r)) →
        (s.booking? ref = none → exec .claimFrame s = .next u) ∧
        ∀ b, s.booking? ref = some b →
          (b.state = .used ∨ b.state = .cancelled → exec .claimFrame s = .next u) ∧
          (b.state = .available → exec .claimFrame s = .next { u with booking := { u.booking with table := table } }) ∧
          (∀ c k, b.state = .elsewhere c k →
            (c = f.source ∨ claimEarlier key f.source k c = true → exec .claimFrame s =
              .next { u with booking := { u.booking with table := table } }) ∧
            (c ≠ f.source → claimEarlier key f.source k c = false → exec .claimFrame s = .next u)) ∧
          ∀ k n, b.state = .here k n →
            (claimEarlier key f.source k s.laneId = false → exec .claimFrame s = .next u) ∧
            (claimEarlier key f.source k s.laneId = true → ∀ v, s.visit? n = some v →
              ∃ t w, exec .claimFrame s = .next t ∧ t.booking = { u.booking with table := table } ∧
                t.visit? n = some w ∧ w.claimHeld = false ∧
                (v.state = .toStop ∨ v.state = .hold → w = ({ v with claimHeld := false } : Visit).addReason .duplicate) ∧
                (v.state = .exiting ∨ v.state = .parked →
                  w = ({ v with claimHeld := false } : Visit).addOutcomeNote .duplicate) ∧
                (v.state = .awaitLoan → s.capacity.waitList.Nodup →
                  w = { ({ v with claimHeld := false } : Visit).addReason .duplicate with
                    state := .hold, verdict := .hold, holdStart := some ⟨s.clock.window, s.clock.tenths⟩
                    timeoutRun := false } ∧
                  (s.capacity.waitList.head? ≠ some n → t.capacity = { s.capacity with
                    waitList := s.capacity.waitList.filter (fun m => m ≠ n) }) ∧
                  ∀ ns q, s.capacity.waitList = n :: ns → s.capacity.quota = some q → s.waitersTaken t ns .own q))) ∧
  ∀ (s u : State) (f : RxFrame) (rest : List RxFrame), takeFirst .claimEnd s.bus.rx = some (f, rest) →
    u = s.handedOn f rest →
      (claimEndForm f.payload = none → exec .claimEndFrame s = .next (u.count .framesIgnored)) ∧
      ∀ (ref : Text) (r : ClaimResult), claimEndForm f.payload = some (ref, r) →
        exec .claimEndFrame s = .next { u with booking := { u.booking with
        table := s.booking.table.map (fun o => o.bind (fun b =>
          match b.state with
          | .elsewhere c _ =>
            if b.ref = ref ∧ c = f.source then
              (match s.booking.window with
                | some w => if bookingExpired s.general w b.window then none
                  else some { b with state := if r = .used then .used else .available }
                | none => some { b with state := if r = .used then .used else .available })
            else some b
          | _ => some b)) } }

/-! ### The Capacity Unit -/

/-- The lender: LOAN_ASK makes an Offer of one unit where the window is current, the spare is above the reserve and fewer than four
Offers live; LOAN_TAKE confirms a live Offer and voids any other; LOAN_DECLINE removes its Offer and OFFER_EXPIRY the oldest, and
the unit comes back, to the spare or, with visits waiting for a loan, to the oldest of them, the Ask made for it being withdrawn and
one opened for the next (R86, R94 to R97). The model's choice: the row names no Offer, and the oldest runs out first (log 30); with
no Offer live the expiry does nothing (log 2); no test holds lent below 16 (log 41); of equal live Offers the oldest goes (log 46). -/
def Obligations.LenderOffersConfirmsAndReturns : Prop :=
  (∀ (s u : State) (f : RxFrame) (rest : List RxFrame) (w : Window) (n : Byte),
    takeFirst .loanAsk s.bus.rx = some (f, rest) → u = s.handedOn f rest → loanForm f.payload = some (w, n) →
      (∀ q, s.capacity.quota = some q →
        (q.window = w → s.general.reserve < q.share + q.borrowed - q.lent - q.used → s.capacity.offers.length < 4 →
          exec .loanAskFrame s = .next (({ u with capacity := { u.capacity with
              quota := some { q with lent := q.lent + 1 }
              offers := s.capacity.offers ++ [⟨f.source, n, w, .running 1000⟩] } } : State).handClass0 .capacityUnit
            (.loanOffer f.source w n))) ∧
        (q.window ≠ w ∨ q.share + q.borrowed - q.lent - q.used ≤ s.general.reserve ∨ 4 ≤ s.capacity.offers.length →
          exec .loanAskFrame s = .next u)) ∧
      (s.capacity.quota = none → exec .loanAskFrame s = .next u)) ∧
  (∀ (s u : State) (f : RxFrame) (rest : List RxFrame) (w : Window) (n : Byte),
    takeFirst .loanTake s.bus.rx = some (f, rest) → u = s.handedOn f rest → loanForm f.payload = some (w, n) →
      (∀ before o after, s.capacity.offers = before ++ o :: after → o.isFor f.source w n = true →
        (∀ x ∈ before, x.isFor f.source w n = false) → exec .loanTakeFrame s =
          .next (({ u with capacity := { u.capacity with offers := before ++ after } } : State).handClass0 .capacityUnit
            (.loanConfirm f.source w n))) ∧
      ((∀ x ∈ s.capacity.offers, x.isFor f.source w n = false) → exec .loanTakeFrame s =
        .next (u.handClass0 .capacityUnit (.loanVoid f.source w n)))) ∧
  (∀ (s u : State) (f : RxFrame) (rest : List RxFrame) (w : Window) (n : Byte),
    takeFirst .loanDecline s.bus.rx = some (f, rest) → u = s.handedOn f rest → loanForm f.payload = some (w, n) →
      (∀ before o after, s.capacity.offers = before ++ o :: after → o.isFor f.source w n = true →
        (∀ x ∈ before, x.isFor f.source w n = false) →
          ∃ t, exec .loanDeclineFrame s = .next t ∧ t.capacity.offers = before ++ after ∧
            (s.capacity.waitList = [] → t = { u with capacity := { u.capacity with
              quota := s.capacity.quota.map (fun q => { q with lent := q.lent - 1 }), offers := before ++ after } }) ∧
            ∀ q, s.capacity.quota = some q → s.quotaSound → s.capacity.waitList ≠ [] → s.capacity.waitList.Nodup →
              s.waitersTaken t s.capacity.waitList .own { q with lent := q.lent - 1 }) ∧
      ((∀ x ∈ s.capacity.offers, x.isFor f.source w n = false) → exec .loanDeclineFrame s = .next u)) ∧
  (∀ (s : State) (o : Offer) (os : List Offer), s.capacity.offers = o :: os →
    ∃ t, exec .offerExpiry s = .next t ∧ t.capacity.offers = os ∧
      (s.capacity.waitList = [] → t = { s with capacity := { s.capacity with
        quota := s.capacity.quota.map (fun q => { q with lent := q.lent - 1 }), offers := os } }) ∧
      ∀ q, s.capacity.quota = some q → s.quotaSound → s.capacity.waitList ≠ [] → s.capacity.waitList.Nodup →
        s.waitersTaken t s.capacity.waitList .own { q with lent := q.lent - 1 }) ∧
  ∀ s : State, s.capacity.offers = [] → exec .offerExpiry s = .next s

/-- The asker: the first LOAN_OFFER for an Ask that is ASKING is answered LOAN_TAKE and kept as outstanding, every other
LOAN_DECLINE; LOAN_CONFIRM gives the borrowed unit to the oldest visit that waits, which is admitted, or late joins it to the spare,
where it serves a visit that waits; LOAN_VOID from the offerer and the deadline give the oldest visit NO_CAPACITY and a clerk hold,
and the next visit is then taken: an Ask for it, or NO_CAPACITY (R86, R90 to R94). A unit that would be the sixteenth borrowed is
not taken: FRAMES_IGNORED counts one, and an open Ask it was for has failed (R92). The model's choice: with no Ask open the deadline
running out does nothing (log 2), and of equal outstanding TAKEs the oldest goes (log 47). -/
def Obligations.AskerTakesConfirmsAndFails : Prop :=
  (∀ (s u : State) (f : RxFrame) (rest : List RxFrame) (w : Window) (n : Byte),
    takeFirst .loanOffer s.bus.rx = some (f, rest) → u = s.handedOn f rest → loanForm f.payload = some (w, n) →
      (∀ a, s.capacity.ask = some a → a.state = .asking → a.window = w → a.number = n → exec .loanOfferFrame s =
        .next (({ u with capacity := { u.capacity with
            ask := some { a with state := .taking f.source }
            takes := (if s.capacity.takes.length < 4 then s.capacity.takes else s.capacity.takes.tail)
              ++ [⟨f.source, w, n⟩] } } : State).handClass0 .capacityUnit (.loanTake f.source w n))) ∧
      ((∀ a, s.capacity.ask = some a → a.state ≠ .asking ∨ a.window ≠ w ∨ a.number ≠ n) → exec .loanOfferFrame s =
        .next (u.handClass0 .capacityUnit (.loanDecline f.source w n)))) ∧
  (∀ (s u : State) (f : RxFrame) (rest : List RxFrame) (w : Window) (n : Byte) (q : Quota),
    takeFirst .loanConfirm s.bus.rx = some (f, rest) → u = s.handedOn f rest → loanForm f.payload = some (w, n) →
      s.capacity.quota = some q → q.borrowed < 15 →
        (∀ a m v, s.capacity.ask = some a → a.state = .taking f.source → a.window = w → a.number = n →
          s.capacity.waitList = [m] → s.visit? m = some v →
            ∃ t x, exec .loanConfirmFrame s = .next t ∧
              t.capacity = { s.capacity with
                quota := some { q with borrowed := q.borrowed + 1, used := q.used + 1 }, ask := none, waitList := []
                takes := s.capacity.takes.erase ⟨f.source, w, n⟩ } ∧
              t.visit? m = some x ∧ x.flex = .borrowed ∧ x.state = .exiting ∧
              x.verdict = (if v.needsInspection then .admitInspect else .admitted)) ∧
        (∀ a m ms v, s.capacity.ask = some a → a.state = .taking f.source → a.window = w → a.number = n →
          s.capacity.waitList = m :: ms → (m :: ms).Nodup → s.visit? m = some v →
            ∃ t x, exec .loanConfirmFrame s = .next t ∧ t.visit? m = some x ∧ x.flex = .borrowed ∧ x.state = .exiting ∧
              x.verdict = (if v.needsInspection then .admitInspect else .admitted) ∧
              t.capacity.takes = s.capacity.takes.erase ⟨f.source, w, n⟩ ∧ t.capacity.offers = s.capacity.offers ∧
              t.booking = s.booking ∧ (∀ i, i ∉ s.capacity.waitList → t.visit? i = s.visit? i) ∧
              s.waitersTaken t ms .borrowed { q with borrowed := q.borrowed + 1, used := q.used + 1 }) ∧
        ((∀ a, s.capacity.ask = some a → a.state ≠ .taking f.source ∨ a.window ≠ w ∨ a.number ≠ n) →
          ((⟨f.source, w, n⟩ : Take) ∈ s.capacity.takes → s.quotaSound → s.capacity.waitList ≠ [] →
            s.capacity.waitList.Nodup → ∃ t, exec .loanConfirmFrame s = .next t ∧
              t.capacity.takes = s.capacity.takes.erase ⟨f.source, w, n⟩ ∧ t.capacity.offers = s.capacity.offers ∧
              t.booking = s.booking ∧ (∀ i, i ∉ s.capacity.waitList → t.visit? i = s.visit? i) ∧
              s.waitersTaken t s.capacity.waitList .borrowed { q with borrowed := q.borrowed + 1 }) ∧
          ((⟨f.source, w, n⟩ : Take) ∉ s.capacity.takes → exec .loanConfirmFrame s = .next u) ∧
          ((⟨f.source, w, n⟩ : Take) ∈ s.capacity.takes → s.capacity.waitList = [] → exec .loanConfirmFrame s =
            .next { u with capacity := { u.capacity with
              quota := some { q with borrowed := q.borrowed + 1 }
              takes := s.capacity.takes.erase ⟨f.source, w, n⟩ } }))) ∧
  (∀ (s u : State) (f : RxFrame) (rest : List RxFrame) (w : Window) (n : Byte) (q : Quota),
    takeFirst .loanConfirm s.bus.rx = some (f, rest) → u = s.handedOn f rest → loanForm f.payload = some (w, n) →
      s.capacity.quota = some q → 15 ≤ q.borrowed →
        (∀ a m ms v, s.capacity.ask = some a → a.state = .taking f.source → a.window = w → a.number = n →
          s.capacity.waitList = m :: ms → (m :: ms).Nodup → s.visit? m = some v →
            ∃ t x, exec .loanConfirmFrame s = .next t ∧
              ((∀ e ∈ s.bus.txQueue, e.frame.kind ≠ .counters) →
                t.outcome.counters.framesIgnored = min 255 (s.outcome.counters.framesIgnored + 1)) ∧
              t.visit? m = some x ∧ x.state = .hold ∧ x.verdict = .hold ∧ x.given .noCapacity ∧
              t.capacity.takes = s.capacity.takes.erase ⟨f.source, w, n⟩ ∧ t.capacity.offers = s.capacity.offers ∧
              t.booking = s.booking ∧ (∀ i, i ∉ s.capacity.waitList → t.visit? i = s.visit? i) ∧
              s.waitersTaken t ms .own q) ∧
        ((∀ a, s.capacity.ask = some a → a.state ≠ .taking f.source ∨ a.window ≠ w ∨ a.number ≠ n) →
          ((⟨f.source, w, n⟩ : Take) ∉ s.capacity.takes → exec .loanConfirmFrame s = .next u) ∧
          ((⟨f.source, w, n⟩ : Take) ∈ s.capacity.takes → exec .loanConfirmFrame s =
            .next (({ u with capacity := { u.capacity with
              takes := s.capacity.takes.erase ⟨f.source, w, n⟩ } } : State).count .framesIgnored)))) ∧
  (∀ (s u : State) (f : RxFrame) (rest : List RxFrame) (w : Window) (n : Byte),
    takeFirst .loanVoid s.bus.rx = some (f, rest) → u = s.handedOn f rest → loanForm f.payload = some (w, n) →
      (∀ a m v, s.capacity.ask = some a → a.state = .taking f.source → a.window = w → a.number = n →
        s.capacity.waitList = [m] → s.visit? m = some v →
          ∃ t x, exec .loanVoidFrame s = .next t ∧
            t.capacity = { s.capacity with ask := none, waitList := []
                                           takes := s.capacity.takes.erase ⟨f.source, w, n⟩ } ∧
            t.visit? m = some x ∧ x.state = .hold ∧ x.verdict = .hold ∧
            (.noCapacity ∈ x.active ∨ .noCapacity ∈ x.overridden)) ∧
      (∀ a m ms v q, s.capacity.ask = some a → a.state = .taking f.source → a.window = w → a.number = n →
        s.capacity.waitList = m :: ms → (m :: ms).Nodup → s.visit? m = some v → s.capacity.quota = some q →
          ∃ t x, exec .loanVoidFrame s = .next t ∧ t.visit? m = some x ∧ x.state = .hold ∧ x.verdict = .hold ∧
            x.given .noCapacity ∧ t.capacity.takes = s.capacity.takes.erase ⟨f.source, w, n⟩ ∧
            t.capacity.offers = s.capacity.offers ∧ t.booking = s.booking ∧
            (∀ i, i ∉ s.capacity.waitList → t.visit? i = s.visit? i) ∧ s.waitersTaken t ms .own q) ∧
      ((∀ a, s.capacity.ask = some a → a.state ≠ .taking f.source ∨ a.window ≠ w ∨ a.number ≠ n) →
        exec .loanVoidFrame s = .next { u with capacity := { u.capacity with
          takes := s.capacity.takes.erase ⟨f.source, w, n⟩ } })) ∧
  (∀ (s : State) (a : Ask) (m : VisitNumber) (v : Visit), s.capacity.ask = some a → a.deadline.isRunning = true →
    s.capacity.waitList = [m] → s.visit? m = some v →
      ∃ t x, exec .askDeadlineExpiry s = .next t ∧ t.capacity = { s.capacity with ask := none, waitList := [] } ∧
        t.visit? m = some x ∧ x.state = .hold ∧ x.verdict = .hold ∧
        (.noCapacity ∈ x.active ∨ .noCapacity ∈ x.overridden)) ∧
  (∀ (s : State) (a : Ask) (m : VisitNumber) (ms : List VisitNumber) (v : Visit) (q : Quota),
    s.capacity.ask = some a → a.deadline.isRunning = true → s.capacity.waitList = m :: ms → (m :: ms).Nodup →
      s.visit? m = some v → s.capacity.quota = some q →
        ∃ t x, exec .askDeadlineExpiry s = .next t ∧ t.visit? m = some x ∧ x.state = .hold ∧ x.verdict = .hold ∧
          x.given .noCapacity ∧ t.capacity.takes = s.capacity.takes ∧ t.capacity.offers = s.capacity.offers ∧
          t.booking = s.booking ∧ (∀ i, i ∉ s.capacity.waitList → t.visit? i = s.visit? i) ∧ s.waitersTaken t ms .own q) ∧
  ∀ s : State, s.capacity.ask = none → exec .askDeadlineExpiry s = .next s

/-! ### The Survey Unit -/

/-- CONVERTER_SAMPLE while a pass is open: the sample joins the reading of the zone being swept; the last sample of a reading moves the
converter to the next enabled zone and gives the zone an invalid reading, where a sample was outside 8 to 4087, or the distance of the
zone's offset plus half the rounded mean. With no pass open nothing is sampled (R117 to R119). -/
def Obligations.ConverterSampleBuildsReadings : Prop :=
  (∀ (s : State) (raw : BitVec 12), s.survey.pass = none → exec (.converterSample raw) s = .next s) ∧
  ∀ (s : State) (raw : BitVec 12) (p : Pass) (z : Nat) (bad : Bool), s.survey.pass = some p → p.zone = some z →
    bad = (p.spoilt || !(decide (8 ≤ raw.toNat) && decide (raw.toNat ≤ 4087))) →
      (p.taken + 1 < s.general.samplesPerReading → exec (.converterSample raw) s =
        .next { s with survey := { s.survey with
          pass := some { p with taken := p.taken + 1, sum := p.sum + raw.toNat, spoilt := bad } } }) ∧
      (s.general.samplesPerReading ≤ p.taken + 1 → ∀ e d, s.zones[z]? = some e → p.data[z]? = some d →
        ∃ p', exec (.converterSample raw) s = .next { s with survey := { s.survey with pass := some p' } } ∧
          p'.visit = p.visit ∧ p'.target = p.target ∧ p'.zone = nextZone s.zones z ∧ p'.taken = 0 ∧ p'.sum = 0 ∧
          p'.spoilt = false ∧ (∀ j, j ≠ z → p'.data[j]? = p.data[j]?) ∧
          (bad = true → p'.data[z]? = some { d with invalid := min 255 (d.invalid + 1) }) ∧
          (bad = false → ∀ dist, dist = e.offset +
              (p.sum + raw.toNat + s.general.samplesPerReading / 2) / s.general.samplesPerReading / 2 →
            p'.data[z]? = some ⟨some (match d.dmin with | some m => min m dist | none => dist),
              some (match d.dmax with | some m => max m dist | none => dist), min 255 (d.valid + 1), d.invalid⟩))

/-! ### The Outcome and Alert Unit -/

/-- ALERT_CLEAR clears each flag it names that is set with its condition ended, all as one change of the flag set; a flag whose
condition stands stays, and a frame that clears nothing changes nothing (R158). -/
def Obligations.AlertClearClearsEndedFlags : Prop :=
  ∀ (s u : State) (f : RxFrame) (rest : List RxFrame) (set : BitVec 16),
    takeFirst .alertClear s.bus.rx = some (f, rest) → u = s.handedOn f rest → flagSetForm f.payload = some set →
      ((∀ a : AlertFlag, set.getLsbD a.bit = false ∨ (s.flag a).isSet = false ∨ (s.flag a).standing = true) →
        exec .alertClearFrame s = .next u) ∧
      ∀ a0 : AlertFlag, set.getLsbD a0.bit = true → (s.flag a0).isSet = true → (s.flag a0).standing = false →
        ∃ flags, (∀ a : AlertFlag, flags.get a =
            if set.getLsbD a.bit = true ∧ (s.flag a).isSet = true ∧ (s.flag a).standing = false then ⟨false, false⟩
            else s.flag a) ∧
          exec .alertClearFrame s =
            .next (({ u with outcome := { u.outcome with flags := flags } } : State).flagSetChanged)

/-- COUNTERS_FETCH puts the ten values into a COUNTERS frame and sets every counter to 0, which ends the BUS condition; on a full
Transmit Queue the values are added back, and BUS latches where CRC_ERRORS is then 32 or more (R160). -/
def Obligations.CountersFetchEmptiesTheCounters : Prop :=
  ∀ (s u : State) (f : RxFrame) (rest : List RxFrame),
    takeFirst .countersFetch s.bus.rx = some (f, rest) → u = s.handedOn f rest →
      (s.bus.txQueue.length < 8 → exec .countersFetchFrame s =
        .next { u with outcome := { u.outcome with
                         counters := ⟨0, 0, 0, 0, 0, 0, 0, 0, 0, 0⟩
                         flags := s.outcome.flags.put .bus ⟨(s.flag .bus).isSet, false⟩ }
                       bus := { u.bus with
                         txQueue := insertFrame ⟨.counters s.outcome.counters, false⟩ s.bus.txQueue } }) ∧
      (8 ≤ s.bus.txQueue.length →
        ∃ t, exec .countersFetchFrame s = .next t ∧ u.sameButAlerts { t with outcome := { t.outcome with
              counters := s.outcome.counters } } ∧
          (∀ k, t.outcome.counters.get k = min 255 (s.outcome.counters.get k)) ∧
          (s.outcome.counters.crcErrors < 32 → t.flag .bus = ⟨(s.flag .bus).isSet, false⟩) ∧
          (32 ≤ s.outcome.counters.crcErrors → t.flag .bus = ⟨true, true⟩))

/-- The silences: OFFICE_SILENCE_EXPIRY begins degraded mode and latches GATEWAY_SILENT; ID_CLASH_TIMER_EXPIRY ends the ID_CLASH
condition; PEER_SILENCE_EXPIRY stops the peer timer, so that no peer counts as heard (R89, R155, R171). The model's choice: a stopped
office-silence timer or clash timer running out does nothing (log 2). -/
def Obligations.SilencesRunOut : Prop :=
  ∀ s : State,
    (s.bus.silence.isRunning = true → ∃ t, exec .officeSilenceExpiry s = .next t ∧
      ({ s with bus := { s.bus with silence := .stopped, degraded := true } } : State).sameButAlerts t ∧
      t.flag .gatewaySilent = ⟨true, true⟩ ∧ ∀ f, f ≠ .gatewaySilent → t.flag f = s.flag f) ∧
    (s.bus.silence.isRunning = false → exec .officeSilenceExpiry s = .next s) ∧
    (s.outcome.clashTimer.isRunning = true → exec .idClashTimerExpiry s =
      .next { s with outcome := { s.outcome with
        clashTimer := .stopped, flags := s.outcome.flags.put .idClash ⟨(s.flag .idClash).isSet, false⟩ } }) ∧
    (s.outcome.clashTimer.isRunning = false → exec .idClashTimerExpiry s = .next s) ∧
    exec .peerSilenceExpiry s = .next { s with capacity := { s.capacity with peerTimer := .stopped } }

/-! ### The Peer Bus Interface -/

/-- FRAME_RECEIVED: a damaged frame is counted; one with this lane's identifier latches ID_CLASH and is discarded; a lane's restarts
the peer timer and the office station's the office-silence timer, ending degraded mode, with an offer of the oldest FILLED record;
one for this lane then takes a receive buffer, is lost to full buffers, or is counted as ignored where it fails a check (R162, R169
to R171; that the checks come at reception is log 7). -/
def Obligations.ReceivedFrameIsHeardAndBuffered : Prop :=
  (∀ (s : State) (stopFault : Bool) (bytes : List Byte),
    (s.alive = false → exec (.frameReceived stopFault bytes) s = .next s) ∧
    (s.alive = true → parseFrame stopFault bytes = none →
      exec (.frameReceived stopFault bytes) s = .next (s.count .crcErrors))) ∧
  ∀ (s : State) (stopFault : Bool) (bytes : List Byte) (f : RawFrame), s.alive = true →
    parseFrame stopFault bytes = some f →
      (f.source = s.laneId → ∃ t, exec (.frameReceived stopFault bytes) s = .next t ∧ t.flag .idClash = ⟨true, true⟩ ∧
        ({ s with outcome := { s.outcome with clashTimer := .running 60000 } } : State).sameButAlerts t) ∧
      (f.source ≠ s.laneId → f.source ≠ 0 → f.source ≠ 31 →
        ∀ u, u = { s with capacity := { s.capacity with peerTimer := .running 5000 } } →
          (f.dest ≠ 0 → f.dest ≠ s.laneId → exec (.frameReceived stopFault bytes) s = .next u) ∧
          (f.dest = 0 ∨ f.dest = s.laneId →
            (2 ≤ s.bus.rx.length → exec (.frameReceived stopFault bytes) s = .next (u.count .rxOverruns)) ∧
            (s.bus.rx.length < 2 → checkRaw f = none →
              exec (.frameReceived stopFault bytes) s = .next (u.count .framesIgnored)) ∧
            ∀ r, s.bus.rx.length < 2 → checkRaw f = some r →
              (r.kind.owner = none → exec (.frameReceived stopFault bytes) s = .next u) ∧
              (r.kind.owner ≠ none → exec (.frameReceived stopFault bytes) s =
                .next { u with bus := { u.bus with rx := s.bus.rx ++ [r] } }))) ∧
      (f.source ≠ s.laneId → f.source = 31 →
        ∃ t, exec (.frameReceived stopFault bytes) s = .next t ∧ t.bus.silence = .running 5000 ∧
          t.bus.degraded = false ∧ t = { s with outcome := t.outcome, bus := t.bus } ∧
          (s.bus.degraded = true → (t.flag .gatewaySilent).standing = false) ∧
          (∀ r rs, s.bus.degraded = true → s.outcome.filled = r :: rs → s.outcome.offered = false →
            s.bus.txQueue.length ≤ 6 → t.outcome.offered = true ∧
              t.bus.txQueue = insertFrame ⟨.outcome r, false⟩ s.bus.txQueue) ∧
          (∀ r, f.dest = 0 ∨ f.dest = s.laneId → s.bus.rx.length < 2 → checkRaw f = some r → r.kind.owner ≠ none →
            t.bus.rx = s.bus.rx ++ [r]))

/-- TX_START begins to send the head frame; FRAME_SENT takes the frame in transmission from the queue and puts its bytes on the bus,
the older outbox frame entering its place; an OUTCOME sent frees the oldest FILLED place, which is reserved for the oldest place
hold, that being evaluated afresh, and else stays FREE; a STATUS sent lets a due one be built; the oldest FILLED record is offered
once the lane is not degraded, none is offered and two places are free. CONTENTION_LOST keeps the frame, which is no longer in
transmission, and takes the winner's as FRAME_RECEIVED does: a damaged one is counted, one of a peer to another lane restarts the
peer timer alone (R29 to R33, R85, R152, R154, R157, R163, R167 to R169). The one step of a lost contention is log 8, the order of
what follows a frame sent log 20; with nothing in transmission either command does nothing (log 2). -/
def Obligations.SendingFollowsTheQueue : Prop :=
  (∀ s : State,
    (∀ e es, s.bus.txQueue = e :: es → s.alive = true → (∀ x ∈ e :: es, x.sending = false) → exec .txStart s =
      .next { s with bus := { s.bus with txQueue := { e with sending := true } :: es } }) ∧
    (s.bus.txQueue = [] ∨ s.alive = false ∨ (∃ x ∈ s.bus.txQueue, x.sending = true) → exec .txStart s = .next s)) ∧
  (∀ (s : State) (stopFault : Bool) (bytes : List Byte),
    ((∃ x ∈ s.bus.txQueue, x.sending = true) → exec (.contentionLost stopFault bytes) s =
      exec (.frameReceived stopFault bytes) { s with bus := { s.bus with
        txQueue := s.bus.txQueue.map (fun x => { x with sending := false }) } }) ∧
    (∀ w : State, (∃ x ∈ s.bus.txQueue, x.sending = true) → w = { s with bus := { s.bus with
        txQueue := s.bus.txQueue.map (fun x => { x with sending := false }) } } →
      (s.alive = false → exec (.contentionLost stopFault bytes) s = .next w) ∧
      (s.alive = true → parseFrame stopFault bytes = none →
        exec (.contentionLost stopFault bytes) s = .next (w.count .crcErrors)) ∧
      (∀ f, s.alive = true → parseFrame stopFault bytes = some f → f.source ≠ s.laneId → f.source ≠ 0 → f.source ≠ 31 →
        f.dest ≠ 0 → f.dest ≠ s.laneId → exec (.contentionLost stopFault bytes) s =
          .next { w with capacity := { w.capacity with peerTimer := .running 5000 } }) ∧
      ∃ t, exec (.contentionLost stopFault bytes) s = .next t ∧
        t = { s with capacity := { s.capacity with peerTimer := t.capacity.peerTimer }, outcome := t.outcome
                     bus := t.bus } ∧
        (∀ x ∈ s.bus.txQueue, { x with sending := false } ∈ t.bus.txQueue) ∧ ∀ x ∈ t.bus.txQueue, x.sending = false) ∧
    ((∀ x ∈ s.bus.txQueue, x.sending = false) →
      exec (.contentionLost stopFault bytes) s = .next s ∧ exec .frameSent s = .next s)) ∧
  ∀ (s : State) (before after : List TxEntry) (e : TxEntry), s.bus.txQueue = before ++ e :: after → e.sending = true →
    (∀ x ∈ before, x.sending = false) → s.busSound →
      (∀ r rs, e.frame.kind ≠ .outcome → e.frame.kind ≠ .status → s.outcome.filled = r :: rs → s.bus.outboxes = [] →
        (s.bus.degraded = false → s.outcome.offered = false → (before ++ after).length ≤ 6 → exec .frameSent s =
          .next { s with bus := { s.bus with txQueue := insertFrame ⟨.outcome r, false⟩ (before ++ after) }
                         outcome := { s.outcome with offered := true }
                         out := .busFrame (e.frame.bytes s.laneId) :: s.out }) ∧
        (s.bus.degraded = true ∨ s.outcome.offered = true ∨ 7 ≤ (before ++ after).length → exec .frameSent s =
          .next { s with bus := { s.bus with txQueue := before ++ after }
                         out := .busFrame (e.frame.bytes s.laneId) :: s.out })) ∧
      (∀ r0 r rs, e.frame.kind = .outcome → s.outcome.filled = r0 :: r :: rs → s.bus.outboxes = [] →
        s.oldest? Visit.isPlaceHold = none → s.bus.degraded = false → (before ++ after).length ≤ 6 →
          ∃ t, exec .frameSent s = .next t ∧ t.outcome.offered = true ∧
            t.bus.txQueue = insertFrame ⟨.outcome r, false⟩ (before ++ after)) ∧
      (e.frame.kind ≠ .outcome → e.frame.kind ≠ .status → s.outcome.filled = [] →
        (s.bus.outboxes = [] → exec .frameSent s =
          .next { s with bus := { s.bus with txQueue := before ++ after }
                         out := .busFrame (e.frame.bytes s.laneId) :: s.out }) ∧
        (∀ x xs, s.bus.outboxes = x :: xs → exec .frameSent s =
          .next { s with bus := { s.bus with txQueue := insertFrame ⟨x.frame, false⟩ (before ++ after), outboxes := xs }
                         out := .busFrame (e.frame.bytes s.laneId) :: s.out })) ∧
      (e.frame.kind = .outcome → ∃ t, exec .frameSent s = .next t ∧ t.outcome.filled = s.outcome.filled.tail ∧
        (s.oldest? Visit.isPlaceHold = none → t.outcome.reserved = s.outcome.reserved ∧
          t.flag .records = ⟨(s.flag .records).isSet, false⟩)) ∧
      (∀ v, e.frame.kind = .outcome → s.placesSound → s.outcome.filled ≠ [] → s.oldest? Visit.isPlaceHold = some v →
        s.visit? v.number = some v → ∃ t w, exec .frameSent s = .next t ∧
          t.outcome.reserved = s.outcome.reserved ++ [v.number] ∧ t.outcome.filled = s.outcome.filled.tail ∧
          t.visit? v.number = some w ∧ w.placeReserved = true ∧
          (v.active.any Reason.isRefuse = true → w.state = .exiting ∧ w.verdict = .refuse ∧ w.stops = []) ∧
          (v.active.any Reason.isRefuse = false → v.active.any Reason.isClerkHold = true →
            w.state = .hold ∧ w.verdict = .hold ∧ w.holdStart = some ⟨s.clock.window, s.clock.tenths⟩ ∧
              t.booking = s.booking ∧ (.recordFull ∈ v.active → t.yard = s.yard)) ∧
          (v.active.any Reason.isRefuse = false → v.active.any Reason.isClerkHold = false →
            v.needsFlex = false ∨ (∃ q, s.capacity.quota = some q ∧ q.lent + q.used < q.share + q.borrowed ∧
              s.capacity.waitList = []) →
            w.state = .exiting ∧ w.verdict = (if v.needsInspection then .admitInspect else .admitted) ∧
              w.flex = (if v.needsFlex then .own else v.flex) ∧ t.booking = s.booking) ∧
          (v.active.any Reason.isRefuse = false → v.active.any Reason.isClerkHold = false → v.needsFlex = true →
            ∀ q, s.capacity.quota = some q → q.share + q.borrowed ≤ q.lent + q.used →
              ((s.bus.degraded = false ∨ s.capacity.peerTimer.isRunning = true) → q.borrowed < 15 →
                w.state = .awaitLoan ∧ t.capacity.waitList = s.capacity.waitList ++ [v.number]) ∧
              ((s.bus.degraded = true ∧ s.capacity.peerTimer.isRunning = false) ∨ 15 ≤ q.borrowed →
                w.state = .hold ∧ w.verdict = .hold ∧ w.given .noCapacity ∧ t.capacity = s.capacity))) ∧
      (e.frame.kind = .status → s.outcome.filled = [] → s.bus.outboxes = [] →
        (s.outcome.statusDue = false → exec .frameSent s =
          .next { s with bus := { s.bus with txQueue := before ++ after }
                         out := .busFrame (e.frame.bytes s.laneId) :: s.out }) ∧
        (s.outcome.statusDue = true → exec .frameSent s =
          .next { s with bus := { s.bus with
                           txQueue := insertFrame ⟨.status s.flagWord s.visits.mode, false⟩ (before ++ after) }
                         outcome := { s.outcome with statusDue := false }
                         out := .busFrame (e.frame.bytes s.laneId) :: s.out }))

end Slice0Obligations
end

