-- ==== Sys2Proof/Laws/State.lean ====
section
/-! SUPPORT. The state record under its updates: for each update of one block, every other block is as it was, and the
updated block is what was put there. -/

namespace Sys2Proof.Machine

@[simp] theorem State.emit_start (o : Output) (s : State) : (s.emit o).start = s.start := by rfl
@[simp] theorem State.emit_line (o : Output) (s : State) : (s.emit o).line = s.line := by rfl
@[simp] theorem State.emit_clock (o : Output) (s : State) : (s.emit o).clock = s.clock := by rfl
@[simp] theorem State.emit_visits (o : Output) (s : State) : (s.emit o).visits = s.visits := by rfl
@[simp] theorem State.emit_reader (o : Output) (s : State) : (s.emit o).reader = s.reader := by rfl
@[simp] theorem State.emit_booking (o : Output) (s : State) : (s.emit o).booking = s.booking := by rfl
@[simp] theorem State.emit_capacity (o : Output) (s : State) : (s.emit o).capacity = s.capacity := by rfl
@[simp] theorem State.emit_survey (o : Output) (s : State) : (s.emit o).survey = s.survey := by rfl
@[simp] theorem State.emit_yard (o : Output) (s : State) : (s.emit o).yard = s.yard := by rfl
@[simp] theorem State.emit_outcome (o : Output) (s : State) : (s.emit o).outcome = s.outcome := by rfl
@[simp] theorem State.emit_bus (o : Output) (s : State) : (s.emit o).bus = s.bus := by rfl
@[simp] theorem State.emit_freeIndex (o : Output) (s : State) : (s.emit o).freeIndex = s.freeIndex := by rfl
@[simp] theorem State.emit_pending (o : Output) (s : State) : (s.emit o).pending = s.pending := by rfl

@[simp] theorem State.updVisit_start (n : VisitNumber) (f : Visit → Visit) (s : State) : (s.updVisit n f).start = s.start := by rfl
@[simp] theorem State.updVisit_line (n : VisitNumber) (f : Visit → Visit) (s : State) : (s.updVisit n f).line = s.line := by rfl
@[simp] theorem State.updVisit_clock (n : VisitNumber) (f : Visit → Visit) (s : State) : (s.updVisit n f).clock = s.clock := by rfl
@[simp] theorem State.updVisit_reader (n : VisitNumber) (f : Visit → Visit) (s : State) : (s.updVisit n f).reader = s.reader := by rfl
@[simp] theorem State.updVisit_booking (n : VisitNumber) (f : Visit → Visit) (s : State) : (s.updVisit n f).booking = s.booking := by rfl
@[simp] theorem State.updVisit_capacity (n : VisitNumber) (f : Visit → Visit) (s : State) : (s.updVisit n f).capacity = s.capacity := by rfl
@[simp] theorem State.updVisit_survey (n : VisitNumber) (f : Visit → Visit) (s : State) : (s.updVisit n f).survey = s.survey := by rfl
@[simp] theorem State.updVisit_yard (n : VisitNumber) (f : Visit → Visit) (s : State) : (s.updVisit n f).yard = s.yard := by rfl
@[simp] theorem State.updVisit_outcome (n : VisitNumber) (f : Visit → Visit) (s : State) : (s.updVisit n f).outcome = s.outcome := by rfl
@[simp] theorem State.updVisit_bus (n : VisitNumber) (f : Visit → Visit) (s : State) : (s.updVisit n f).bus = s.bus := by rfl
@[simp] theorem State.updVisit_out (n : VisitNumber) (f : Visit → Visit) (s : State) : (s.updVisit n f).out = s.out := by rfl
@[simp] theorem State.updVisit_freeIndex (n : VisitNumber) (f : Visit → Visit) (s : State) : (s.updVisit n f).freeIndex = s.freeIndex := by rfl
@[simp] theorem State.updVisit_pending (n : VisitNumber) (f : Visit → Visit) (s : State) : (s.updVisit n f).pending = s.pending := by rfl

@[simp] theorem State.setTxQueue_start (q : List TxEntry) (s : State) : (s.setTxQueue q).start = s.start := by rfl
@[simp] theorem State.setTxQueue_line (q : List TxEntry) (s : State) : (s.setTxQueue q).line = s.line := by rfl
@[simp] theorem State.setTxQueue_clock (q : List TxEntry) (s : State) : (s.setTxQueue q).clock = s.clock := by rfl
@[simp] theorem State.setTxQueue_visits (q : List TxEntry) (s : State) : (s.setTxQueue q).visits = s.visits := by rfl
@[simp] theorem State.setTxQueue_reader (q : List TxEntry) (s : State) : (s.setTxQueue q).reader = s.reader := by rfl
@[simp] theorem State.setTxQueue_booking (q : List TxEntry) (s : State) : (s.setTxQueue q).booking = s.booking := by rfl
@[simp] theorem State.setTxQueue_capacity (q : List TxEntry) (s : State) : (s.setTxQueue q).capacity = s.capacity := by rfl
@[simp] theorem State.setTxQueue_survey (q : List TxEntry) (s : State) : (s.setTxQueue q).survey = s.survey := by rfl
@[simp] theorem State.setTxQueue_yard (q : List TxEntry) (s : State) : (s.setTxQueue q).yard = s.yard := by rfl
@[simp] theorem State.setTxQueue_outcome (q : List TxEntry) (s : State) : (s.setTxQueue q).outcome = s.outcome := by rfl
@[simp] theorem State.setTxQueue_out (q : List TxEntry) (s : State) : (s.setTxQueue q).out = s.out := by rfl
@[simp] theorem State.setTxQueue_freeIndex (q : List TxEntry) (s : State) : (s.setTxQueue q).freeIndex = s.freeIndex := by rfl
@[simp] theorem State.setTxQueue_pending (q : List TxEntry) (s : State) : (s.setTxQueue q).pending = s.pending := by rfl

@[simp] theorem State.enqueue_start (f : TxFrame) (s : State) : (s.enqueue f).start = s.start := by rfl
@[simp] theorem State.enqueue_line (f : TxFrame) (s : State) : (s.enqueue f).line = s.line := by rfl
@[simp] theorem State.enqueue_clock (f : TxFrame) (s : State) : (s.enqueue f).clock = s.clock := by rfl
@[simp] theorem State.enqueue_visits (f : TxFrame) (s : State) : (s.enqueue f).visits = s.visits := by rfl
@[simp] theorem State.enqueue_reader (f : TxFrame) (s : State) : (s.enqueue f).reader = s.reader := by rfl
@[simp] theorem State.enqueue_booking (f : TxFrame) (s : State) : (s.enqueue f).booking = s.booking := by rfl
@[simp] theorem State.enqueue_capacity (f : TxFrame) (s : State) : (s.enqueue f).capacity = s.capacity := by rfl
@[simp] theorem State.enqueue_survey (f : TxFrame) (s : State) : (s.enqueue f).survey = s.survey := by rfl
@[simp] theorem State.enqueue_yard (f : TxFrame) (s : State) : (s.enqueue f).yard = s.yard := by rfl
@[simp] theorem State.enqueue_outcome (f : TxFrame) (s : State) : (s.enqueue f).outcome = s.outcome := by rfl
@[simp] theorem State.enqueue_out (f : TxFrame) (s : State) : (s.enqueue f).out = s.out := by rfl
@[simp] theorem State.enqueue_freeIndex (f : TxFrame) (s : State) : (s.enqueue f).freeIndex = s.freeIndex := by rfl
@[simp] theorem State.enqueue_pending (f : TxFrame) (s : State) : (s.enqueue f).pending = s.pending := by rfl

@[simp] theorem State.setOutboxes_start (os : List OutboxEntry) (s : State) : (s.setOutboxes os).start = s.start := by rfl
@[simp] theorem State.setOutboxes_line (os : List OutboxEntry) (s : State) : (s.setOutboxes os).line = s.line := by rfl
@[simp] theorem State.setOutboxes_clock (os : List OutboxEntry) (s : State) : (s.setOutboxes os).clock = s.clock := by rfl
@[simp] theorem State.setOutboxes_visits (os : List OutboxEntry) (s : State) : (s.setOutboxes os).visits = s.visits := by rfl
@[simp] theorem State.setOutboxes_reader (os : List OutboxEntry) (s : State) : (s.setOutboxes os).reader = s.reader := by rfl
@[simp] theorem State.setOutboxes_booking (os : List OutboxEntry) (s : State) : (s.setOutboxes os).booking = s.booking := by rfl
@[simp] theorem State.setOutboxes_capacity (os : List OutboxEntry) (s : State) : (s.setOutboxes os).capacity = s.capacity := by rfl
@[simp] theorem State.setOutboxes_survey (os : List OutboxEntry) (s : State) : (s.setOutboxes os).survey = s.survey := by rfl
@[simp] theorem State.setOutboxes_yard (os : List OutboxEntry) (s : State) : (s.setOutboxes os).yard = s.yard := by rfl
@[simp] theorem State.setOutboxes_outcome (os : List OutboxEntry) (s : State) : (s.setOutboxes os).outcome = s.outcome := by rfl
@[simp] theorem State.setOutboxes_out (os : List OutboxEntry) (s : State) : (s.setOutboxes os).out = s.out := by rfl
@[simp] theorem State.setOutboxes_freeIndex (os : List OutboxEntry) (s : State) : (s.setOutboxes os).freeIndex = s.freeIndex := by rfl
@[simp] theorem State.setOutboxes_pending (os : List OutboxEntry) (s : State) : (s.setOutboxes os).pending = s.pending := by rfl

@[simp] theorem State.putFlag_start (f : AlertFlag) (st : FlagState) (s : State) : (s.putFlag f st).start = s.start := by rfl
@[simp] theorem State.putFlag_line (f : AlertFlag) (st : FlagState) (s : State) : (s.putFlag f st).line = s.line := by rfl
@[simp] theorem State.putFlag_clock (f : AlertFlag) (st : FlagState) (s : State) : (s.putFlag f st).clock = s.clock := by rfl
@[simp] theorem State.putFlag_visits (f : AlertFlag) (st : FlagState) (s : State) : (s.putFlag f st).visits = s.visits := by rfl
@[simp] theorem State.putFlag_reader (f : AlertFlag) (st : FlagState) (s : State) : (s.putFlag f st).reader = s.reader := by rfl
@[simp] theorem State.putFlag_booking (f : AlertFlag) (st : FlagState) (s : State) : (s.putFlag f st).booking = s.booking := by rfl
@[simp] theorem State.putFlag_capacity (f : AlertFlag) (st : FlagState) (s : State) : (s.putFlag f st).capacity = s.capacity := by rfl
@[simp] theorem State.putFlag_survey (f : AlertFlag) (st : FlagState) (s : State) : (s.putFlag f st).survey = s.survey := by rfl
@[simp] theorem State.putFlag_yard (f : AlertFlag) (st : FlagState) (s : State) : (s.putFlag f st).yard = s.yard := by rfl
@[simp] theorem State.putFlag_bus (f : AlertFlag) (st : FlagState) (s : State) : (s.putFlag f st).bus = s.bus := by rfl
@[simp] theorem State.putFlag_out (f : AlertFlag) (st : FlagState) (s : State) : (s.putFlag f st).out = s.out := by rfl
@[simp] theorem State.putFlag_freeIndex (f : AlertFlag) (st : FlagState) (s : State) : (s.putFlag f st).freeIndex = s.freeIndex := by rfl
@[simp] theorem State.putFlag_pending (f : AlertFlag) (st : FlagState) (s : State) : (s.putFlag f st).pending = s.pending := by rfl

@[simp] theorem State.setStatusDue_start (b : Bool) (s : State) : (s.setStatusDue b).start = s.start := by rfl
@[simp] theorem State.setStatusDue_line (b : Bool) (s : State) : (s.setStatusDue b).line = s.line := by rfl
@[simp] theorem State.setStatusDue_clock (b : Bool) (s : State) : (s.setStatusDue b).clock = s.clock := by rfl
@[simp] theorem State.setStatusDue_visits (b : Bool) (s : State) : (s.setStatusDue b).visits = s.visits := by rfl
@[simp] theorem State.setStatusDue_reader (b : Bool) (s : State) : (s.setStatusDue b).reader = s.reader := by rfl
@[simp] theorem State.setStatusDue_booking (b : Bool) (s : State) : (s.setStatusDue b).booking = s.booking := by rfl
@[simp] theorem State.setStatusDue_capacity (b : Bool) (s : State) : (s.setStatusDue b).capacity = s.capacity := by rfl
@[simp] theorem State.setStatusDue_survey (b : Bool) (s : State) : (s.setStatusDue b).survey = s.survey := by rfl
@[simp] theorem State.setStatusDue_yard (b : Bool) (s : State) : (s.setStatusDue b).yard = s.yard := by rfl
@[simp] theorem State.setStatusDue_bus (b : Bool) (s : State) : (s.setStatusDue b).bus = s.bus := by rfl
@[simp] theorem State.setStatusDue_out (b : Bool) (s : State) : (s.setStatusDue b).out = s.out := by rfl
@[simp] theorem State.setStatusDue_freeIndex (b : Bool) (s : State) : (s.setStatusDue b).freeIndex = s.freeIndex := by rfl
@[simp] theorem State.setStatusDue_pending (b : Bool) (s : State) : (s.setStatusDue b).pending = s.pending := by rfl

@[simp] theorem State.setCounters_start (c : Counters) (s : State) : (s.setCounters c).start = s.start := by rfl
@[simp] theorem State.setCounters_line (c : Counters) (s : State) : (s.setCounters c).line = s.line := by rfl
@[simp] theorem State.setCounters_clock (c : Counters) (s : State) : (s.setCounters c).clock = s.clock := by rfl
@[simp] theorem State.setCounters_visits (c : Counters) (s : State) : (s.setCounters c).visits = s.visits := by rfl
@[simp] theorem State.setCounters_reader (c : Counters) (s : State) : (s.setCounters c).reader = s.reader := by rfl
@[simp] theorem State.setCounters_booking (c : Counters) (s : State) : (s.setCounters c).booking = s.booking := by rfl
@[simp] theorem State.setCounters_capacity (c : Counters) (s : State) : (s.setCounters c).capacity = s.capacity := by rfl
@[simp] theorem State.setCounters_survey (c : Counters) (s : State) : (s.setCounters c).survey = s.survey := by rfl
@[simp] theorem State.setCounters_yard (c : Counters) (s : State) : (s.setCounters c).yard = s.yard := by rfl
@[simp] theorem State.setCounters_bus (c : Counters) (s : State) : (s.setCounters c).bus = s.bus := by rfl
@[simp] theorem State.setCounters_out (c : Counters) (s : State) : (s.setCounters c).out = s.out := by rfl
@[simp] theorem State.setCounters_freeIndex (c : Counters) (s : State) : (s.setCounters c).freeIndex = s.freeIndex := by rfl
@[simp] theorem State.setCounters_pending (c : Counters) (s : State) : (s.setCounters c).pending = s.pending := by rfl

@[simp] theorem State.setBlocks_start (bs : List BlockEntry) (s : State) : (s.setBlocks bs).start = s.start := by rfl
@[simp] theorem State.setBlocks_line (bs : List BlockEntry) (s : State) : (s.setBlocks bs).line = s.line := by rfl
@[simp] theorem State.setBlocks_clock (bs : List BlockEntry) (s : State) : (s.setBlocks bs).clock = s.clock := by rfl
@[simp] theorem State.setBlocks_visits (bs : List BlockEntry) (s : State) : (s.setBlocks bs).visits = s.visits := by rfl
@[simp] theorem State.setBlocks_reader (bs : List BlockEntry) (s : State) : (s.setBlocks bs).reader = s.reader := by rfl
@[simp] theorem State.setBlocks_booking (bs : List BlockEntry) (s : State) : (s.setBlocks bs).booking = s.booking := by rfl
@[simp] theorem State.setBlocks_capacity (bs : List BlockEntry) (s : State) : (s.setBlocks bs).capacity = s.capacity := by rfl
@[simp] theorem State.setBlocks_survey (bs : List BlockEntry) (s : State) : (s.setBlocks bs).survey = s.survey := by rfl
@[simp] theorem State.setBlocks_outcome (bs : List BlockEntry) (s : State) : (s.setBlocks bs).outcome = s.outcome := by rfl
@[simp] theorem State.setBlocks_bus (bs : List BlockEntry) (s : State) : (s.setBlocks bs).bus = s.bus := by rfl
@[simp] theorem State.setBlocks_out (bs : List BlockEntry) (s : State) : (s.setBlocks bs).out = s.out := by rfl
@[simp] theorem State.setBlocks_freeIndex (bs : List BlockEntry) (s : State) : (s.setBlocks bs).freeIndex = s.freeIndex := by rfl
@[simp] theorem State.setBlocks_pending (bs : List BlockEntry) (s : State) : (s.setBlocks bs).pending = s.pending := by rfl

@[simp] theorem State.setQueue_start (q : List Message) (s : State) : (s.setQueue q).start = s.start := by rfl
@[simp] theorem State.setQueue_line (q : List Message) (s : State) : (s.setQueue q).line = s.line := by rfl
@[simp] theorem State.setQueue_clock (q : List Message) (s : State) : (s.setQueue q).clock = s.clock := by rfl
@[simp] theorem State.setQueue_visits (q : List Message) (s : State) : (s.setQueue q).visits = s.visits := by rfl
@[simp] theorem State.setQueue_reader (q : List Message) (s : State) : (s.setQueue q).reader = s.reader := by rfl
@[simp] theorem State.setQueue_booking (q : List Message) (s : State) : (s.setQueue q).booking = s.booking := by rfl
@[simp] theorem State.setQueue_capacity (q : List Message) (s : State) : (s.setQueue q).capacity = s.capacity := by rfl
@[simp] theorem State.setQueue_survey (q : List Message) (s : State) : (s.setQueue q).survey = s.survey := by rfl
@[simp] theorem State.setQueue_outcome (q : List Message) (s : State) : (s.setQueue q).outcome = s.outcome := by rfl
@[simp] theorem State.setQueue_bus (q : List Message) (s : State) : (s.setQueue q).bus = s.bus := by rfl
@[simp] theorem State.setQueue_out (q : List Message) (s : State) : (s.setQueue q).out = s.out := by rfl
@[simp] theorem State.setQueue_freeIndex (q : List Message) (s : State) : (s.setQueue q).freeIndex = s.freeIndex := by rfl
@[simp] theorem State.setQueue_pending (q : List Message) (s : State) : (s.setQueue q).pending = s.pending := by rfl

@[simp] theorem State.setHeld_start (h : List Message) (s : State) : (s.setHeld h).start = s.start := by rfl
@[simp] theorem State.setHeld_line (h : List Message) (s : State) : (s.setHeld h).line = s.line := by rfl
@[simp] theorem State.setHeld_clock (h : List Message) (s : State) : (s.setHeld h).clock = s.clock := by rfl
@[simp] theorem State.setHeld_visits (h : List Message) (s : State) : (s.setHeld h).visits = s.visits := by rfl
@[simp] theorem State.setHeld_reader (h : List Message) (s : State) : (s.setHeld h).reader = s.reader := by rfl
@[simp] theorem State.setHeld_booking (h : List Message) (s : State) : (s.setHeld h).booking = s.booking := by rfl
@[simp] theorem State.setHeld_capacity (h : List Message) (s : State) : (s.setHeld h).capacity = s.capacity := by rfl
@[simp] theorem State.setHeld_survey (h : List Message) (s : State) : (s.setHeld h).survey = s.survey := by rfl
@[simp] theorem State.setHeld_outcome (h : List Message) (s : State) : (s.setHeld h).outcome = s.outcome := by rfl
@[simp] theorem State.setHeld_bus (h : List Message) (s : State) : (s.setHeld h).bus = s.bus := by rfl
@[simp] theorem State.setHeld_out (h : List Message) (s : State) : (s.setHeld h).out = s.out := by rfl
@[simp] theorem State.setHeld_freeIndex (h : List Message) (s : State) : (s.setHeld h).freeIndex = s.freeIndex := by rfl
@[simp] theorem State.setHeld_pending (h : List Message) (s : State) : (s.setHeld h).pending = s.pending := by rfl

@[simp] theorem State.setDisplay_start (d : DisplayChannel) (s : State) : (s.setDisplay d).start = s.start := by rfl
@[simp] theorem State.setDisplay_line (d : DisplayChannel) (s : State) : (s.setDisplay d).line = s.line := by rfl
@[simp] theorem State.setDisplay_clock (d : DisplayChannel) (s : State) : (s.setDisplay d).clock = s.clock := by rfl
@[simp] theorem State.setDisplay_visits (d : DisplayChannel) (s : State) : (s.setDisplay d).visits = s.visits := by rfl
@[simp] theorem State.setDisplay_booking (d : DisplayChannel) (s : State) : (s.setDisplay d).booking = s.booking := by rfl
@[simp] theorem State.setDisplay_capacity (d : DisplayChannel) (s : State) : (s.setDisplay d).capacity = s.capacity := by rfl
@[simp] theorem State.setDisplay_survey (d : DisplayChannel) (s : State) : (s.setDisplay d).survey = s.survey := by rfl
@[simp] theorem State.setDisplay_yard (d : DisplayChannel) (s : State) : (s.setDisplay d).yard = s.yard := by rfl
@[simp] theorem State.setDisplay_outcome (d : DisplayChannel) (s : State) : (s.setDisplay d).outcome = s.outcome := by rfl
@[simp] theorem State.setDisplay_bus (d : DisplayChannel) (s : State) : (s.setDisplay d).bus = s.bus := by rfl
@[simp] theorem State.setDisplay_out (d : DisplayChannel) (s : State) : (s.setDisplay d).out = s.out := by rfl
@[simp] theorem State.setDisplay_freeIndex (d : DisplayChannel) (s : State) : (s.setDisplay d).freeIndex = s.freeIndex := by rfl
@[simp] theorem State.setDisplay_pending (d : DisplayChannel) (s : State) : (s.setDisplay d).pending = s.pending := by rfl

@[simp] theorem State.setBarrier_start (b : Barrier) (s : State) : (s.setBarrier b).start = s.start := by rfl
@[simp] theorem State.setBarrier_line (b : Barrier) (s : State) : (s.setBarrier b).line = s.line := by rfl
@[simp] theorem State.setBarrier_clock (b : Barrier) (s : State) : (s.setBarrier b).clock = s.clock := by rfl
@[simp] theorem State.setBarrier_visits (b : Barrier) (s : State) : (s.setBarrier b).visits = s.visits := by rfl
@[simp] theorem State.setBarrier_reader (b : Barrier) (s : State) : (s.setBarrier b).reader = s.reader := by rfl
@[simp] theorem State.setBarrier_booking (b : Barrier) (s : State) : (s.setBarrier b).booking = s.booking := by rfl
@[simp] theorem State.setBarrier_capacity (b : Barrier) (s : State) : (s.setBarrier b).capacity = s.capacity := by rfl
@[simp] theorem State.setBarrier_survey (b : Barrier) (s : State) : (s.setBarrier b).survey = s.survey := by rfl
@[simp] theorem State.setBarrier_outcome (b : Barrier) (s : State) : (s.setBarrier b).outcome = s.outcome := by rfl
@[simp] theorem State.setBarrier_bus (b : Barrier) (s : State) : (s.setBarrier b).bus = s.bus := by rfl
@[simp] theorem State.setBarrier_out (b : Barrier) (s : State) : (s.setBarrier b).out = s.out := by rfl
@[simp] theorem State.setBarrier_freeIndex (b : Barrier) (s : State) : (s.setBarrier b).freeIndex = s.freeIndex := by rfl
@[simp] theorem State.setBarrier_pending (b : Barrier) (s : State) : (s.setBarrier b).pending = s.pending := by rfl

@[simp] theorem State.setTable_start (t : List (Option Booking)) (s : State) : (s.setTable t).start = s.start := by rfl
@[simp] theorem State.setTable_line (t : List (Option Booking)) (s : State) : (s.setTable t).line = s.line := by rfl
@[simp] theorem State.setTable_clock (t : List (Option Booking)) (s : State) : (s.setTable t).clock = s.clock := by rfl
@[simp] theorem State.setTable_visits (t : List (Option Booking)) (s : State) : (s.setTable t).visits = s.visits := by rfl
@[simp] theorem State.setTable_reader (t : List (Option Booking)) (s : State) : (s.setTable t).reader = s.reader := by rfl
@[simp] theorem State.setTable_capacity (t : List (Option Booking)) (s : State) : (s.setTable t).capacity = s.capacity := by rfl
@[simp] theorem State.setTable_survey (t : List (Option Booking)) (s : State) : (s.setTable t).survey = s.survey := by rfl
@[simp] theorem State.setTable_yard (t : List (Option Booking)) (s : State) : (s.setTable t).yard = s.yard := by rfl
@[simp] theorem State.setTable_outcome (t : List (Option Booking)) (s : State) : (s.setTable t).outcome = s.outcome := by rfl
@[simp] theorem State.setTable_bus (t : List (Option Booking)) (s : State) : (s.setTable t).bus = s.bus := by rfl
@[simp] theorem State.setTable_out (t : List (Option Booking)) (s : State) : (s.setTable t).out = s.out := by rfl
@[simp] theorem State.setTable_freeIndex (t : List (Option Booking)) (s : State) : (s.setTable t).freeIndex = s.freeIndex := by rfl
@[simp] theorem State.setTable_pending (t : List (Option Booking)) (s : State) : (s.setTable t).pending = s.pending := by rfl

@[simp] theorem State.setPass_start (p : Option Pass) (s : State) : (s.setPass p).start = s.start := by rfl
@[simp] theorem State.setPass_line (p : Option Pass) (s : State) : (s.setPass p).line = s.line := by rfl
@[simp] theorem State.setPass_clock (p : Option Pass) (s : State) : (s.setPass p).clock = s.clock := by rfl
@[simp] theorem State.setPass_visits (p : Option Pass) (s : State) : (s.setPass p).visits = s.visits := by rfl
@[simp] theorem State.setPass_reader (p : Option Pass) (s : State) : (s.setPass p).reader = s.reader := by rfl
@[simp] theorem State.setPass_booking (p : Option Pass) (s : State) : (s.setPass p).booking = s.booking := by rfl
@[simp] theorem State.setPass_capacity (p : Option Pass) (s : State) : (s.setPass p).capacity = s.capacity := by rfl
@[simp] theorem State.setPass_yard (p : Option Pass) (s : State) : (s.setPass p).yard = s.yard := by rfl
@[simp] theorem State.setPass_outcome (p : Option Pass) (s : State) : (s.setPass p).outcome = s.outcome := by rfl
@[simp] theorem State.setPass_bus (p : Option Pass) (s : State) : (s.setPass p).bus = s.bus := by rfl
@[simp] theorem State.setPass_out (p : Option Pass) (s : State) : (s.setPass p).out = s.out := by rfl
@[simp] theorem State.setPass_freeIndex (p : Option Pass) (s : State) : (s.setPass p).freeIndex = s.freeIndex := by rfl
@[simp] theorem State.setPass_pending (p : Option Pass) (s : State) : (s.setPass p).pending = s.pending := by rfl

@[simp] theorem State.updQuota_start (f : Quota → Quota) (s : State) : (s.updQuota f).start = s.start := by rfl
@[simp] theorem State.updQuota_line (f : Quota → Quota) (s : State) : (s.updQuota f).line = s.line := by rfl
@[simp] theorem State.updQuota_clock (f : Quota → Quota) (s : State) : (s.updQuota f).clock = s.clock := by rfl
@[simp] theorem State.updQuota_visits (f : Quota → Quota) (s : State) : (s.updQuota f).visits = s.visits := by rfl
@[simp] theorem State.updQuota_reader (f : Quota → Quota) (s : State) : (s.updQuota f).reader = s.reader := by rfl
@[simp] theorem State.updQuota_booking (f : Quota → Quota) (s : State) : (s.updQuota f).booking = s.booking := by rfl
@[simp] theorem State.updQuota_survey (f : Quota → Quota) (s : State) : (s.updQuota f).survey = s.survey := by rfl
@[simp] theorem State.updQuota_yard (f : Quota → Quota) (s : State) : (s.updQuota f).yard = s.yard := by rfl
@[simp] theorem State.updQuota_outcome (f : Quota → Quota) (s : State) : (s.updQuota f).outcome = s.outcome := by rfl
@[simp] theorem State.updQuota_bus (f : Quota → Quota) (s : State) : (s.updQuota f).bus = s.bus := by rfl
@[simp] theorem State.updQuota_out (f : Quota → Quota) (s : State) : (s.updQuota f).out = s.out := by rfl
@[simp] theorem State.updQuota_freeIndex (f : Quota → Quota) (s : State) : (s.updQuota f).freeIndex = s.freeIndex := by rfl
@[simp] theorem State.updQuota_pending (f : Quota → Quota) (s : State) : (s.updQuota f).pending = s.pending := by rfl

@[simp] theorem State.useUnit_start (s : State) : (s.useUnit).start = s.start := by rfl
@[simp] theorem State.useUnit_line (s : State) : (s.useUnit).line = s.line := by rfl
@[simp] theorem State.useUnit_clock (s : State) : (s.useUnit).clock = s.clock := by rfl
@[simp] theorem State.useUnit_visits (s : State) : (s.useUnit).visits = s.visits := by rfl
@[simp] theorem State.useUnit_reader (s : State) : (s.useUnit).reader = s.reader := by rfl
@[simp] theorem State.useUnit_booking (s : State) : (s.useUnit).booking = s.booking := by rfl
@[simp] theorem State.useUnit_survey (s : State) : (s.useUnit).survey = s.survey := by rfl
@[simp] theorem State.useUnit_yard (s : State) : (s.useUnit).yard = s.yard := by rfl
@[simp] theorem State.useUnit_outcome (s : State) : (s.useUnit).outcome = s.outcome := by rfl
@[simp] theorem State.useUnit_bus (s : State) : (s.useUnit).bus = s.bus := by rfl
@[simp] theorem State.useUnit_out (s : State) : (s.useUnit).out = s.out := by rfl
@[simp] theorem State.useUnit_freeIndex (s : State) : (s.useUnit).freeIndex = s.freeIndex := by rfl
@[simp] theorem State.useUnit_pending (s : State) : (s.useUnit).pending = s.pending := by rfl

@[simp] theorem State.setAsk_start (a : Option Ask) (s : State) : (s.setAsk a).start = s.start := by rfl
@[simp] theorem State.setAsk_line (a : Option Ask) (s : State) : (s.setAsk a).line = s.line := by rfl
@[simp] theorem State.setAsk_clock (a : Option Ask) (s : State) : (s.setAsk a).clock = s.clock := by rfl
@[simp] theorem State.setAsk_visits (a : Option Ask) (s : State) : (s.setAsk a).visits = s.visits := by rfl
@[simp] theorem State.setAsk_reader (a : Option Ask) (s : State) : (s.setAsk a).reader = s.reader := by rfl
@[simp] theorem State.setAsk_booking (a : Option Ask) (s : State) : (s.setAsk a).booking = s.booking := by rfl
@[simp] theorem State.setAsk_survey (a : Option Ask) (s : State) : (s.setAsk a).survey = s.survey := by rfl
@[simp] theorem State.setAsk_yard (a : Option Ask) (s : State) : (s.setAsk a).yard = s.yard := by rfl
@[simp] theorem State.setAsk_outcome (a : Option Ask) (s : State) : (s.setAsk a).outcome = s.outcome := by rfl
@[simp] theorem State.setAsk_bus (a : Option Ask) (s : State) : (s.setAsk a).bus = s.bus := by rfl
@[simp] theorem State.setAsk_out (a : Option Ask) (s : State) : (s.setAsk a).out = s.out := by rfl
@[simp] theorem State.setAsk_freeIndex (a : Option Ask) (s : State) : (s.setAsk a).freeIndex = s.freeIndex := by rfl
@[simp] theorem State.setAsk_pending (a : Option Ask) (s : State) : (s.setAsk a).pending = s.pending := by rfl

@[simp] theorem State.setTakes_start (ts : List Take) (s : State) : (s.setTakes ts).start = s.start := by rfl
@[simp] theorem State.setTakes_line (ts : List Take) (s : State) : (s.setTakes ts).line = s.line := by rfl
@[simp] theorem State.setTakes_clock (ts : List Take) (s : State) : (s.setTakes ts).clock = s.clock := by rfl
@[simp] theorem State.setTakes_visits (ts : List Take) (s : State) : (s.setTakes ts).visits = s.visits := by rfl
@[simp] theorem State.setTakes_reader (ts : List Take) (s : State) : (s.setTakes ts).reader = s.reader := by rfl
@[simp] theorem State.setTakes_booking (ts : List Take) (s : State) : (s.setTakes ts).booking = s.booking := by rfl
@[simp] theorem State.setTakes_survey (ts : List Take) (s : State) : (s.setTakes ts).survey = s.survey := by rfl
@[simp] theorem State.setTakes_yard (ts : List Take) (s : State) : (s.setTakes ts).yard = s.yard := by rfl
@[simp] theorem State.setTakes_outcome (ts : List Take) (s : State) : (s.setTakes ts).outcome = s.outcome := by rfl
@[simp] theorem State.setTakes_bus (ts : List Take) (s : State) : (s.setTakes ts).bus = s.bus := by rfl
@[simp] theorem State.setTakes_out (ts : List Take) (s : State) : (s.setTakes ts).out = s.out := by rfl
@[simp] theorem State.setTakes_freeIndex (ts : List Take) (s : State) : (s.setTakes ts).freeIndex = s.freeIndex := by rfl
@[simp] theorem State.setTakes_pending (ts : List Take) (s : State) : (s.setTakes ts).pending = s.pending := by rfl

@[simp] theorem State.setWaitList_start (ns : List VisitNumber) (s : State) : (s.setWaitList ns).start = s.start := by rfl
@[simp] theorem State.setWaitList_line (ns : List VisitNumber) (s : State) : (s.setWaitList ns).line = s.line := by rfl
@[simp] theorem State.setWaitList_clock (ns : List VisitNumber) (s : State) : (s.setWaitList ns).clock = s.clock := by rfl
@[simp] theorem State.setWaitList_visits (ns : List VisitNumber) (s : State) : (s.setWaitList ns).visits = s.visits := by rfl
@[simp] theorem State.setWaitList_reader (ns : List VisitNumber) (s : State) : (s.setWaitList ns).reader = s.reader := by rfl
@[simp] theorem State.setWaitList_booking (ns : List VisitNumber) (s : State) : (s.setWaitList ns).booking = s.booking := by rfl
@[simp] theorem State.setWaitList_survey (ns : List VisitNumber) (s : State) : (s.setWaitList ns).survey = s.survey := by rfl
@[simp] theorem State.setWaitList_yard (ns : List VisitNumber) (s : State) : (s.setWaitList ns).yard = s.yard := by rfl
@[simp] theorem State.setWaitList_outcome (ns : List VisitNumber) (s : State) : (s.setWaitList ns).outcome = s.outcome := by rfl
@[simp] theorem State.setWaitList_bus (ns : List VisitNumber) (s : State) : (s.setWaitList ns).bus = s.bus := by rfl
@[simp] theorem State.setWaitList_out (ns : List VisitNumber) (s : State) : (s.setWaitList ns).out = s.out := by rfl
@[simp] theorem State.setWaitList_freeIndex (ns : List VisitNumber) (s : State) : (s.setWaitList ns).freeIndex = s.freeIndex := by rfl
@[simp] theorem State.setWaitList_pending (ns : List VisitNumber) (s : State) : (s.setWaitList ns).pending = s.pending := by rfl

@[simp] theorem State.setOffers_start (os : List Offer) (s : State) : (s.setOffers os).start = s.start := by rfl
@[simp] theorem State.setOffers_line (os : List Offer) (s : State) : (s.setOffers os).line = s.line := by rfl
@[simp] theorem State.setOffers_clock (os : List Offer) (s : State) : (s.setOffers os).clock = s.clock := by rfl
@[simp] theorem State.setOffers_visits (os : List Offer) (s : State) : (s.setOffers os).visits = s.visits := by rfl
@[simp] theorem State.setOffers_reader (os : List Offer) (s : State) : (s.setOffers os).reader = s.reader := by rfl
@[simp] theorem State.setOffers_booking (os : List Offer) (s : State) : (s.setOffers os).booking = s.booking := by rfl
@[simp] theorem State.setOffers_survey (os : List Offer) (s : State) : (s.setOffers os).survey = s.survey := by rfl
@[simp] theorem State.setOffers_yard (os : List Offer) (s : State) : (s.setOffers os).yard = s.yard := by rfl
@[simp] theorem State.setOffers_outcome (os : List Offer) (s : State) : (s.setOffers os).outcome = s.outcome := by rfl
@[simp] theorem State.setOffers_bus (os : List Offer) (s : State) : (s.setOffers os).bus = s.bus := by rfl
@[simp] theorem State.setOffers_out (os : List Offer) (s : State) : (s.setOffers os).out = s.out := by rfl
@[simp] theorem State.setOffers_freeIndex (os : List Offer) (s : State) : (s.setOffers os).freeIndex = s.freeIndex := by rfl
@[simp] theorem State.setOffers_pending (os : List Offer) (s : State) : (s.setOffers os).pending = s.pending := by rfl

@[simp] theorem State.setChannel_start (ch : Channel) (c : ReaderChannel) (s : State) : (s.setChannel ch c).start = s.start := by rfl
@[simp] theorem State.setChannel_line (ch : Channel) (c : ReaderChannel) (s : State) : (s.setChannel ch c).line = s.line := by rfl
@[simp] theorem State.setChannel_clock (ch : Channel) (c : ReaderChannel) (s : State) : (s.setChannel ch c).clock = s.clock := by rfl
@[simp] theorem State.setChannel_visits (ch : Channel) (c : ReaderChannel) (s : State) : (s.setChannel ch c).visits = s.visits := by rfl
@[simp] theorem State.setChannel_booking (ch : Channel) (c : ReaderChannel) (s : State) : (s.setChannel ch c).booking = s.booking := by rfl
@[simp] theorem State.setChannel_capacity (ch : Channel) (c : ReaderChannel) (s : State) : (s.setChannel ch c).capacity = s.capacity := by rfl
@[simp] theorem State.setChannel_survey (ch : Channel) (c : ReaderChannel) (s : State) : (s.setChannel ch c).survey = s.survey := by rfl
@[simp] theorem State.setChannel_yard (ch : Channel) (c : ReaderChannel) (s : State) : (s.setChannel ch c).yard = s.yard := by rfl
@[simp] theorem State.setChannel_outcome (ch : Channel) (c : ReaderChannel) (s : State) : (s.setChannel ch c).outcome = s.outcome := by rfl
@[simp] theorem State.setChannel_bus (ch : Channel) (c : ReaderChannel) (s : State) : (s.setChannel ch c).bus = s.bus := by rfl
@[simp] theorem State.setChannel_out (ch : Channel) (c : ReaderChannel) (s : State) : (s.setChannel ch c).out = s.out := by rfl
@[simp] theorem State.setChannel_freeIndex (ch : Channel) (c : ReaderChannel) (s : State) : (s.setChannel ch c).freeIndex = s.freeIndex := by rfl
@[simp] theorem State.setChannel_pending (ch : Channel) (c : ReaderChannel) (s : State) : (s.setChannel ch c).pending = s.pending := by rfl

@[simp] theorem State.setVisitState_start (n : VisitNumber) (st : SlotState) (s : State) : (s.setVisitState n st).start = s.start := by rfl
@[simp] theorem State.setVisitState_line (n : VisitNumber) (st : SlotState) (s : State) : (s.setVisitState n st).line = s.line := by rfl
@[simp] theorem State.setVisitState_clock (n : VisitNumber) (st : SlotState) (s : State) : (s.setVisitState n st).clock = s.clock := by rfl
@[simp] theorem State.setVisitState_reader (n : VisitNumber) (st : SlotState) (s : State) : (s.setVisitState n st).reader = s.reader := by rfl
@[simp] theorem State.setVisitState_booking (n : VisitNumber) (st : SlotState) (s : State) : (s.setVisitState n st).booking = s.booking := by rfl
@[simp] theorem State.setVisitState_capacity (n : VisitNumber) (st : SlotState) (s : State) : (s.setVisitState n st).capacity = s.capacity := by rfl
@[simp] theorem State.setVisitState_survey (n : VisitNumber) (st : SlotState) (s : State) : (s.setVisitState n st).survey = s.survey := by rfl
@[simp] theorem State.setVisitState_yard (n : VisitNumber) (st : SlotState) (s : State) : (s.setVisitState n st).yard = s.yard := by rfl
@[simp] theorem State.setVisitState_outcome (n : VisitNumber) (st : SlotState) (s : State) : (s.setVisitState n st).outcome = s.outcome := by rfl
@[simp] theorem State.setVisitState_bus (n : VisitNumber) (st : SlotState) (s : State) : (s.setVisitState n st).bus = s.bus := by rfl
@[simp] theorem State.setVisitState_out (n : VisitNumber) (st : SlotState) (s : State) : (s.setVisitState n st).out = s.out := by rfl
@[simp] theorem State.setVisitState_freeIndex (n : VisitNumber) (st : SlotState) (s : State) : (s.setVisitState n st).freeIndex = s.freeIndex := by rfl
@[simp] theorem State.setVisitState_pending (n : VisitNumber) (st : SlotState) (s : State) : (s.setVisitState n st).pending = s.pending := by rfl

@[simp] theorem State.setClock_start (c : GateClock) (s : State) : (s.setClock c).start = s.start := by rfl
@[simp] theorem State.setClock_line (c : GateClock) (s : State) : (s.setClock c).line = s.line := by rfl
@[simp] theorem State.setClock_visits (c : GateClock) (s : State) : (s.setClock c).visits = s.visits := by rfl
@[simp] theorem State.setClock_reader (c : GateClock) (s : State) : (s.setClock c).reader = s.reader := by rfl
@[simp] theorem State.setClock_booking (c : GateClock) (s : State) : (s.setClock c).booking = s.booking := by rfl
@[simp] theorem State.setClock_capacity (c : GateClock) (s : State) : (s.setClock c).capacity = s.capacity := by rfl
@[simp] theorem State.setClock_survey (c : GateClock) (s : State) : (s.setClock c).survey = s.survey := by rfl
@[simp] theorem State.setClock_yard (c : GateClock) (s : State) : (s.setClock c).yard = s.yard := by rfl
@[simp] theorem State.setClock_outcome (c : GateClock) (s : State) : (s.setClock c).outcome = s.outcome := by rfl
@[simp] theorem State.setClock_bus (c : GateClock) (s : State) : (s.setClock c).bus = s.bus := by rfl
@[simp] theorem State.setClock_out (c : GateClock) (s : State) : (s.setClock c).out = s.out := by rfl
@[simp] theorem State.setClock_freeIndex (c : GateClock) (s : State) : (s.setClock c).freeIndex = s.freeIndex := by rfl
@[simp] theorem State.setClock_pending (c : GateClock) (s : State) : (s.setClock c).pending = s.pending := by rfl

@[simp] theorem State.drawFree_start (s : State) : (s.drawFree).start = s.start := by rfl
@[simp] theorem State.drawFree_line (s : State) : (s.drawFree).line = s.line := by rfl
@[simp] theorem State.drawFree_clock (s : State) : (s.drawFree).clock = s.clock := by rfl
@[simp] theorem State.drawFree_visits (s : State) : (s.drawFree).visits = s.visits := by rfl
@[simp] theorem State.drawFree_reader (s : State) : (s.drawFree).reader = s.reader := by rfl
@[simp] theorem State.drawFree_booking (s : State) : (s.drawFree).booking = s.booking := by rfl
@[simp] theorem State.drawFree_capacity (s : State) : (s.drawFree).capacity = s.capacity := by rfl
@[simp] theorem State.drawFree_survey (s : State) : (s.drawFree).survey = s.survey := by rfl
@[simp] theorem State.drawFree_yard (s : State) : (s.drawFree).yard = s.yard := by rfl
@[simp] theorem State.drawFree_outcome (s : State) : (s.drawFree).outcome = s.outcome := by rfl
@[simp] theorem State.drawFree_bus (s : State) : (s.drawFree).bus = s.bus := by rfl
@[simp] theorem State.drawFree_out (s : State) : (s.drawFree).out = s.out := by rfl
@[simp] theorem State.drawFree_pending (s : State) : (s.drawFree).pending = s.pending := by rfl

@[simp] theorem State.setRx_start (fs : List RxFrame) (s : State) : (s.setRx fs).start = s.start := by rfl
@[simp] theorem State.setRx_line (fs : List RxFrame) (s : State) : (s.setRx fs).line = s.line := by rfl
@[simp] theorem State.setRx_clock (fs : List RxFrame) (s : State) : (s.setRx fs).clock = s.clock := by rfl
@[simp] theorem State.setRx_visits (fs : List RxFrame) (s : State) : (s.setRx fs).visits = s.visits := by rfl
@[simp] theorem State.setRx_reader (fs : List RxFrame) (s : State) : (s.setRx fs).reader = s.reader := by rfl
@[simp] theorem State.setRx_booking (fs : List RxFrame) (s : State) : (s.setRx fs).booking = s.booking := by rfl
@[simp] theorem State.setRx_capacity (fs : List RxFrame) (s : State) : (s.setRx fs).capacity = s.capacity := by rfl
@[simp] theorem State.setRx_survey (fs : List RxFrame) (s : State) : (s.setRx fs).survey = s.survey := by rfl
@[simp] theorem State.setRx_yard (fs : List RxFrame) (s : State) : (s.setRx fs).yard = s.yard := by rfl
@[simp] theorem State.setRx_outcome (fs : List RxFrame) (s : State) : (s.setRx fs).outcome = s.outcome := by rfl
@[simp] theorem State.setRx_out (fs : List RxFrame) (s : State) : (s.setRx fs).out = s.out := by rfl
@[simp] theorem State.setRx_freeIndex (fs : List RxFrame) (s : State) : (s.setRx fs).freeIndex = s.freeIndex := by rfl
@[simp] theorem State.setRx_pending (fs : List RxFrame) (s : State) : (s.setRx fs).pending = s.pending := by rfl

@[simp] theorem State.peerHeard_start (s : State) : (s.peerHeard).start = s.start := by rfl
@[simp] theorem State.peerHeard_line (s : State) : (s.peerHeard).line = s.line := by rfl
@[simp] theorem State.peerHeard_clock (s : State) : (s.peerHeard).clock = s.clock := by rfl
@[simp] theorem State.peerHeard_visits (s : State) : (s.peerHeard).visits = s.visits := by rfl
@[simp] theorem State.peerHeard_reader (s : State) : (s.peerHeard).reader = s.reader := by rfl
@[simp] theorem State.peerHeard_booking (s : State) : (s.peerHeard).booking = s.booking := by rfl
@[simp] theorem State.peerHeard_survey (s : State) : (s.peerHeard).survey = s.survey := by rfl
@[simp] theorem State.peerHeard_yard (s : State) : (s.peerHeard).yard = s.yard := by rfl
@[simp] theorem State.peerHeard_outcome (s : State) : (s.peerHeard).outcome = s.outcome := by rfl
@[simp] theorem State.peerHeard_bus (s : State) : (s.peerHeard).bus = s.bus := by rfl
@[simp] theorem State.peerHeard_out (s : State) : (s.peerHeard).out = s.out := by rfl
@[simp] theorem State.peerHeard_freeIndex (s : State) : (s.peerHeard).freeIndex = s.freeIndex := by rfl
@[simp] theorem State.peerHeard_pending (s : State) : (s.peerHeard).pending = s.pending := by rfl

@[simp] theorem State.peersSilent_start (s : State) : (s.peersSilent).start = s.start := by rfl
@[simp] theorem State.peersSilent_line (s : State) : (s.peersSilent).line = s.line := by rfl
@[simp] theorem State.peersSilent_clock (s : State) : (s.peersSilent).clock = s.clock := by rfl
@[simp] theorem State.peersSilent_visits (s : State) : (s.peersSilent).visits = s.visits := by rfl
@[simp] theorem State.peersSilent_reader (s : State) : (s.peersSilent).reader = s.reader := by rfl
@[simp] theorem State.peersSilent_booking (s : State) : (s.peersSilent).booking = s.booking := by rfl
@[simp] theorem State.peersSilent_survey (s : State) : (s.peersSilent).survey = s.survey := by rfl
@[simp] theorem State.peersSilent_yard (s : State) : (s.peersSilent).yard = s.yard := by rfl
@[simp] theorem State.peersSilent_outcome (s : State) : (s.peersSilent).outcome = s.outcome := by rfl
@[simp] theorem State.peersSilent_bus (s : State) : (s.peersSilent).bus = s.bus := by rfl
@[simp] theorem State.peersSilent_out (s : State) : (s.peersSilent).out = s.out := by rfl
@[simp] theorem State.peersSilent_freeIndex (s : State) : (s.peersSilent).freeIndex = s.freeIndex := by rfl
@[simp] theorem State.peersSilent_pending (s : State) : (s.peersSilent).pending = s.pending := by rfl

@[simp] theorem State.setResetPin_line (high : Bool) (q : Timer) (s : State) : (s.setResetPin high q).line = s.line := by rfl
@[simp] theorem State.setResetPin_clock (high : Bool) (q : Timer) (s : State) : (s.setResetPin high q).clock = s.clock := by rfl
@[simp] theorem State.setResetPin_visits (high : Bool) (q : Timer) (s : State) : (s.setResetPin high q).visits = s.visits := by rfl
@[simp] theorem State.setResetPin_reader (high : Bool) (q : Timer) (s : State) : (s.setResetPin high q).reader = s.reader := by rfl
@[simp] theorem State.setResetPin_booking (high : Bool) (q : Timer) (s : State) : (s.setResetPin high q).booking = s.booking := by rfl
@[simp] theorem State.setResetPin_capacity (high : Bool) (q : Timer) (s : State) : (s.setResetPin high q).capacity = s.capacity := by rfl
@[simp] theorem State.setResetPin_survey (high : Bool) (q : Timer) (s : State) : (s.setResetPin high q).survey = s.survey := by rfl
@[simp] theorem State.setResetPin_yard (high : Bool) (q : Timer) (s : State) : (s.setResetPin high q).yard = s.yard := by rfl
@[simp] theorem State.setResetPin_outcome (high : Bool) (q : Timer) (s : State) : (s.setResetPin high q).outcome = s.outcome := by rfl
@[simp] theorem State.setResetPin_bus (high : Bool) (q : Timer) (s : State) : (s.setResetPin high q).bus = s.bus := by rfl
@[simp] theorem State.setResetPin_out (high : Bool) (q : Timer) (s : State) : (s.setResetPin high q).out = s.out := by rfl
@[simp] theorem State.setResetPin_freeIndex (high : Bool) (q : Timer) (s : State) : (s.setResetPin high q).freeIndex = s.freeIndex := by rfl
@[simp] theorem State.setResetPin_pending (high : Bool) (q : Timer) (s : State) : (s.setResetPin high q).pending = s.pending := by rfl

@[simp] theorem State.setResetPending_line (b : Bool) (t : Timer) (s : State) : (s.setResetPending b t).line = s.line := by rfl
@[simp] theorem State.setResetPending_clock (b : Bool) (t : Timer) (s : State) : (s.setResetPending b t).clock = s.clock := by rfl
@[simp] theorem State.setResetPending_visits (b : Bool) (t : Timer) (s : State) : (s.setResetPending b t).visits = s.visits := by rfl
@[simp] theorem State.setResetPending_reader (b : Bool) (t : Timer) (s : State) : (s.setResetPending b t).reader = s.reader := by rfl
@[simp] theorem State.setResetPending_booking (b : Bool) (t : Timer) (s : State) : (s.setResetPending b t).booking = s.booking := by rfl
@[simp] theorem State.setResetPending_capacity (b : Bool) (t : Timer) (s : State) : (s.setResetPending b t).capacity = s.capacity := by rfl
@[simp] theorem State.setResetPending_survey (b : Bool) (t : Timer) (s : State) : (s.setResetPending b t).survey = s.survey := by rfl
@[simp] theorem State.setResetPending_yard (b : Bool) (t : Timer) (s : State) : (s.setResetPending b t).yard = s.yard := by rfl
@[simp] theorem State.setResetPending_outcome (b : Bool) (t : Timer) (s : State) : (s.setResetPending b t).outcome = s.outcome := by rfl
@[simp] theorem State.setResetPending_bus (b : Bool) (t : Timer) (s : State) : (s.setResetPending b t).bus = s.bus := by rfl
@[simp] theorem State.setResetPending_out (b : Bool) (t : Timer) (s : State) : (s.setResetPending b t).out = s.out := by rfl
@[simp] theorem State.setResetPending_freeIndex (b : Bool) (t : Timer) (s : State) : (s.setResetPending b t).freeIndex = s.freeIndex := by rfl
@[simp] theorem State.setResetPending_pending (b : Bool) (t : Timer) (s : State) : (s.setResetPending b t).pending = s.pending := by rfl

@[simp] theorem State.takeLevels_start (s : State) : (s.takeLevels).start = s.start := by rfl
@[simp] theorem State.takeLevels_clock (s : State) : (s.takeLevels).clock = s.clock := by rfl
@[simp] theorem State.takeLevels_visits (s : State) : (s.takeLevels).visits = s.visits := by rfl
@[simp] theorem State.takeLevels_reader (s : State) : (s.takeLevels).reader = s.reader := by rfl
@[simp] theorem State.takeLevels_booking (s : State) : (s.takeLevels).booking = s.booking := by rfl
@[simp] theorem State.takeLevels_capacity (s : State) : (s.takeLevels).capacity = s.capacity := by rfl
@[simp] theorem State.takeLevels_survey (s : State) : (s.takeLevels).survey = s.survey := by rfl
@[simp] theorem State.takeLevels_yard (s : State) : (s.takeLevels).yard = s.yard := by rfl
@[simp] theorem State.takeLevels_outcome (s : State) : (s.takeLevels).outcome = s.outcome := by rfl
@[simp] theorem State.takeLevels_bus (s : State) : (s.takeLevels).bus = s.bus := by rfl
@[simp] theorem State.takeLevels_out (s : State) : (s.takeLevels).out = s.out := by rfl
@[simp] theorem State.takeLevels_freeIndex (s : State) : (s.takeLevels).freeIndex = s.freeIndex := by rfl
@[simp] theorem State.takeLevels_pending (s : State) : (s.takeLevels).pending = s.pending := by rfl

@[simp] theorem State.sampleStraps_line (p : Straps) (s : State) : (s.sampleStraps p).line = s.line := by rfl
@[simp] theorem State.sampleStraps_clock (p : Straps) (s : State) : (s.sampleStraps p).clock = s.clock := by rfl
@[simp] theorem State.sampleStraps_visits (p : Straps) (s : State) : (s.sampleStraps p).visits = s.visits := by rfl
@[simp] theorem State.sampleStraps_reader (p : Straps) (s : State) : (s.sampleStraps p).reader = s.reader := by rfl
@[simp] theorem State.sampleStraps_booking (p : Straps) (s : State) : (s.sampleStraps p).booking = s.booking := by rfl
@[simp] theorem State.sampleStraps_capacity (p : Straps) (s : State) : (s.sampleStraps p).capacity = s.capacity := by rfl
@[simp] theorem State.sampleStraps_survey (p : Straps) (s : State) : (s.sampleStraps p).survey = s.survey := by rfl
@[simp] theorem State.sampleStraps_yard (p : Straps) (s : State) : (s.sampleStraps p).yard = s.yard := by rfl
@[simp] theorem State.sampleStraps_outcome (p : Straps) (s : State) : (s.sampleStraps p).outcome = s.outcome := by rfl
@[simp] theorem State.sampleStraps_bus (p : Straps) (s : State) : (s.sampleStraps p).bus = s.bus := by rfl
@[simp] theorem State.sampleStraps_out (p : Straps) (s : State) : (s.sampleStraps p).out = s.out := by rfl
@[simp] theorem State.sampleStraps_freeIndex (p : Straps) (s : State) : (s.sampleStraps p).freeIndex = s.freeIndex := by rfl
@[simp] theorem State.sampleStraps_pending (p : Straps) (s : State) : (s.sampleStraps p).pending = s.pending := by rfl

@[simp] theorem State.emit_out (o : Output) (s : State) :
    (s.emit o).out = o :: s.out := by rfl
@[simp] theorem State.setTxQueue_bus (q : List TxEntry) (s : State) :
    (s.setTxQueue q).bus = { s.bus with txQueue := q } := by rfl
@[simp] theorem State.enqueue_bus (f : TxFrame) (s : State) :
    (s.enqueue f).bus = { s.bus with txQueue := withFrame f s.bus.txQueue } := by rfl
@[simp] theorem State.setOutboxes_bus (os : List OutboxEntry) (s : State) :
    (s.setOutboxes os).bus = { s.bus with outboxes := os } := by rfl
@[simp] theorem State.setRx_bus (fs : List RxFrame) (s : State) :
    (s.setRx fs).bus = { s.bus with rx := fs } := by rfl
@[simp] theorem State.putFlag_outcome (f : AlertFlag) (st : FlagState) (s : State) :
    (s.putFlag f st).outcome = { s.outcome with flags := s.outcome.flags.put f st } := by rfl
@[simp] theorem State.setStatusDue_outcome (b : Bool) (s : State) :
    (s.setStatusDue b).outcome = { s.outcome with statusDue := b } := by rfl
@[simp] theorem State.setCounters_outcome (c : Counters) (s : State) :
    (s.setCounters c).outcome = { s.outcome with counters := c } := by rfl
@[simp] theorem State.setBlocks_yard (bs : List BlockEntry) (s : State) :
    (s.setBlocks bs).yard = { s.yard with blocks := bs } := by rfl
@[simp] theorem State.setQueue_yard (q : List Message) (s : State) :
    (s.setQueue q).yard = { s.yard with queue := q } := by rfl
@[simp] theorem State.setHeld_yard (h : List Message) (s : State) :
    (s.setHeld h).yard = { s.yard with held := h } := by rfl
@[simp] theorem State.setBarrier_yard (b : Barrier) (s : State) :
    (s.setBarrier b).yard = { s.yard with barrier := b } := by rfl
@[simp] theorem State.setDisplay_reader (d : DisplayChannel) (s : State) :
    (s.setDisplay d).reader = { s.reader with display := d } := by rfl
@[simp] theorem State.setChannel_reader (ch : Channel) (c : ReaderChannel) (s : State) :
    (s.setChannel ch c).reader = s.reader.put ch c := by rfl
@[simp] theorem State.setTable_booking (t : List (Option Booking)) (s : State) :
    (s.setTable t).booking = { s.booking with table := t } := by rfl
@[simp] theorem State.setPass_survey (p : Option Pass) (s : State) :
    (s.setPass p).survey = { s.survey with pass := p } := by rfl
@[simp] theorem State.updQuota_capacity (f : Quota → Quota) (s : State) :
    (s.updQuota f).capacity = { s.capacity with quota := s.capacity.quota.map f } := by rfl
@[simp] theorem State.setAsk_capacity (a : Option Ask) (s : State) :
    (s.setAsk a).capacity = { s.capacity with ask := a } := by rfl
@[simp] theorem State.setTakes_capacity (ts : List Take) (s : State) :
    (s.setTakes ts).capacity = { s.capacity with takes := ts } := by rfl
@[simp] theorem State.setWaitList_capacity (ns : List VisitNumber) (s : State) :
    (s.setWaitList ns).capacity = { s.capacity with waitList := ns } := by rfl
@[simp] theorem State.setOffers_capacity (os : List Offer) (s : State) :
    (s.setOffers os).capacity = { s.capacity with offers := os } := by rfl
@[simp] theorem State.setClock_clock (c : GateClock) (s : State) :
    (s.setClock c).clock = c := by rfl
@[simp] theorem State.updVisit_visits (n : VisitNumber) (f : Visit → Visit) (s : State) :
    (s.updVisit n f).visits =
      { s.visits with laneQueue := updNumbered n f s.visits.laneQueue
                      parked := updNumbered n f s.visits.parked } := by rfl

end Sys2Proof.Machine
end

