-- ==== Sys2Proof/Laws/Flags.lean ====
section
/-! SUPPORT. Frames of the shared operations: the flags, the counters and the handing over of frames. Each lemma names every block of the state that the operation
leaves as it was. -/

namespace Sys2Proof.Machine

@[simp] theorem State.drainOutbox_frame (s : State) :
    (s.drainOutbox).start = s.start ∧ (s.drainOutbox).line = s.line ∧ (s.drainOutbox).clock = s.clock ∧
    (s.drainOutbox).visits = s.visits ∧ (s.drainOutbox).reader = s.reader ∧ (s.drainOutbox).booking = s.booking ∧
    (s.drainOutbox).capacity = s.capacity ∧ (s.drainOutbox).survey = s.survey ∧ (s.drainOutbox).yard = s.yard ∧
    (s.drainOutbox).outcome = s.outcome ∧ (s.drainOutbox).out = s.out ∧ (s.drainOutbox).freeIndex = s.freeIndex ∧
    (s.drainOutbox).pending = s.pending := by
  unfold State.drainOutbox
  repeat' split
  all_goals simp

@[simp] theorem State.driveAlertN_frame (s : State) :
    (s.driveAlertN).start = s.start ∧ (s.driveAlertN).line = s.line ∧ (s.driveAlertN).clock = s.clock ∧
    (s.driveAlertN).visits = s.visits ∧ (s.driveAlertN).reader = s.reader ∧ (s.driveAlertN).booking = s.booking ∧
    (s.driveAlertN).capacity = s.capacity ∧ (s.driveAlertN).survey = s.survey ∧ (s.driveAlertN).yard = s.yard ∧
    (s.driveAlertN).bus = s.bus ∧ (s.driveAlertN).out = s.out ∧ (s.driveAlertN).freeIndex = s.freeIndex ∧
    (s.driveAlertN).pending = s.pending := by simp [State.driveAlertN]

@[simp] theorem State.handStatus_frame (s : State) :
    (s.handStatus).start = s.start ∧ (s.handStatus).line = s.line ∧ (s.handStatus).clock = s.clock ∧
    (s.handStatus).visits = s.visits ∧ (s.handStatus).reader = s.reader ∧ (s.handStatus).booking = s.booking ∧
    (s.handStatus).capacity = s.capacity ∧ (s.handStatus).survey = s.survey ∧ (s.handStatus).yard = s.yard ∧
    (s.handStatus).out = s.out ∧ (s.handStatus).freeIndex = s.freeIndex ∧ (s.handStatus).pending = s.pending := by
  unfold State.handStatus
  split <;> simp

@[simp] theorem State.reportStatus_frame (s : State) :
    (s.reportStatus).start = s.start ∧ (s.reportStatus).line = s.line ∧ (s.reportStatus).clock = s.clock ∧
    (s.reportStatus).visits = s.visits ∧ (s.reportStatus).reader = s.reader ∧ (s.reportStatus).booking = s.booking ∧
    (s.reportStatus).capacity = s.capacity ∧ (s.reportStatus).survey = s.survey ∧ (s.reportStatus).yard = s.yard ∧
    (s.reportStatus).out = s.out ∧ (s.reportStatus).freeIndex = s.freeIndex ∧ (s.reportStatus).pending = s.pending := by
  unfold State.reportStatus
  split <;> simp

@[simp] theorem State.flagSetChanged_frame (s : State) :
    (s.flagSetChanged).start = s.start ∧ (s.flagSetChanged).line = s.line ∧ (s.flagSetChanged).clock = s.clock ∧
    (s.flagSetChanged).visits = s.visits ∧ (s.flagSetChanged).reader = s.reader ∧
    (s.flagSetChanged).booking = s.booking ∧ (s.flagSetChanged).capacity = s.capacity ∧
    (s.flagSetChanged).survey = s.survey ∧ (s.flagSetChanged).yard = s.yard ∧ (s.flagSetChanged).out = s.out ∧
    (s.flagSetChanged).freeIndex = s.freeIndex ∧ (s.flagSetChanged).pending = s.pending := by simp [State.flagSetChanged]

@[simp] theorem State.latch_frame (f : AlertFlag) (s : State) :
    (s.latch f).start = s.start ∧ (s.latch f).line = s.line ∧ (s.latch f).clock = s.clock ∧
    (s.latch f).visits = s.visits ∧ (s.latch f).reader = s.reader ∧ (s.latch f).booking = s.booking ∧
    (s.latch f).capacity = s.capacity ∧ (s.latch f).survey = s.survey ∧ (s.latch f).yard = s.yard ∧
    (s.latch f).out = s.out ∧ (s.latch f).freeIndex = s.freeIndex ∧ (s.latch f).pending = s.pending := by
  unfold State.latch
  split <;> simp

@[simp] theorem State.endCondition_frame (f : AlertFlag) (s : State) :
    (s.endCondition f).start = s.start ∧ (s.endCondition f).line = s.line ∧ (s.endCondition f).clock = s.clock ∧
    (s.endCondition f).visits = s.visits ∧ (s.endCondition f).reader = s.reader ∧
    (s.endCondition f).booking = s.booking ∧ (s.endCondition f).capacity = s.capacity ∧
    (s.endCondition f).survey = s.survey ∧ (s.endCondition f).yard = s.yard ∧ (s.endCondition f).bus = s.bus ∧
    (s.endCondition f).out = s.out ∧ (s.endCondition f).freeIndex = s.freeIndex ∧
    (s.endCondition f).pending = s.pending := by simp [State.endCondition]

@[simp] theorem State.markCondition_frame (f : AlertFlag) (b : Bool) (s : State) :
    (s.markCondition f b).start = s.start ∧ (s.markCondition f b).line = s.line ∧
    (s.markCondition f b).clock = s.clock ∧ (s.markCondition f b).visits = s.visits ∧
    (s.markCondition f b).reader = s.reader ∧ (s.markCondition f b).booking = s.booking ∧
    (s.markCondition f b).capacity = s.capacity ∧ (s.markCondition f b).survey = s.survey ∧
    (s.markCondition f b).yard = s.yard ∧ (s.markCondition f b).bus = s.bus ∧ (s.markCondition f b).out = s.out ∧
    (s.markCondition f b).freeIndex = s.freeIndex ∧ (s.markCondition f b).pending = s.pending := by
  unfold State.markCondition
  split <;> simp

@[simp] theorem State.setHoldWaiting_frame (b : Bool) (s : State) :
    (s.setHoldWaiting b).start = s.start ∧ (s.setHoldWaiting b).line = s.line ∧ (s.setHoldWaiting b).clock = s.clock ∧
    (s.setHoldWaiting b).visits = s.visits ∧ (s.setHoldWaiting b).reader = s.reader ∧
    (s.setHoldWaiting b).booking = s.booking ∧ (s.setHoldWaiting b).capacity = s.capacity ∧
    (s.setHoldWaiting b).survey = s.survey ∧ (s.setHoldWaiting b).yard = s.yard ∧ (s.setHoldWaiting b).out = s.out ∧
    (s.setHoldWaiting b).freeIndex = s.freeIndex ∧ (s.setHoldWaiting b).pending = s.pending := by
  unfold State.setHoldWaiting
  split <;> simp

@[simp] theorem State.reportHolds_frame (s : State) :
    (s.reportHolds).start = s.start ∧ (s.reportHolds).line = s.line ∧ (s.reportHolds).clock = s.clock ∧
    (s.reportHolds).visits = s.visits ∧ (s.reportHolds).reader = s.reader ∧ (s.reportHolds).booking = s.booking ∧
    (s.reportHolds).capacity = s.capacity ∧ (s.reportHolds).survey = s.survey ∧ (s.reportHolds).yard = s.yard ∧
    (s.reportHolds).out = s.out ∧ (s.reportHolds).freeIndex = s.freeIndex ∧ (s.reportHolds).pending = s.pending := by simp [State.reportHolds]

@[simp] theorem State.count_frame (k : Counter) (s : State) :
    (s.count k).start = s.start ∧ (s.count k).line = s.line ∧ (s.count k).clock = s.clock ∧
    (s.count k).visits = s.visits ∧ (s.count k).reader = s.reader ∧ (s.count k).booking = s.booking ∧
    (s.count k).capacity = s.capacity ∧ (s.count k).survey = s.survey ∧ (s.count k).yard = s.yard ∧
    (s.count k).out = s.out ∧ (s.count k).freeIndex = s.freeIndex ∧ (s.count k).pending = s.pending := by
  unfold State.count
  dsimp only
  split <;> simp

@[simp] theorem State.addBack_frame (c : Counters) (s : State) :
    (s.addBack c).start = s.start ∧ (s.addBack c).line = s.line ∧ (s.addBack c).clock = s.clock ∧
    (s.addBack c).visits = s.visits ∧ (s.addBack c).reader = s.reader ∧ (s.addBack c).booking = s.booking ∧
    (s.addBack c).capacity = s.capacity ∧ (s.addBack c).survey = s.survey ∧ (s.addBack c).yard = s.yard ∧
    (s.addBack c).out = s.out ∧ (s.addBack c).freeIndex = s.freeIndex ∧ (s.addBack c).pending = s.pending := by
  unfold State.addBack
  dsimp only
  split <;> simp

@[simp] theorem State.overflowSense_frame (s : State) :
    (s.overflowSense).start = s.start ∧ (s.overflowSense).line = s.line ∧ (s.overflowSense).clock = s.clock ∧
    (s.overflowSense).visits = s.visits ∧ (s.overflowSense).reader = s.reader ∧
    (s.overflowSense).booking = s.booking ∧ (s.overflowSense).capacity = s.capacity ∧
    (s.overflowSense).survey = s.survey ∧ (s.overflowSense).yard = s.yard ∧ (s.overflowSense).bus = s.bus ∧
    (s.overflowSense).out = s.out ∧ (s.overflowSense).freeIndex = s.freeIndex ∧
    (s.overflowSense).pending = s.pending := by simp [State.overflowSense]

@[simp] theorem State.arrivalLost_frame (s : State) :
    (s.arrivalLost).start = s.start ∧ (s.arrivalLost).line = s.line ∧ (s.arrivalLost).clock = s.clock ∧
    (s.arrivalLost).visits = s.visits ∧ (s.arrivalLost).reader = s.reader ∧ (s.arrivalLost).booking = s.booking ∧
    (s.arrivalLost).capacity = s.capacity ∧ (s.arrivalLost).survey = s.survey ∧ (s.arrivalLost).yard = s.yard ∧
    (s.arrivalLost).out = s.out ∧ (s.arrivalLost).freeIndex = s.freeIndex ∧ (s.arrivalLost).pending = s.pending := by simp [State.arrivalLost]

@[simp] theorem State.displaced_frame (f : TxFrame) (s : State) :
    (s.displaced f).start = s.start ∧ (s.displaced f).line = s.line ∧ (s.displaced f).clock = s.clock ∧
    (s.displaced f).visits = s.visits ∧ (s.displaced f).reader = s.reader ∧ (s.displaced f).booking = s.booking ∧
    (s.displaced f).capacity = s.capacity ∧ (s.displaced f).survey = s.survey ∧ (s.displaced f).yard = s.yard ∧
    (s.displaced f).out = s.out ∧ (s.displaced f).freeIndex = s.freeIndex ∧ (s.displaced f).pending = s.pending := by
  unfold State.displaced
  split <;> simp

@[simp] theorem State.handClass0_frame (o : OutboxOwner) (f : TxFrame) (s : State) :
    (s.handClass0 o f).start = s.start ∧ (s.handClass0 o f).line = s.line ∧ (s.handClass0 o f).clock = s.clock ∧
    (s.handClass0 o f).visits = s.visits ∧ (s.handClass0 o f).reader = s.reader ∧
    (s.handClass0 o f).booking = s.booking ∧ (s.handClass0 o f).capacity = s.capacity ∧
    (s.handClass0 o f).survey = s.survey ∧ (s.handClass0 o f).yard = s.yard ∧ (s.handClass0 o f).out = s.out ∧
    (s.handClass0 o f).freeIndex = s.freeIndex ∧ (s.handClass0 o f).pending = s.pending := by
  unfold State.handClass0
  repeat' split
  all_goals simp

@[simp] theorem State.handNote_frame (block : Text) (w : Window) (s : State) :
    (s.handNote block w).start = s.start ∧ (s.handNote block w).line = s.line ∧ (s.handNote block w).clock = s.clock ∧
    (s.handNote block w).visits = s.visits ∧ (s.handNote block w).reader = s.reader ∧
    (s.handNote block w).booking = s.booking ∧ (s.handNote block w).capacity = s.capacity ∧
    (s.handNote block w).survey = s.survey ∧ (s.handNote block w).yard = s.yard ∧ (s.handNote block w).out = s.out ∧
    (s.handNote block w).freeIndex = s.freeIndex ∧ (s.handNote block w).pending = s.pending := by
  unfold State.handNote
  split <;> simp

@[simp] theorem State.handCounters_frame (c : Counters) (s : State) :
    (s.handCounters c).start = s.start ∧ (s.handCounters c).line = s.line ∧ (s.handCounters c).clock = s.clock ∧
    (s.handCounters c).visits = s.visits ∧ (s.handCounters c).reader = s.reader ∧
    (s.handCounters c).booking = s.booking ∧ (s.handCounters c).capacity = s.capacity ∧
    (s.handCounters c).survey = s.survey ∧ (s.handCounters c).yard = s.yard ∧ (s.handCounters c).out = s.out ∧
    (s.handCounters c).freeIndex = s.freeIndex ∧ (s.handCounters c).pending = s.pending := by
  unfold State.handCounters
  split <;> simp

@[simp] theorem State.offerOutcome_frame (s : State) :
    (s.offerOutcome).start = s.start ∧ (s.offerOutcome).line = s.line ∧ (s.offerOutcome).clock = s.clock ∧
    (s.offerOutcome).visits = s.visits ∧ (s.offerOutcome).reader = s.reader ∧ (s.offerOutcome).booking = s.booking ∧
    (s.offerOutcome).capacity = s.capacity ∧ (s.offerOutcome).survey = s.survey ∧ (s.offerOutcome).yard = s.yard ∧
    (s.offerOutcome).out = s.out ∧ (s.offerOutcome).freeIndex = s.freeIndex ∧ (s.offerOutcome).pending = s.pending := by
  unfold State.offerOutcome
  repeat' split
  all_goals simp

@[simp] theorem State.reservePlace_frame (n : VisitNumber) (s : State) :
    (s.reservePlace n).start = s.start ∧ (s.reservePlace n).line = s.line ∧ (s.reservePlace n).clock = s.clock ∧
    (s.reservePlace n).visits = s.visits ∧ (s.reservePlace n).reader = s.reader ∧
    (s.reservePlace n).booking = s.booking ∧ (s.reservePlace n).capacity = s.capacity ∧
    (s.reservePlace n).survey = s.survey ∧ (s.reservePlace n).yard = s.yard ∧ (s.reservePlace n).out = s.out ∧
    (s.reservePlace n).freeIndex = s.freeIndex ∧ (s.reservePlace n).pending = s.pending := by
  unfold State.reservePlace
  dsimp only
  split <;> simp

end Sys2Proof.Machine
end

