-- ==== Sys2Proof/Laws/Booking.lean ====
section
/-! SUPPORT. Frames of the shared operations: the Booking Store and the Survey Unit. Each lemma names every block of the state that the operation
leaves as it was. -/

namespace Sys2Proof.Machine

@[simp] theorem State.bookingRoll_frame (w : Window) (s : State) :
    (s.bookingRoll w).start = s.start ∧ (s.bookingRoll w).line = s.line ∧ (s.bookingRoll w).clock = s.clock ∧
    (s.bookingRoll w).visits = s.visits ∧ (s.bookingRoll w).reader = s.reader ∧
    (s.bookingRoll w).capacity = s.capacity ∧ (s.bookingRoll w).survey = s.survey ∧ (s.bookingRoll w).yard = s.yard ∧
    (s.bookingRoll w).outcome = s.outcome ∧ (s.bookingRoll w).bus = s.bus ∧ (s.bookingRoll w).out = s.out ∧
    (s.bookingRoll w).freeIndex = s.freeIndex ∧ (s.bookingRoll w).pending = s.pending := by simp [State.bookingRoll]

@[simp] theorem State.insertBooking_frame (f : BookingForm) (ws : Window) (s : State) :
    (s.insertBooking f ws).start = s.start ∧ (s.insertBooking f ws).line = s.line ∧
    (s.insertBooking f ws).clock = s.clock ∧ (s.insertBooking f ws).visits = s.visits ∧
    (s.insertBooking f ws).reader = s.reader ∧ (s.insertBooking f ws).capacity = s.capacity ∧
    (s.insertBooking f ws).survey = s.survey ∧ (s.insertBooking f ws).yard = s.yard ∧
    (s.insertBooking f ws).out = s.out ∧ (s.insertBooking f ws).freeIndex = s.freeIndex ∧
    (s.insertBooking f ws).pending = s.pending := by
  unfold State.insertBooking
  repeat' split
  all_goals simp

@[simp] theorem State.replaceBooking_frame (f : BookingForm) (b : Booking) (s : State) :
    (s.replaceBooking f b).start = s.start ∧ (s.replaceBooking f b).line = s.line ∧
    (s.replaceBooking f b).clock = s.clock ∧ (s.replaceBooking f b).visits = s.visits ∧
    (s.replaceBooking f b).reader = s.reader ∧ (s.replaceBooking f b).capacity = s.capacity ∧
    (s.replaceBooking f b).survey = s.survey ∧ (s.replaceBooking f b).yard = s.yard ∧
    (s.replaceBooking f b).out = s.out ∧ (s.replaceBooking f b).freeIndex = s.freeIndex ∧
    (s.replaceBooking f b).pending = s.pending := by
  unfold State.replaceBooking
  repeat' split
  all_goals simp

@[simp] theorem State.takeBooking_frame (f : BookingForm) (s : State) :
    (s.takeBooking f).start = s.start ∧ (s.takeBooking f).line = s.line ∧ (s.takeBooking f).clock = s.clock ∧
    (s.takeBooking f).visits = s.visits ∧ (s.takeBooking f).reader = s.reader ∧
    (s.takeBooking f).capacity = s.capacity ∧ (s.takeBooking f).survey = s.survey ∧ (s.takeBooking f).yard = s.yard ∧
    (s.takeBooking f).out = s.out ∧ (s.takeBooking f).freeIndex = s.freeIndex ∧
    (s.takeBooking f).pending = s.pending := by
  unfold State.takeBooking
  repeat' split
  all_goals simp

@[simp] theorem State.takeClaim_frame (n : VisitNumber) (b : Booking) (s : State) :
    (s.takeClaim n b).start = s.start ∧ (s.takeClaim n b).line = s.line ∧ (s.takeClaim n b).clock = s.clock ∧
    (s.takeClaim n b).reader = s.reader ∧ (s.takeClaim n b).capacity = s.capacity ∧
    (s.takeClaim n b).survey = s.survey ∧ (s.takeClaim n b).yard = s.yard ∧ (s.takeClaim n b).out = s.out ∧
    (s.takeClaim n b).freeIndex = s.freeIndex ∧ (s.takeClaim n b).pending = s.pending := by simp [State.takeClaim]

@[simp] theorem State.selectFor_frame (v : Visit) (s : State) :
    ((s.selectFor v).2).start = s.start ∧ ((s.selectFor v).2).line = s.line ∧ ((s.selectFor v).2).clock = s.clock ∧
    ((s.selectFor v).2).reader = s.reader ∧ ((s.selectFor v).2).capacity = s.capacity ∧
    ((s.selectFor v).2).survey = s.survey ∧ ((s.selectFor v).2).yard = s.yard ∧ ((s.selectFor v).2).out = s.out ∧
    ((s.selectFor v).2).freeIndex = s.freeIndex ∧ ((s.selectFor v).2).pending = s.pending := by
  unfold State.selectFor
  dsimp only
  repeat' split
  all_goals simp

@[simp] theorem State.endClaim_frame (n : VisitNumber) (r : ClaimResult) (s : State) :
    (s.endClaim n r).start = s.start ∧ (s.endClaim n r).line = s.line ∧ (s.endClaim n r).clock = s.clock ∧
    (s.endClaim n r).reader = s.reader ∧ (s.endClaim n r).capacity = s.capacity ∧ (s.endClaim n r).survey = s.survey ∧
    (s.endClaim n r).yard = s.yard ∧ (s.endClaim n r).out = s.out ∧ (s.endClaim n r).freeIndex = s.freeIndex ∧
    (s.endClaim n r).pending = s.pending := by
  unfold State.endClaim
  repeat' split
  all_goals simp

@[simp] theorem State.takeClaimEnd_frame (c : LaneId) (ref : Text) (r : ClaimResult) (s : State) :
    (s.takeClaimEnd c ref r).start = s.start ∧ (s.takeClaimEnd c ref r).line = s.line ∧
    (s.takeClaimEnd c ref r).clock = s.clock ∧ (s.takeClaimEnd c ref r).visits = s.visits ∧
    (s.takeClaimEnd c ref r).reader = s.reader ∧ (s.takeClaimEnd c ref r).capacity = s.capacity ∧
    (s.takeClaimEnd c ref r).survey = s.survey ∧ (s.takeClaimEnd c ref r).yard = s.yard ∧
    (s.takeClaimEnd c ref r).outcome = s.outcome ∧ (s.takeClaimEnd c ref r).bus = s.bus ∧
    (s.takeClaimEnd c ref r).out = s.out ∧ (s.takeClaimEnd c ref r).freeIndex = s.freeIndex ∧
    (s.takeClaimEnd c ref r).pending = s.pending := by simp [State.takeClaimEnd]

@[simp] theorem State.sample_frame (raw : Nat) (s : State) :
    (s.sample raw).start = s.start ∧ (s.sample raw).line = s.line ∧ (s.sample raw).clock = s.clock ∧
    (s.sample raw).visits = s.visits ∧ (s.sample raw).reader = s.reader ∧ (s.sample raw).booking = s.booking ∧
    (s.sample raw).capacity = s.capacity ∧ (s.sample raw).yard = s.yard ∧ (s.sample raw).outcome = s.outcome ∧
    (s.sample raw).bus = s.bus ∧ (s.sample raw).out = s.out ∧ (s.sample raw).freeIndex = s.freeIndex ∧
    (s.sample raw).pending = s.pending := by
  unfold State.sample
  split <;> simp

@[simp] theorem State.settleDark_frame (d : PassSummary) (s : State) :
    (s.settleDark d).start = s.start ∧ (s.settleDark d).line = s.line ∧ (s.settleDark d).clock = s.clock ∧
    (s.settleDark d).visits = s.visits ∧ (s.settleDark d).reader = s.reader ∧ (s.settleDark d).booking = s.booking ∧
    (s.settleDark d).capacity = s.capacity ∧ (s.settleDark d).yard = s.yard ∧ (s.settleDark d).out = s.out ∧
    (s.settleDark d).freeIndex = s.freeIndex ∧ (s.settleDark d).pending = s.pending := by
  unfold State.settleDark
  dsimp only
  repeat' split
  all_goals simp

@[simp] theorem State.endPass_frame (s : State) :
    (s.endPass).start = s.start ∧ (s.endPass).line = s.line ∧ (s.endPass).clock = s.clock ∧
    (s.endPass).reader = s.reader ∧ (s.endPass).booking = s.booking ∧ (s.endPass).capacity = s.capacity ∧
    (s.endPass).yard = s.yard ∧ (s.endPass).out = s.out ∧ (s.endPass).freeIndex = s.freeIndex ∧
    (s.endPass).pending = s.pending := by
  unfold State.endPass
  split <;> simp

@[simp] theorem State.truncatePass_frame (n : VisitNumber) (s : State) :
    (s.truncatePass n).start = s.start ∧ (s.truncatePass n).line = s.line ∧ (s.truncatePass n).clock = s.clock ∧
    (s.truncatePass n).reader = s.reader ∧ (s.truncatePass n).booking = s.booking ∧
    (s.truncatePass n).capacity = s.capacity ∧ (s.truncatePass n).yard = s.yard ∧ (s.truncatePass n).out = s.out ∧
    (s.truncatePass n).freeIndex = s.freeIndex ∧ (s.truncatePass n).pending = s.pending := by
  unfold State.truncatePass
  repeat' split
  all_goals simp

@[simp] theorem State.openPass_frame (n : VisitNumber) (p : Position) (s : State) :
    (s.openPass n p).start = s.start ∧ (s.openPass n p).line = s.line ∧ (s.openPass n p).clock = s.clock ∧
    (s.openPass n p).visits = s.visits ∧ (s.openPass n p).reader = s.reader ∧ (s.openPass n p).booking = s.booking ∧
    (s.openPass n p).capacity = s.capacity ∧ (s.openPass n p).yard = s.yard ∧ (s.openPass n p).outcome = s.outcome ∧
    (s.openPass n p).bus = s.bus ∧ (s.openPass n p).out = s.out ∧ (s.openPass n p).freeIndex = s.freeIndex ∧
    (s.openPass n p).pending = s.pending := by simp [State.openPass]

@[simp] theorem State.scanOccupied_frame (s : State) :
    (s.scanOccupied).start = s.start ∧ (s.scanOccupied).line = s.line ∧ (s.scanOccupied).clock = s.clock ∧
    (s.scanOccupied).reader = s.reader ∧ (s.scanOccupied).booking = s.booking ∧
    (s.scanOccupied).capacity = s.capacity ∧ (s.scanOccupied).yard = s.yard ∧ (s.scanOccupied).out = s.out ∧
    (s.scanOccupied).freeIndex = s.freeIndex ∧ (s.scanOccupied).pending = s.pending := by
  unfold State.scanOccupied
  repeat' split
  all_goals simp

end Sys2Proof.Machine
end

