-- ==== Sys2Proof/Laws/Yard.lean ====
section
/-! SUPPORT. Frames of the shared operations: the Yard Routing Unit, the Direction Queue and its delivery, and the barrier. Each lemma names every block of the state that the operation
leaves as it was. -/

namespace Sys2Proof.Machine

@[simp] theorem State.sendNote_frame (b : Text) (s : State) :
    (s.sendNote b).start = s.start ∧ (s.sendNote b).line = s.line ∧ (s.sendNote b).clock = s.clock ∧
    (s.sendNote b).visits = s.visits ∧ (s.sendNote b).reader = s.reader ∧ (s.sendNote b).booking = s.booking ∧
    (s.sendNote b).capacity = s.capacity ∧ (s.sendNote b).survey = s.survey ∧ (s.sendNote b).yard = s.yard ∧
    (s.sendNote b).out = s.out ∧ (s.sendNote b).freeIndex = s.freeIndex ∧ (s.sendNote b).pending = s.pending := by
  unfold State.sendNote
  split <;> simp

@[simp] theorem State.routeDrop_frame (m : Move) (s : State) :
    ((s.routeDrop m).2).start = s.start ∧ ((s.routeDrop m).2).line = s.line ∧ ((s.routeDrop m).2).clock = s.clock ∧
    ((s.routeDrop m).2).visits = s.visits ∧ ((s.routeDrop m).2).reader = s.reader ∧
    ((s.routeDrop m).2).booking = s.booking ∧ ((s.routeDrop m).2).capacity = s.capacity ∧
    ((s.routeDrop m).2).survey = s.survey ∧ ((s.routeDrop m).2).out = s.out ∧
    ((s.routeDrop m).2).freeIndex = s.freeIndex ∧ ((s.routeDrop m).2).pending = s.pending := by
  unfold State.routeDrop
  repeat' split
  all_goals simp

@[simp] theorem State.routeDrops_frame (ms : List Move) (s : State) :
    ((routeDrops ms s).2).start = s.start ∧ ((routeDrops ms s).2).line = s.line ∧
    ((routeDrops ms s).2).clock = s.clock ∧ ((routeDrops ms s).2).visits = s.visits ∧
    ((routeDrops ms s).2).reader = s.reader ∧ ((routeDrops ms s).2).booking = s.booking ∧
    ((routeDrops ms s).2).capacity = s.capacity ∧ ((routeDrops ms s).2).survey = s.survey ∧
    ((routeDrops ms s).2).out = s.out ∧ ((routeDrops ms s).2).freeIndex = s.freeIndex ∧
    ((routeDrops ms s).2).pending = s.pending := by
  induction ms generalizing s with
  | nil => simp [routeDrops]
  | cons m ms ih => simp [routeDrops, ih]

@[simp] theorem State.routeVerdict_frame (v : Visit) (vd : Verdict) (s : State) :
    ((s.routeVerdict v vd).2).start = s.start ∧ ((s.routeVerdict v vd).2).line = s.line ∧
    ((s.routeVerdict v vd).2).clock = s.clock ∧ ((s.routeVerdict v vd).2).visits = s.visits ∧
    ((s.routeVerdict v vd).2).reader = s.reader ∧ ((s.routeVerdict v vd).2).booking = s.booking ∧
    ((s.routeVerdict v vd).2).capacity = s.capacity ∧ ((s.routeVerdict v vd).2).survey = s.survey ∧
    ((s.routeVerdict v vd).2).out = s.out ∧ ((s.routeVerdict v vd).2).freeIndex = s.freeIndex ∧
    ((s.routeVerdict v vd).2).pending = s.pending := by
  unfold State.routeVerdict
  split <;> simp

@[simp] theorem State.sendMessage_frame (m : Message) (busy : Nat) (s : State) :
    (s.sendMessage m busy).start = s.start ∧ (s.sendMessage m busy).line = s.line ∧
    (s.sendMessage m busy).clock = s.clock ∧ (s.sendMessage m busy).visits = s.visits ∧
    (s.sendMessage m busy).booking = s.booking ∧ (s.sendMessage m busy).capacity = s.capacity ∧
    (s.sendMessage m busy).survey = s.survey ∧ (s.sendMessage m busy).yard = s.yard ∧
    (s.sendMessage m busy).outcome = s.outcome ∧ (s.sendMessage m busy).bus = s.bus ∧
    (s.sendMessage m busy).freeIndex = s.freeIndex ∧ (s.sendMessage m busy).pending = s.pending := by simp [State.sendMessage]

@[simp] theorem State.pumpDisplay_frame (s : State) :
    (s.pumpDisplay).start = s.start ∧ (s.pumpDisplay).line = s.line ∧ (s.pumpDisplay).clock = s.clock ∧
    (s.pumpDisplay).visits = s.visits ∧ (s.pumpDisplay).booking = s.booking ∧ (s.pumpDisplay).capacity = s.capacity ∧
    (s.pumpDisplay).survey = s.survey ∧ (s.pumpDisplay).yard = s.yard ∧ (s.pumpDisplay).outcome = s.outcome ∧
    (s.pumpDisplay).bus = s.bus ∧ (s.pumpDisplay).freeIndex = s.freeIndex ∧ (s.pumpDisplay).pending = s.pending := by
  unfold State.pumpDisplay
  repeat' split
  all_goals simp

@[simp] theorem State.joinQueue_frame (m : Message) (s : State) :
    (s.joinQueue m).start = s.start ∧ (s.joinQueue m).line = s.line ∧ (s.joinQueue m).clock = s.clock ∧
    (s.joinQueue m).visits = s.visits ∧ (s.joinQueue m).booking = s.booking ∧ (s.joinQueue m).capacity = s.capacity ∧
    (s.joinQueue m).survey = s.survey ∧ (s.joinQueue m).outcome = s.outcome ∧ (s.joinQueue m).bus = s.bus ∧
    (s.joinQueue m).freeIndex = s.freeIndex ∧ (s.joinQueue m).pending = s.pending := by simp [State.joinQueue]

@[simp] theorem State.holdMessage_frame (m : Message) (s : State) :
    (s.holdMessage m).start = s.start ∧ (s.holdMessage m).line = s.line ∧ (s.holdMessage m).clock = s.clock ∧
    (s.holdMessage m).visits = s.visits ∧ (s.holdMessage m).reader = s.reader ∧
    (s.holdMessage m).booking = s.booking ∧ (s.holdMessage m).capacity = s.capacity ∧
    (s.holdMessage m).survey = s.survey ∧ (s.holdMessage m).outcome = s.outcome ∧ (s.holdMessage m).bus = s.bus ∧
    (s.holdMessage m).out = s.out ∧ (s.holdMessage m).freeIndex = s.freeIndex ∧
    (s.holdMessage m).pending = s.pending := by simp [State.holdMessage]

@[simp] theorem State.placeVisitMessage_frame (m : Message) (s : State) :
    (s.placeVisitMessage m).start = s.start ∧ (s.placeVisitMessage m).line = s.line ∧
    (s.placeVisitMessage m).clock = s.clock ∧ (s.placeVisitMessage m).visits = s.visits ∧
    (s.placeVisitMessage m).booking = s.booking ∧ (s.placeVisitMessage m).capacity = s.capacity ∧
    (s.placeVisitMessage m).survey = s.survey ∧ (s.placeVisitMessage m).outcome = s.outcome ∧
    (s.placeVisitMessage m).bus = s.bus ∧ (s.placeVisitMessage m).freeIndex = s.freeIndex ∧
    (s.placeVisitMessage m).pending = s.pending := by
  unfold State.placeVisitMessage
  repeat' split
  all_goals simp

@[simp] theorem State.placeLaneClosed_frame (s : State) :
    (s.placeLaneClosed).start = s.start ∧ (s.placeLaneClosed).line = s.line ∧ (s.placeLaneClosed).clock = s.clock ∧
    (s.placeLaneClosed).visits = s.visits ∧ (s.placeLaneClosed).booking = s.booking ∧
    (s.placeLaneClosed).capacity = s.capacity ∧ (s.placeLaneClosed).survey = s.survey ∧
    (s.placeLaneClosed).outcome = s.outcome ∧ (s.placeLaneClosed).bus = s.bus ∧
    (s.placeLaneClosed).freeIndex = s.freeIndex ∧ (s.placeLaneClosed).pending = s.pending := by
  unfold State.placeLaneClosed
  split <;> simp

@[simp] theorem State.joinHeld_frame (s : State) :
    (s.joinHeld).start = s.start ∧ (s.joinHeld).line = s.line ∧ (s.joinHeld).clock = s.clock ∧
    (s.joinHeld).visits = s.visits ∧ (s.joinHeld).booking = s.booking ∧ (s.joinHeld).capacity = s.capacity ∧
    (s.joinHeld).survey = s.survey ∧ (s.joinHeld).outcome = s.outcome ∧ (s.joinHeld).bus = s.bus ∧
    (s.joinHeld).freeIndex = s.freeIndex ∧ (s.joinHeld).pending = s.pending := by
  unfold State.joinHeld
  repeat' split
  all_goals simp

@[simp] theorem State.dropMessages_frame (n : VisitNumber) (s : State) :
    (s.dropMessages n).start = s.start ∧ (s.dropMessages n).line = s.line ∧ (s.dropMessages n).clock = s.clock ∧
    (s.dropMessages n).visits = s.visits ∧ (s.dropMessages n).booking = s.booking ∧
    (s.dropMessages n).capacity = s.capacity ∧ (s.dropMessages n).survey = s.survey ∧
    (s.dropMessages n).outcome = s.outcome ∧ (s.dropMessages n).bus = s.bus ∧
    (s.dropMessages n).freeIndex = s.freeIndex ∧ (s.dropMessages n).pending = s.pending := by
  unfold State.dropMessages
  dsimp only
  repeat' split
  all_goals simp

@[simp] theorem State.barrierSense_frame (s : State) :
    (s.barrierSense).start = s.start ∧ (s.barrierSense).line = s.line ∧ (s.barrierSense).clock = s.clock ∧
    (s.barrierSense).visits = s.visits ∧ (s.barrierSense).reader = s.reader ∧ (s.barrierSense).booking = s.booking ∧
    (s.barrierSense).capacity = s.capacity ∧ (s.barrierSense).survey = s.survey ∧ (s.barrierSense).yard = s.yard ∧
    (s.barrierSense).bus = s.bus ∧ (s.barrierSense).out = s.out ∧ (s.barrierSense).freeIndex = s.freeIndex ∧
    (s.barrierSense).pending = s.pending := by simp [State.barrierSense]

@[simp] theorem State.driveRaise_frame (b : Bool) (s : State) :
    (s.driveRaise b).start = s.start ∧ (s.driveRaise b).clock = s.clock ∧ (s.driveRaise b).visits = s.visits ∧
    (s.driveRaise b).reader = s.reader ∧ (s.driveRaise b).booking = s.booking ∧
    (s.driveRaise b).capacity = s.capacity ∧ (s.driveRaise b).survey = s.survey ∧ (s.driveRaise b).yard = s.yard ∧
    (s.driveRaise b).bus = s.bus ∧ (s.driveRaise b).out = s.out ∧ (s.driveRaise b).freeIndex = s.freeIndex ∧
    (s.driveRaise b).pending = s.pending := by simp [State.driveRaise]

@[simp] theorem State.barrierSeenUp_frame (s : State) :
    (s.barrierSeenUp).start = s.start ∧ (s.barrierSeenUp).line = s.line ∧ (s.barrierSeenUp).clock = s.clock ∧
    (s.barrierSeenUp).reader = s.reader ∧ (s.barrierSeenUp).booking = s.booking ∧
    (s.barrierSeenUp).capacity = s.capacity ∧ (s.barrierSeenUp).survey = s.survey ∧
    (s.barrierSeenUp).outcome = s.outcome ∧ (s.barrierSeenUp).bus = s.bus ∧ (s.barrierSeenUp).out = s.out ∧
    (s.barrierSeenUp).freeIndex = s.freeIndex ∧ (s.barrierSeenUp).pending = s.pending := by
  unfold State.barrierSeenUp
  split <;> simp

@[simp] theorem State.raiseFor_frame (n : VisitNumber) (s : State) :
    (s.raiseFor n).start = s.start ∧ (s.raiseFor n).clock = s.clock ∧ (s.raiseFor n).reader = s.reader ∧
    (s.raiseFor n).booking = s.booking ∧ (s.raiseFor n).capacity = s.capacity ∧ (s.raiseFor n).survey = s.survey ∧
    (s.raiseFor n).bus = s.bus ∧ (s.raiseFor n).out = s.out ∧ (s.raiseFor n).freeIndex = s.freeIndex ∧
    (s.raiseFor n).pending = s.pending := by
  unfold State.raiseFor
  dsimp only
  split <;> simp

@[simp] theorem State.testRaise_frame (s : State) :
    (s.testRaise).start = s.start ∧ (s.testRaise).clock = s.clock ∧ (s.testRaise).reader = s.reader ∧
    (s.testRaise).booking = s.booking ∧ (s.testRaise).capacity = s.capacity ∧ (s.testRaise).survey = s.survey ∧
    (s.testRaise).bus = s.bus ∧ (s.testRaise).out = s.out ∧ (s.testRaise).freeIndex = s.freeIndex ∧
    (s.testRaise).pending = s.pending := by
  unfold State.testRaise
  repeat' split
  all_goals simp

@[simp] theorem State.withdrawRaise_frame (s : State) :
    (s.withdrawRaise).start = s.start ∧ (s.withdrawRaise).clock = s.clock ∧ (s.withdrawRaise).visits = s.visits ∧
    (s.withdrawRaise).reader = s.reader ∧ (s.withdrawRaise).booking = s.booking ∧
    (s.withdrawRaise).capacity = s.capacity ∧ (s.withdrawRaise).survey = s.survey ∧ (s.withdrawRaise).bus = s.bus ∧
    (s.withdrawRaise).out = s.out ∧ (s.withdrawRaise).freeIndex = s.freeIndex ∧
    (s.withdrawRaise).pending = s.pending := by
  unfold State.withdrawRaise
  dsimp only
  split <;> simp

@[simp] theorem State.raiseVisitLeaves_frame (n : VisitNumber) (s : State) :
    (s.raiseVisitLeaves n).start = s.start ∧ (s.raiseVisitLeaves n).clock = s.clock ∧
    (s.raiseVisitLeaves n).visits = s.visits ∧ (s.raiseVisitLeaves n).reader = s.reader ∧
    (s.raiseVisitLeaves n).booking = s.booking ∧ (s.raiseVisitLeaves n).capacity = s.capacity ∧
    (s.raiseVisitLeaves n).survey = s.survey ∧ (s.raiseVisitLeaves n).bus = s.bus ∧
    (s.raiseVisitLeaves n).out = s.out ∧ (s.raiseVisitLeaves n).freeIndex = s.freeIndex ∧
    (s.raiseVisitLeaves n).pending = s.pending := by
  unfold State.raiseVisitLeaves
  dsimp only
  repeat' split
  all_goals simp

@[simp] theorem State.yardLoopXVacated_frame (s : State) :
    (s.yardLoopXVacated).start = s.start ∧ (s.yardLoopXVacated).clock = s.clock ∧
    (s.yardLoopXVacated).reader = s.reader ∧ (s.yardLoopXVacated).booking = s.booking ∧
    (s.yardLoopXVacated).capacity = s.capacity ∧ (s.yardLoopXVacated).survey = s.survey ∧
    (s.yardLoopXVacated).bus = s.bus ∧ (s.yardLoopXVacated).out = s.out ∧
    (s.yardLoopXVacated).freeIndex = s.freeIndex ∧ (s.yardLoopXVacated).pending = s.pending := by
  unfold State.yardLoopXVacated
  split <;> simp

@[simp] theorem State.barUpUp_frame (s : State) :
    (s.barUpUp).start = s.start ∧ (s.barUpUp).line = s.line ∧ (s.barUpUp).clock = s.clock ∧
    (s.barUpUp).reader = s.reader ∧ (s.barUpUp).booking = s.booking ∧ (s.barUpUp).capacity = s.capacity ∧
    (s.barUpUp).survey = s.survey ∧ (s.barUpUp).out = s.out ∧ (s.barUpUp).freeIndex = s.freeIndex ∧
    (s.barUpUp).pending = s.pending := by
  unfold State.barUpUp
  split <;> simp

@[simp] theorem State.barUpDown_frame (s : State) :
    (s.barUpDown).start = s.start ∧ (s.barUpDown).clock = s.clock ∧ (s.barUpDown).reader = s.reader ∧
    (s.barUpDown).booking = s.booking ∧ (s.barUpDown).capacity = s.capacity ∧ (s.barUpDown).survey = s.survey ∧
    (s.barUpDown).out = s.out ∧ (s.barUpDown).freeIndex = s.freeIndex ∧ (s.barUpDown).pending = s.pending := by
  unfold State.barUpDown
  split <;> simp

@[simp] theorem State.upCheckExpired_frame (s : State) :
    (s.upCheckExpired).start = s.start ∧ (s.upCheckExpired).line = s.line ∧ (s.upCheckExpired).clock = s.clock ∧
    (s.upCheckExpired).visits = s.visits ∧ (s.upCheckExpired).reader = s.reader ∧
    (s.upCheckExpired).booking = s.booking ∧ (s.upCheckExpired).capacity = s.capacity ∧
    (s.upCheckExpired).survey = s.survey ∧ (s.upCheckExpired).out = s.out ∧
    (s.upCheckExpired).freeIndex = s.freeIndex ∧ (s.upCheckExpired).pending = s.pending := by
  unfold State.upCheckExpired
  dsimp only
  repeat' split
  all_goals simp

@[simp] theorem State.settleExpired_frame (s : State) :
    (s.settleExpired).start = s.start ∧ (s.settleExpired).clock = s.clock ∧ (s.settleExpired).reader = s.reader ∧
    (s.settleExpired).booking = s.booking ∧ (s.settleExpired).capacity = s.capacity ∧
    (s.settleExpired).survey = s.survey ∧ (s.settleExpired).out = s.out ∧ (s.settleExpired).freeIndex = s.freeIndex ∧
    (s.settleExpired).pending = s.pending := by
  unfold State.settleExpired
  dsimp only
  repeat' split
  all_goals simp

@[simp] theorem State.barrierAtFix_frame (s : State) :
    (s.barrierAtFix).start = s.start ∧ (s.barrierAtFix).line = s.line ∧ (s.barrierAtFix).clock = s.clock ∧
    (s.barrierAtFix).visits = s.visits ∧ (s.barrierAtFix).reader = s.reader ∧ (s.barrierAtFix).booking = s.booking ∧
    (s.barrierAtFix).capacity = s.capacity ∧ (s.barrierAtFix).survey = s.survey ∧
    (s.barrierAtFix).outcome = s.outcome ∧ (s.barrierAtFix).bus = s.bus ∧ (s.barrierAtFix).out = s.out ∧
    (s.barrierAtFix).freeIndex = s.freeIndex ∧ (s.barrierAtFix).pending = s.pending := by
  unfold State.barrierAtFix
  split <;> simp

@[simp] theorem State.settleDirection_frame (m : Message) (s : State) :
    (s.settleDirection m).start = s.start ∧ (s.settleDirection m).line = s.line ∧
    (s.settleDirection m).clock = s.clock ∧ (s.settleDirection m).reader = s.reader ∧
    (s.settleDirection m).booking = s.booking ∧ (s.settleDirection m).capacity = s.capacity ∧
    (s.settleDirection m).survey = s.survey ∧ (s.settleDirection m).yard = s.yard ∧
    (s.settleDirection m).outcome = s.outcome ∧ (s.settleDirection m).bus = s.bus ∧
    (s.settleDirection m).out = s.out ∧ (s.settleDirection m).freeIndex = s.freeIndex ∧
    (s.settleDirection m).pending = s.pending := by
  unfold State.settleDirection
  repeat' split
  all_goals simp

@[simp] theorem State.endDelivery_frame (m : Message) (s : State) :
    (s.endDelivery m).start = s.start ∧ (s.endDelivery m).clock = s.clock ∧ (s.endDelivery m).booking = s.booking ∧
    (s.endDelivery m).capacity = s.capacity ∧ (s.endDelivery m).survey = s.survey ∧ (s.endDelivery m).bus = s.bus ∧
    (s.endDelivery m).freeIndex = s.freeIndex ∧ (s.endDelivery m).pending = s.pending := by simp [State.endDelivery]

@[simp] theorem State.deliveryAccepted_frame (s : State) :
    (s.deliveryAccepted).start = s.start ∧ (s.deliveryAccepted).clock = s.clock ∧
    (s.deliveryAccepted).booking = s.booking ∧ (s.deliveryAccepted).capacity = s.capacity ∧
    (s.deliveryAccepted).survey = s.survey ∧ (s.deliveryAccepted).bus = s.bus ∧
    (s.deliveryAccepted).freeIndex = s.freeIndex ∧ (s.deliveryAccepted).pending = s.pending := by
  unfold State.deliveryAccepted
  split <;> simp

@[simp] theorem State.deliveryGivenUp_frame (s : State) :
    (s.deliveryGivenUp).start = s.start ∧ (s.deliveryGivenUp).clock = s.clock ∧
    (s.deliveryGivenUp).booking = s.booking ∧ (s.deliveryGivenUp).capacity = s.capacity ∧
    (s.deliveryGivenUp).survey = s.survey ∧ (s.deliveryGivenUp).freeIndex = s.freeIndex ∧
    (s.deliveryGivenUp).pending = s.pending := by
  unfold State.deliveryGivenUp
  repeat' split
  all_goals simp

@[simp] theorem State.deliveryBusy_frame (s : State) :
    (s.deliveryBusy).start = s.start ∧ (s.deliveryBusy).clock = s.clock ∧ (s.deliveryBusy).booking = s.booking ∧
    (s.deliveryBusy).capacity = s.capacity ∧ (s.deliveryBusy).survey = s.survey ∧
    (s.deliveryBusy).freeIndex = s.freeIndex ∧ (s.deliveryBusy).pending = s.pending := by
  unfold State.deliveryBusy
  dsimp only
  split <;> simp

@[simp] theorem State.displayAnswer_frame (toggle : Bool) (a : Answer) (s : State) :
    (s.displayAnswer toggle a).start = s.start ∧ (s.displayAnswer toggle a).clock = s.clock ∧
    (s.displayAnswer toggle a).booking = s.booking ∧ (s.displayAnswer toggle a).capacity = s.capacity ∧
    (s.displayAnswer toggle a).survey = s.survey ∧ (s.displayAnswer toggle a).freeIndex = s.freeIndex ∧
    (s.displayAnswer toggle a).pending = s.pending := by
  unfold State.displayAnswer
  repeat' split
  all_goals simp

@[simp] theorem State.displayRestarted_frame (s : State) :
    (s.displayRestarted).start = s.start ∧ (s.displayRestarted).line = s.line ∧ (s.displayRestarted).clock = s.clock ∧
    (s.displayRestarted).visits = s.visits ∧ (s.displayRestarted).booking = s.booking ∧
    (s.displayRestarted).capacity = s.capacity ∧ (s.displayRestarted).survey = s.survey ∧
    (s.displayRestarted).yard = s.yard ∧ (s.displayRestarted).outcome = s.outcome ∧ (s.displayRestarted).bus = s.bus ∧
    (s.displayRestarted).freeIndex = s.freeIndex ∧ (s.displayRestarted).pending = s.pending := by
  unfold State.displayRestarted
  dsimp only
  repeat' split
  all_goals simp

@[simp] theorem State.displayByte_frame (b : Byte) (s : State) :
    (s.displayByte b).start = s.start ∧ (s.displayByte b).clock = s.clock ∧ (s.displayByte b).booking = s.booking ∧
    (s.displayByte b).capacity = s.capacity ∧ (s.displayByte b).survey = s.survey ∧
    (s.displayByte b).freeIndex = s.freeIndex ∧ (s.displayByte b).pending = s.pending := by
  unfold State.displayByte
  split <;> simp

@[simp] theorem State.answerWaitExpired_frame (s : State) :
    (s.answerWaitExpired).start = s.start ∧ (s.answerWaitExpired).clock = s.clock ∧
    (s.answerWaitExpired).booking = s.booking ∧ (s.answerWaitExpired).capacity = s.capacity ∧
    (s.answerWaitExpired).survey = s.survey ∧ (s.answerWaitExpired).freeIndex = s.freeIndex ∧
    (s.answerWaitExpired).pending = s.pending := by
  unfold State.answerWaitExpired
  split <;> simp

@[simp] theorem State.retryWaitExpired_frame (s : State) :
    (s.retryWaitExpired).start = s.start ∧ (s.retryWaitExpired).line = s.line ∧ (s.retryWaitExpired).clock = s.clock ∧
    (s.retryWaitExpired).visits = s.visits ∧ (s.retryWaitExpired).booking = s.booking ∧
    (s.retryWaitExpired).capacity = s.capacity ∧ (s.retryWaitExpired).survey = s.survey ∧
    (s.retryWaitExpired).yard = s.yard ∧ (s.retryWaitExpired).outcome = s.outcome ∧ (s.retryWaitExpired).bus = s.bus ∧
    (s.retryWaitExpired).freeIndex = s.freeIndex ∧ (s.retryWaitExpired).pending = s.pending := by
  unfold State.retryWaitExpired
  repeat' split
  all_goals simp

@[simp] theorem State.takeNote_frame (b : Text) (w : Window) (s : State) :
    (s.takeNote b w).start = s.start ∧ (s.takeNote b w).line = s.line ∧ (s.takeNote b w).clock = s.clock ∧
    (s.takeNote b w).visits = s.visits ∧ (s.takeNote b w).reader = s.reader ∧ (s.takeNote b w).booking = s.booking ∧
    (s.takeNote b w).capacity = s.capacity ∧ (s.takeNote b w).survey = s.survey ∧
    (s.takeNote b w).outcome = s.outcome ∧ (s.takeNote b w).bus = s.bus ∧ (s.takeNote b w).out = s.out ∧
    (s.takeNote b w).freeIndex = s.freeIndex ∧ (s.takeNote b w).pending = s.pending := by
  unfold State.takeNote
  split <;> simp

@[simp] theorem State.yardRoll_frame (w : Window) (s : State) :
    (s.yardRoll w).start = s.start ∧ (s.yardRoll w).line = s.line ∧ (s.yardRoll w).clock = s.clock ∧
    (s.yardRoll w).visits = s.visits ∧ (s.yardRoll w).reader = s.reader ∧ (s.yardRoll w).booking = s.booking ∧
    (s.yardRoll w).capacity = s.capacity ∧ (s.yardRoll w).survey = s.survey ∧ (s.yardRoll w).outcome = s.outcome ∧
    (s.yardRoll w).bus = s.bus ∧ (s.yardRoll w).out = s.out ∧ (s.yardRoll w).freeIndex = s.freeIndex ∧
    (s.yardRoll w).pending = s.pending := by simp [State.yardRoll]

end Sys2Proof.Machine
end

