-- ==== Sys2Proof/Laws/Visits.lean ====
section
/-! SUPPORT. Frames of the shared operations: visits, capacity and evaluation. Each lemma names every block of the state that the operation
leaves as it was. -/

namespace Sys2Proof.Machine

@[simp] theorem State.openVisit_frame (st : SlotState) (r : List Reason) (s : State) :
    (s.openVisit st r).start = s.start ∧ (s.openVisit st r).line = s.line ∧ (s.openVisit st r).clock = s.clock ∧
    (s.openVisit st r).reader = s.reader ∧ (s.openVisit st r).booking = s.booking ∧
    (s.openVisit st r).capacity = s.capacity ∧ (s.openVisit st r).survey = s.survey ∧
    (s.openVisit st r).yard = s.yard ∧ (s.openVisit st r).outcome = s.outcome ∧ (s.openVisit st r).bus = s.bus ∧
    (s.openVisit st r).out = s.out ∧ (s.openVisit st r).freeIndex = s.freeIndex ∧
    (s.openVisit st r).pending = s.pending := by simp [State.openVisit]

@[simp] theorem State.setPendingArrivals_frame (n : Nat) (s : State) :
    (s.setPendingArrivals n).start = s.start ∧ (s.setPendingArrivals n).line = s.line ∧
    (s.setPendingArrivals n).clock = s.clock ∧ (s.setPendingArrivals n).reader = s.reader ∧
    (s.setPendingArrivals n).booking = s.booking ∧ (s.setPendingArrivals n).capacity = s.capacity ∧
    (s.setPendingArrivals n).survey = s.survey ∧ (s.setPendingArrivals n).yard = s.yard ∧
    (s.setPendingArrivals n).bus = s.bus ∧ (s.setPendingArrivals n).out = s.out ∧
    (s.setPendingArrivals n).freeIndex = s.freeIndex ∧ (s.setPendingArrivals n).pending = s.pending := by simp [State.setPendingArrivals]

@[simp] theorem State.setMode_frame (m : LaneMode) (s : State) :
    (s.setMode m).start = s.start ∧ (s.setMode m).line = s.line ∧ (s.setMode m).clock = s.clock ∧
    (s.setMode m).reader = s.reader ∧ (s.setMode m).booking = s.booking ∧ (s.setMode m).capacity = s.capacity ∧
    (s.setMode m).survey = s.survey ∧ (s.setMode m).yard = s.yard ∧ (s.setMode m).out = s.out ∧
    (s.setMode m).freeIndex = s.freeIndex ∧ (s.setMode m).pending = s.pending := by simp [State.setMode]

@[simp] theorem State.writeVerdict_frame (n : VisitNumber) (vd : Verdict) (s : State) :
    (s.writeVerdict n vd).start = s.start ∧ (s.writeVerdict n vd).line = s.line ∧
    (s.writeVerdict n vd).clock = s.clock ∧ (s.writeVerdict n vd).reader = s.reader ∧
    (s.writeVerdict n vd).booking = s.booking ∧ (s.writeVerdict n vd).capacity = s.capacity ∧
    (s.writeVerdict n vd).survey = s.survey ∧ (s.writeVerdict n vd).yard = s.yard ∧
    (s.writeVerdict n vd).outcome = s.outcome ∧ (s.writeVerdict n vd).bus = s.bus ∧
    (s.writeVerdict n vd).out = s.out ∧ (s.writeVerdict n vd).freeIndex = s.freeIndex ∧
    (s.writeVerdict n vd).pending = s.pending := by simp [State.writeVerdict]

@[simp] theorem State.giveVerdict_frame (n : VisitNumber) (vd : Verdict) (s : State) :
    (s.giveVerdict n vd).start = s.start ∧ (s.giveVerdict n vd).line = s.line ∧ (s.giveVerdict n vd).clock = s.clock ∧
    (s.giveVerdict n vd).booking = s.booking ∧ (s.giveVerdict n vd).capacity = s.capacity ∧
    (s.giveVerdict n vd).survey = s.survey ∧ (s.giveVerdict n vd).freeIndex = s.freeIndex ∧
    (s.giveVerdict n vd).pending = s.pending := by
  unfold State.giveVerdict
  split <;> simp

@[simp] theorem State.giveParkedAdmission_frame (n : VisitNumber) (vd : Verdict) (s : State) :
    (s.giveParkedAdmission n vd).start = s.start ∧ (s.giveParkedAdmission n vd).line = s.line ∧
    (s.giveParkedAdmission n vd).clock = s.clock ∧ (s.giveParkedAdmission n vd).reader = s.reader ∧
    (s.giveParkedAdmission n vd).booking = s.booking ∧ (s.giveParkedAdmission n vd).capacity = s.capacity ∧
    (s.giveParkedAdmission n vd).survey = s.survey ∧ (s.giveParkedAdmission n vd).out = s.out ∧
    (s.giveParkedAdmission n vd).freeIndex = s.freeIndex ∧ (s.giveParkedAdmission n vd).pending = s.pending := by
  unfold State.giveParkedAdmission
  split <;> simp

@[simp] theorem State.refuseVisit_frame (n : VisitNumber) (s : State) :
    (s.refuseVisit n).start = s.start ∧ (s.refuseVisit n).line = s.line ∧ (s.refuseVisit n).clock = s.clock ∧
    (s.refuseVisit n).capacity = s.capacity ∧ (s.refuseVisit n).survey = s.survey ∧
    (s.refuseVisit n).freeIndex = s.freeIndex ∧ (s.refuseVisit n).pending = s.pending := by
  unfold State.refuseVisit
  repeat' split
  all_goals simp

@[simp] theorem State.admitWith_frame (n : VisitNumber) (f : FlexSource) (s : State) :
    (s.admitWith n f).start = s.start ∧ (s.admitWith n f).line = s.line ∧ (s.admitWith n f).clock = s.clock ∧
    (s.admitWith n f).booking = s.booking ∧ (s.admitWith n f).capacity = s.capacity ∧
    (s.admitWith n f).survey = s.survey ∧ (s.admitWith n f).freeIndex = s.freeIndex ∧
    (s.admitWith n f).pending = s.pending := by
  unfold State.admitWith
  split <;> simp

@[simp] theorem State.enterClerkHold_frame (n : VisitNumber) (s : State) :
    (s.enterClerkHold n).start = s.start ∧ (s.enterClerkHold n).line = s.line ∧ (s.enterClerkHold n).clock = s.clock ∧
    (s.enterClerkHold n).booking = s.booking ∧ (s.enterClerkHold n).capacity = s.capacity ∧
    (s.enterClerkHold n).survey = s.survey ∧ (s.enterClerkHold n).freeIndex = s.freeIndex ∧
    (s.enterClerkHold n).pending = s.pending := by
  unfold State.enterClerkHold
  repeat' split
  all_goals simp

@[simp] theorem State.giveNoCapacity_frame (n : VisitNumber) (s : State) :
    (s.giveNoCapacity n).start = s.start ∧ (s.giveNoCapacity n).line = s.line ∧ (s.giveNoCapacity n).clock = s.clock ∧
    (s.giveNoCapacity n).booking = s.booking ∧ (s.giveNoCapacity n).capacity = s.capacity ∧
    (s.giveNoCapacity n).survey = s.survey ∧ (s.giveNoCapacity n).freeIndex = s.freeIndex ∧
    (s.giveNoCapacity n).pending = s.pending := by simp [State.giveNoCapacity]

@[simp] theorem State.enterPlaceHold_frame (n : VisitNumber) (s : State) :
    (s.enterPlaceHold n).start = s.start ∧ (s.enterPlaceHold n).line = s.line ∧ (s.enterPlaceHold n).clock = s.clock ∧
    (s.enterPlaceHold n).booking = s.booking ∧ (s.enterPlaceHold n).capacity = s.capacity ∧
    (s.enterPlaceHold n).survey = s.survey ∧ (s.enterPlaceHold n).freeIndex = s.freeIndex ∧
    (s.enterPlaceHold n).pending = s.pending := by simp [State.enterPlaceHold]

@[simp] theorem State.openPendingArrival_frame (s : State) :
    (s.openPendingArrival).start = s.start ∧ (s.openPendingArrival).line = s.line ∧
    (s.openPendingArrival).clock = s.clock ∧ (s.openPendingArrival).reader = s.reader ∧
    (s.openPendingArrival).booking = s.booking ∧ (s.openPendingArrival).capacity = s.capacity ∧
    (s.openPendingArrival).survey = s.survey ∧ (s.openPendingArrival).yard = s.yard ∧
    (s.openPendingArrival).bus = s.bus ∧ (s.openPendingArrival).out = s.out ∧
    (s.openPendingArrival).freeIndex = s.freeIndex ∧ (s.openPendingArrival).pending = s.pending := by
  unfold State.openPendingArrival
  split <;> simp

@[simp] theorem State.endDraining_frame (s : State) :
    (s.endDraining).start = s.start ∧ (s.endDraining).line = s.line ∧ (s.endDraining).clock = s.clock ∧
    (s.endDraining).reader = s.reader ∧ (s.endDraining).booking = s.booking ∧ (s.endDraining).capacity = s.capacity ∧
    (s.endDraining).survey = s.survey ∧ (s.endDraining).yard = s.yard ∧ (s.endDraining).out = s.out ∧
    (s.endDraining).freeIndex = s.freeIndex ∧ (s.endDraining).pending = s.pending := by
  unfold State.endDraining
  split <;> simp

@[simp] theorem State.laneLeft_frame (n : VisitNumber) (s : State) :
    (s.laneLeft n).start = s.start ∧ (s.laneLeft n).clock = s.clock ∧ (s.laneLeft n).booking = s.booking ∧
    (s.laneLeft n).capacity = s.capacity ∧ (s.laneLeft n).survey = s.survey ∧ (s.laneLeft n).freeIndex = s.freeIndex ∧
    (s.laneLeft n).pending = s.pending := by simp [State.laneLeft]

@[simp] theorem State.fillPlace_frame (v : Visit) (s : State) :
    (s.fillPlace v).start = s.start ∧ (s.fillPlace v).line = s.line ∧ (s.fillPlace v).clock = s.clock ∧
    (s.fillPlace v).visits = s.visits ∧ (s.fillPlace v).reader = s.reader ∧ (s.fillPlace v).booking = s.booking ∧
    (s.fillPlace v).capacity = s.capacity ∧ (s.fillPlace v).survey = s.survey ∧ (s.fillPlace v).yard = s.yard ∧
    (s.fillPlace v).out = s.out ∧ (s.fillPlace v).freeIndex = s.freeIndex ∧ (s.fillPlace v).pending = s.pending := by
  unfold State.fillPlace
  split <;> simp

@[simp] theorem State.endClaimAtClose_frame (v : Visit) (s : State) :
    (s.endClaimAtClose v).start = s.start ∧ (s.endClaimAtClose v).line = s.line ∧
    (s.endClaimAtClose v).clock = s.clock ∧ (s.endClaimAtClose v).reader = s.reader ∧
    (s.endClaimAtClose v).capacity = s.capacity ∧ (s.endClaimAtClose v).survey = s.survey ∧
    (s.endClaimAtClose v).yard = s.yard ∧ (s.endClaimAtClose v).out = s.out ∧
    (s.endClaimAtClose v).freeIndex = s.freeIndex ∧ (s.endClaimAtClose v).pending = s.pending := by
  unfold State.endClaimAtClose
  split <;> simp

@[simp] theorem State.freeSlot_frame (n : VisitNumber) (s : State) :
    (s.freeSlot n).start = s.start ∧ (s.freeSlot n).line = s.line ∧ (s.freeSlot n).clock = s.clock ∧
    (s.freeSlot n).reader = s.reader ∧ (s.freeSlot n).booking = s.booking ∧ (s.freeSlot n).capacity = s.capacity ∧
    (s.freeSlot n).survey = s.survey ∧ (s.freeSlot n).yard = s.yard ∧ (s.freeSlot n).outcome = s.outcome ∧
    (s.freeSlot n).bus = s.bus ∧ (s.freeSlot n).out = s.out ∧ (s.freeSlot n).freeIndex = s.freeIndex ∧
    (s.freeSlot n).pending = s.pending := by
  unfold State.freeSlot
  split <;> simp

@[simp] theorem State.closeVisit_frame (n : VisitNumber) (s : State) :
    (s.closeVisit n).start = s.start ∧ (s.closeVisit n).clock = s.clock ∧ (s.closeVisit n).capacity = s.capacity ∧
    (s.closeVisit n).survey = s.survey ∧ (s.closeVisit n).freeIndex = s.freeIndex ∧
    (s.closeVisit n).pending = s.pending := by
  unfold State.closeVisit
  dsimp only
  repeat' split
  all_goals simp

@[simp] theorem State.moveToParked_frame (v : Visit) (s : State) :
    (s.moveToParked v).start = s.start ∧ (s.moveToParked v).clock = s.clock ∧ (s.moveToParked v).booking = s.booking ∧
    (s.moveToParked v).capacity = s.capacity ∧ (s.moveToParked v).survey = s.survey ∧
    (s.moveToParked v).freeIndex = s.freeIndex ∧ (s.moveToParked v).pending = s.pending := by simp [State.moveToParked]

@[simp] theorem State.leaveOverExit_frame (v : Visit) (s : State) :
    (s.leaveOverExit v).start = s.start ∧ (s.leaveOverExit v).clock = s.clock ∧
    (s.leaveOverExit v).capacity = s.capacity ∧ (s.leaveOverExit v).survey = s.survey ∧
    (s.leaveOverExit v).freeIndex = s.freeIndex ∧ (s.leaveOverExit v).pending = s.pending := by
  unfold State.leaveOverExit
  split <;> simp

@[simp] theorem State.openAsk_frame (s : State) :
    (s.openAsk).start = s.start ∧ (s.openAsk).line = s.line ∧ (s.openAsk).clock = s.clock ∧
    (s.openAsk).visits = s.visits ∧ (s.openAsk).reader = s.reader ∧ (s.openAsk).booking = s.booking ∧
    (s.openAsk).survey = s.survey ∧ (s.openAsk).yard = s.yard ∧ (s.openAsk).out = s.out ∧
    (s.openAsk).freeIndex = s.freeIndex ∧ (s.openAsk).pending = s.pending := by
  unfold State.openAsk
  split <;> simp

@[simp] theorem State.serveWaiter_frame (n : VisitNumber) (r : List VisitNumber) (f : FlexSource) (s : State) :
    (s.serveWaiter n r f).start = s.start ∧ (s.serveWaiter n r f).line = s.line ∧
    (s.serveWaiter n r f).clock = s.clock ∧ (s.serveWaiter n r f).booking = s.booking ∧
    (s.serveWaiter n r f).survey = s.survey ∧ (s.serveWaiter n r f).freeIndex = s.freeIndex ∧
    (s.serveWaiter n r f).pending = s.pending := by simp [State.serveWaiter]

@[simp] theorem State.nextAsk_frame (f : FlexSource) (k : Nat) (s : State) :
    (State.nextAsk f k s).start = s.start ∧ (State.nextAsk f k s).line = s.line ∧
    (State.nextAsk f k s).clock = s.clock ∧ (State.nextAsk f k s).booking = s.booking ∧
    (State.nextAsk f k s).survey = s.survey ∧ (State.nextAsk f k s).freeIndex = s.freeIndex ∧
    (State.nextAsk f k s).pending = s.pending := by
  induction k generalizing s with
  | zero => simp [State.nextAsk]
  | succ k ih =>
    unfold State.nextAsk
    repeat' split
    all_goals simp [ih]

@[simp] theorem State.checkWaiters_frame (f : FlexSource) (s : State) :
    (s.checkWaiters f).start = s.start ∧ (s.checkWaiters f).line = s.line ∧ (s.checkWaiters f).clock = s.clock ∧
    (s.checkWaiters f).booking = s.booking ∧ (s.checkWaiters f).survey = s.survey ∧
    (s.checkWaiters f).freeIndex = s.freeIndex ∧ (s.checkWaiters f).pending = s.pending := by simp [State.checkWaiters]

@[simp] theorem State.spareRose_frame (f : FlexSource) (s : State) :
    (s.spareRose f).start = s.start ∧ (s.spareRose f).line = s.line ∧ (s.spareRose f).clock = s.clock ∧
    (s.spareRose f).booking = s.booking ∧ (s.spareRose f).survey = s.survey ∧
    (s.spareRose f).freeIndex = s.freeIndex ∧ (s.spareRose f).pending = s.pending := by
  unfold State.spareRose
  split <;> simp

@[simp] theorem State.askFails_frame (s : State) :
    (s.askFails).start = s.start ∧ (s.askFails).line = s.line ∧ (s.askFails).clock = s.clock ∧
    (s.askFails).booking = s.booking ∧ (s.askFails).survey = s.survey ∧ (s.askFails).freeIndex = s.freeIndex ∧
    (s.askFails).pending = s.pending := by
  unfold State.askFails
  dsimp only
  split <;> simp

@[simp] theorem State.removeWaiter_frame (n : VisitNumber) (s : State) :
    (s.removeWaiter n).start = s.start ∧ (s.removeWaiter n).line = s.line ∧ (s.removeWaiter n).clock = s.clock ∧
    (s.removeWaiter n).booking = s.booking ∧ (s.removeWaiter n).survey = s.survey ∧
    (s.removeWaiter n).freeIndex = s.freeIndex ∧ (s.removeWaiter n).pending = s.pending := by
  unfold State.removeWaiter
  repeat' split
  all_goals simp

@[simp] theorem State.flexStep_frame (n : VisitNumber) (s : State) :
    (s.flexStep n).start = s.start ∧ (s.flexStep n).line = s.line ∧ (s.flexStep n).clock = s.clock ∧
    (s.flexStep n).booking = s.booking ∧ (s.flexStep n).survey = s.survey ∧ (s.flexStep n).freeIndex = s.freeIndex ∧
    (s.flexStep n).pending = s.pending := by
  unfold State.flexStep
  dsimp only
  repeat' split
  all_goals simp

@[simp] theorem State.forcedGrant_frame (n : VisitNumber) (s : State) :
    (s.forcedGrant n).start = s.start ∧ (s.forcedGrant n).line = s.line ∧ (s.forcedGrant n).clock = s.clock ∧
    (s.forcedGrant n).reader = s.reader ∧ (s.forcedGrant n).booking = s.booking ∧
    (s.forcedGrant n).survey = s.survey ∧ (s.forcedGrant n).yard = s.yard ∧ (s.forcedGrant n).outcome = s.outcome ∧
    (s.forcedGrant n).bus = s.bus ∧ (s.forcedGrant n).out = s.out ∧ (s.forcedGrant n).freeIndex = s.freeIndex ∧
    (s.forcedGrant n).pending = s.pending := by
  unfold State.forcedGrant
  split <;> simp

@[simp] theorem State.takeOffer_frame (c : LaneId) (w : Window) (k : Byte) (s : State) :
    (s.takeOffer c w k).start = s.start ∧ (s.takeOffer c w k).line = s.line ∧ (s.takeOffer c w k).clock = s.clock ∧
    (s.takeOffer c w k).visits = s.visits ∧ (s.takeOffer c w k).reader = s.reader ∧
    (s.takeOffer c w k).booking = s.booking ∧ (s.takeOffer c w k).survey = s.survey ∧
    (s.takeOffer c w k).yard = s.yard ∧ (s.takeOffer c w k).out = s.out ∧
    (s.takeOffer c w k).freeIndex = s.freeIndex ∧ (s.takeOffer c w k).pending = s.pending := by
  unfold State.takeOffer
  repeat' split
  all_goals simp

@[simp] theorem State.takeConfirm_frame (c : LaneId) (w : Window) (k : Byte) (s : State) :
    (s.takeConfirm c w k).start = s.start ∧ (s.takeConfirm c w k).line = s.line ∧
    (s.takeConfirm c w k).clock = s.clock ∧ (s.takeConfirm c w k).booking = s.booking ∧
    (s.takeConfirm c w k).survey = s.survey ∧ (s.takeConfirm c w k).freeIndex = s.freeIndex ∧
    (s.takeConfirm c w k).pending = s.pending := by
  unfold State.takeConfirm
  dsimp only
  repeat' split
  all_goals simp

@[simp] theorem State.takeVoid_frame (c : LaneId) (w : Window) (k : Byte) (s : State) :
    (s.takeVoid c w k).start = s.start ∧ (s.takeVoid c w k).line = s.line ∧ (s.takeVoid c w k).clock = s.clock ∧
    (s.takeVoid c w k).booking = s.booking ∧ (s.takeVoid c w k).survey = s.survey ∧
    (s.takeVoid c w k).freeIndex = s.freeIndex ∧ (s.takeVoid c w k).pending = s.pending := by
  unfold State.takeVoid
  split <;> simp

@[simp] theorem State.askDeadline_frame (s : State) :
    (s.askDeadline).start = s.start ∧ (s.askDeadline).line = s.line ∧ (s.askDeadline).clock = s.clock ∧
    (s.askDeadline).booking = s.booking ∧ (s.askDeadline).survey = s.survey ∧
    (s.askDeadline).freeIndex = s.freeIndex ∧ (s.askDeadline).pending = s.pending := by
  unfold State.askDeadline
  repeat' split
  all_goals simp

@[simp] theorem State.takeAsk_frame (c : LaneId) (w : Window) (k : Byte) (s : State) :
    (s.takeAsk c w k).start = s.start ∧ (s.takeAsk c w k).line = s.line ∧ (s.takeAsk c w k).clock = s.clock ∧
    (s.takeAsk c w k).visits = s.visits ∧ (s.takeAsk c w k).reader = s.reader ∧
    (s.takeAsk c w k).booking = s.booking ∧ (s.takeAsk c w k).survey = s.survey ∧ (s.takeAsk c w k).yard = s.yard ∧
    (s.takeAsk c w k).out = s.out ∧ (s.takeAsk c w k).freeIndex = s.freeIndex ∧
    (s.takeAsk c w k).pending = s.pending := by
  unfold State.takeAsk
  repeat' split
  all_goals simp

@[simp] theorem State.takeTake_frame (c : LaneId) (w : Window) (k : Byte) (s : State) :
    (s.takeTake c w k).start = s.start ∧ (s.takeTake c w k).line = s.line ∧ (s.takeTake c w k).clock = s.clock ∧
    (s.takeTake c w k).visits = s.visits ∧ (s.takeTake c w k).reader = s.reader ∧
    (s.takeTake c w k).booking = s.booking ∧ (s.takeTake c w k).survey = s.survey ∧ (s.takeTake c w k).yard = s.yard ∧
    (s.takeTake c w k).out = s.out ∧ (s.takeTake c w k).freeIndex = s.freeIndex ∧
    (s.takeTake c w k).pending = s.pending := by
  unfold State.takeTake
  split <;> simp

@[simp] theorem State.offerReturned_frame (s : State) :
    (s.offerReturned).start = s.start ∧ (s.offerReturned).line = s.line ∧ (s.offerReturned).clock = s.clock ∧
    (s.offerReturned).booking = s.booking ∧ (s.offerReturned).survey = s.survey ∧
    (s.offerReturned).freeIndex = s.freeIndex ∧ (s.offerReturned).pending = s.pending := by simp [State.offerReturned]

@[simp] theorem State.takeDecline_frame (c : LaneId) (w : Window) (k : Byte) (s : State) :
    (s.takeDecline c w k).start = s.start ∧ (s.takeDecline c w k).line = s.line ∧
    (s.takeDecline c w k).clock = s.clock ∧ (s.takeDecline c w k).booking = s.booking ∧
    (s.takeDecline c w k).survey = s.survey ∧ (s.takeDecline c w k).freeIndex = s.freeIndex ∧
    (s.takeDecline c w k).pending = s.pending := by
  unfold State.takeDecline
  split <;> simp

@[simp] theorem State.offerExpired_frame (s : State) :
    (s.offerExpired).start = s.start ∧ (s.offerExpired).line = s.line ∧ (s.offerExpired).clock = s.clock ∧
    (s.offerExpired).booking = s.booking ∧ (s.offerExpired).survey = s.survey ∧
    (s.offerExpired).freeIndex = s.freeIndex ∧ (s.offerExpired).pending = s.pending := by
  unfold State.offerExpired
  split <;> simp

@[simp] theorem State.capacityRoll_frame (w : Window) (cls : Nat) (s : State) :
    (s.capacityRoll w cls).start = s.start ∧ (s.capacityRoll w cls).line = s.line ∧
    (s.capacityRoll w cls).clock = s.clock ∧ (s.capacityRoll w cls).booking = s.booking ∧
    (s.capacityRoll w cls).survey = s.survey ∧ (s.capacityRoll w cls).freeIndex = s.freeIndex ∧
    (s.capacityRoll w cls).pending = s.pending := by simp [State.capacityRoll]

@[simp] theorem State.portalClose_frame (n : VisitNumber) (s : State) :
    (s.portalClose n).start = s.start ∧ (s.portalClose n).line = s.line ∧ (s.portalClose n).clock = s.clock ∧
    (s.portalClose n).reader = s.reader ∧ (s.portalClose n).capacity = s.capacity ∧ (s.portalClose n).yard = s.yard ∧
    (s.portalClose n).out = s.out ∧ (s.portalClose n).freeIndex = s.freeIndex ∧
    (s.portalClose n).pending = s.pending := by
  unfold State.portalClose
  dsimp only
  split <;> simp

@[simp] theorem State.combine_frame (n : VisitNumber) (s : State) :
    (s.combine n).start = s.start ∧ (s.combine n).line = s.line ∧ (s.combine n).clock = s.clock ∧
    (s.combine n).survey = s.survey ∧ (s.combine n).freeIndex = s.freeIndex ∧ (s.combine n).pending = s.pending := by
  unfold State.combine
  repeat' split
  all_goals simp

@[simp] theorem State.reserveAndCombine_frame (n : VisitNumber) (s : State) :
    (s.reserveAndCombine n).start = s.start ∧ (s.reserveAndCombine n).line = s.line ∧
    (s.reserveAndCombine n).clock = s.clock ∧ (s.reserveAndCombine n).survey = s.survey ∧
    (s.reserveAndCombine n).freeIndex = s.freeIndex ∧ (s.reserveAndCombine n).pending = s.pending := by simp [State.reserveAndCombine]

@[simp] theorem State.evaluate_frame (n : VisitNumber) (s : State) :
    (s.evaluate n).start = s.start ∧ (s.evaluate n).line = s.line ∧ (s.evaluate n).clock = s.clock ∧
    (s.evaluate n).survey = s.survey ∧ (s.evaluate n).freeIndex = s.freeIndex ∧ (s.evaluate n).pending = s.pending := by
  unfold State.evaluate
  split <;> simp

@[simp] theorem State.placeFreed_frame (s : State) :
    (s.placeFreed).start = s.start ∧ (s.placeFreed).line = s.line ∧ (s.placeFreed).clock = s.clock ∧
    (s.placeFreed).survey = s.survey ∧ (s.placeFreed).freeIndex = s.freeIndex ∧ (s.placeFreed).pending = s.pending := by
  unfold State.placeFreed
  repeat' split
  all_goals simp

@[simp] theorem State.claimLost_frame (n : VisitNumber) (s : State) :
    (s.claimLost n).start = s.start ∧ (s.claimLost n).line = s.line ∧ (s.claimLost n).clock = s.clock ∧
    (s.claimLost n).booking = s.booking ∧ (s.claimLost n).survey = s.survey ∧
    (s.claimLost n).freeIndex = s.freeIndex ∧ (s.claimLost n).pending = s.pending := by
  unfold State.claimLost
  dsimp only
  repeat' split
  all_goals simp

@[simp] theorem State.claimCancelled_frame (n : VisitNumber) (s : State) :
    (s.claimCancelled n).start = s.start ∧ (s.claimCancelled n).line = s.line ∧ (s.claimCancelled n).clock = s.clock ∧
    (s.claimCancelled n).reader = s.reader ∧ (s.claimCancelled n).booking = s.booking ∧
    (s.claimCancelled n).capacity = s.capacity ∧ (s.claimCancelled n).survey = s.survey ∧
    (s.claimCancelled n).yard = s.yard ∧ (s.claimCancelled n).outcome = s.outcome ∧ (s.claimCancelled n).bus = s.bus ∧
    (s.claimCancelled n).out = s.out ∧ (s.claimCancelled n).freeIndex = s.freeIndex ∧
    (s.claimCancelled n).pending = s.pending := by
  unfold State.claimCancelled
  dsimp only
  repeat' split
  all_goals simp

@[simp] theorem State.takeCancel_frame (ref : Text) (s : State) :
    (s.takeCancel ref).start = s.start ∧ (s.takeCancel ref).line = s.line ∧ (s.takeCancel ref).clock = s.clock ∧
    (s.takeCancel ref).reader = s.reader ∧ (s.takeCancel ref).capacity = s.capacity ∧
    (s.takeCancel ref).survey = s.survey ∧ (s.takeCancel ref).yard = s.yard ∧ (s.takeCancel ref).outcome = s.outcome ∧
    (s.takeCancel ref).bus = s.bus ∧ (s.takeCancel ref).out = s.out ∧ (s.takeCancel ref).freeIndex = s.freeIndex ∧
    (s.takeCancel ref).pending = s.pending := by
  unfold State.takeCancel
  repeat' split
  all_goals simp

@[simp] theorem State.takeClaimFrame_frame (c : LaneId) (ref : Text) (key : GatePoint) (s : State) :
    (s.takeClaimFrame c ref key).start = s.start ∧ (s.takeClaimFrame c ref key).line = s.line ∧
    (s.takeClaimFrame c ref key).clock = s.clock ∧ (s.takeClaimFrame c ref key).survey = s.survey ∧
    (s.takeClaimFrame c ref key).freeIndex = s.freeIndex ∧ (s.takeClaimFrame c ref key).pending = s.pending := by
  unfold State.takeClaimFrame
  repeat' split
  all_goals simp

end Sys2Proof.Machine
end

