-- ==== Sys2Proof/Laws/Events.lean ====
section
/-! SUPPORT. Frames of the shared operations: reader reports, line events, clerk decisions, the clock and the bus. Each lemma names every block of the state that the operation
leaves as it was. -/

namespace Sys2Proof.Machine

/-- An answer is one output, the byte of R173. -/
@[simp] theorem State.answer_eq (ch : Channel) (a : Answer) (s : State) : s.answer ch a = s.emit (.answer ch a.byte) := by rfl
@[simp] theorem Answer.byte_accept : Answer.accept.byte = 0x01 := by rfl
@[simp] theorem Answer.byte_busy : Answer.busy.byte = 0x02 := by rfl
@[simp] theorem Answer.byte_reject : Answer.reject.byte = 0x03 := by rfl

@[simp] theorem State.attachReport_frame (n : VisitNumber) (r : Report) (s : State) :
    (s.attachReport n r).start = s.start ∧ (s.attachReport n r).line = s.line ∧ (s.attachReport n r).clock = s.clock ∧
    (s.attachReport n r).reader = s.reader ∧ (s.attachReport n r).booking = s.booking ∧
    (s.attachReport n r).capacity = s.capacity ∧ (s.attachReport n r).survey = s.survey ∧
    (s.attachReport n r).yard = s.yard ∧ (s.attachReport n r).outcome = s.outcome ∧ (s.attachReport n r).bus = s.bus ∧
    (s.attachReport n r).out = s.out ∧ (s.attachReport n r).freeIndex = s.freeIndex ∧
    (s.attachReport n r).pending = s.pending := by simp [State.attachReport]

@[simp] theorem State.placeReport_frame (ch : Channel) (r : Report) (s : State) :
    ((s.placeReport ch r).2).start = s.start ∧ ((s.placeReport ch r).2).line = s.line ∧
    ((s.placeReport ch r).2).clock = s.clock ∧ ((s.placeReport ch r).2).booking = s.booking ∧
    ((s.placeReport ch r).2).capacity = s.capacity ∧ ((s.placeReport ch r).2).survey = s.survey ∧
    ((s.placeReport ch r).2).yard = s.yard ∧ ((s.placeReport ch r).2).out = s.out ∧
    ((s.placeReport ch r).2).freeIndex = s.freeIndex ∧ ((s.placeReport ch r).2).pending = s.pending := by
  unfold State.placeReport
  repeat' split
  all_goals simp

@[simp] theorem State.takeReport_frame (ch : Channel) (t : Bool) (r : Report) (s : State) :
    (s.takeReport ch t r).start = s.start ∧ (s.takeReport ch t r).line = s.line ∧
    (s.takeReport ch t r).clock = s.clock ∧ (s.takeReport ch t r).booking = s.booking ∧
    (s.takeReport ch t r).capacity = s.capacity ∧ (s.takeReport ch t r).survey = s.survey ∧
    (s.takeReport ch t r).yard = s.yard ∧ (s.takeReport ch t r).freeIndex = s.freeIndex ∧
    (s.takeReport ch t r).pending = s.pending := by
  unfold State.takeReport
  dsimp only
  repeat' split
  all_goals simp

@[simp] theorem State.takeHello_frame (ch : Channel) (s : State) :
    (s.takeHello ch).start = s.start ∧ (s.takeHello ch).line = s.line ∧ (s.takeHello ch).clock = s.clock ∧
    (s.takeHello ch).visits = s.visits ∧ (s.takeHello ch).booking = s.booking ∧
    (s.takeHello ch).capacity = s.capacity ∧ (s.takeHello ch).survey = s.survey ∧ (s.takeHello ch).yard = s.yard ∧
    (s.takeHello ch).outcome = s.outcome ∧ (s.takeHello ch).bus = s.bus ∧ (s.takeHello ch).freeIndex = s.freeIndex ∧
    (s.takeHello ch).pending = s.pending := by simp [State.takeHello]

@[simp] theorem State.readerMessage_frame (ch : Channel) (m : Option ReaderMessage) (s : State) :
    (s.readerMessage ch m).start = s.start ∧ (s.readerMessage ch m).line = s.line ∧
    (s.readerMessage ch m).clock = s.clock ∧ (s.readerMessage ch m).booking = s.booking ∧
    (s.readerMessage ch m).capacity = s.capacity ∧ (s.readerMessage ch m).survey = s.survey ∧
    (s.readerMessage ch m).yard = s.yard ∧ (s.readerMessage ch m).freeIndex = s.freeIndex ∧
    (s.readerMessage ch m).pending = s.pending := by
  unfold State.readerMessage
  repeat' split
  all_goals simp

@[simp] theorem State.attachHeld_frame (n : VisitNumber) (ch : Channel) (s : State) :
    (s.attachHeld n ch).start = s.start ∧ (s.attachHeld n ch).line = s.line ∧ (s.attachHeld n ch).clock = s.clock ∧
    (s.attachHeld n ch).booking = s.booking ∧ (s.attachHeld n ch).capacity = s.capacity ∧
    (s.attachHeld n ch).survey = s.survey ∧ (s.attachHeld n ch).yard = s.yard ∧
    (s.attachHeld n ch).outcome = s.outcome ∧ (s.attachHeld n ch).bus = s.bus ∧ (s.attachHeld n ch).out = s.out ∧
    (s.attachHeld n ch).freeIndex = s.freeIndex ∧ (s.attachHeld n ch).pending = s.pending := by
  unfold State.attachHeld
  split <;> simp

@[simp] theorem State.attachAllHeld_frame (s : State) :
    (s.attachAllHeld).start = s.start ∧ (s.attachAllHeld).line = s.line ∧ (s.attachAllHeld).clock = s.clock ∧
    (s.attachAllHeld).booking = s.booking ∧ (s.attachAllHeld).capacity = s.capacity ∧
    (s.attachAllHeld).survey = s.survey ∧ (s.attachAllHeld).yard = s.yard ∧ (s.attachAllHeld).outcome = s.outcome ∧
    (s.attachAllHeld).bus = s.bus ∧ (s.attachAllHeld).out = s.out ∧ (s.attachAllHeld).freeIndex = s.freeIndex ∧
    (s.attachAllHeld).pending = s.pending := by
  unfold State.attachAllHeld
  split <;> simp

@[simp] theorem State.bufferExpired_frame (ch : Channel) (s : State) :
    (s.bufferExpired ch).start = s.start ∧ (s.bufferExpired ch).line = s.line ∧ (s.bufferExpired ch).clock = s.clock ∧
    (s.bufferExpired ch).visits = s.visits ∧ (s.bufferExpired ch).booking = s.booking ∧
    (s.bufferExpired ch).capacity = s.capacity ∧ (s.bufferExpired ch).survey = s.survey ∧
    (s.bufferExpired ch).yard = s.yard ∧ (s.bufferExpired ch).out = s.out ∧
    (s.bufferExpired ch).freeIndex = s.freeIndex ∧ (s.bufferExpired ch).pending = s.pending := by
  unfold State.bufferExpired
  split <;> simp

@[simp] theorem State.loopAOccupied_frame (s : State) :
    (s.loopAOccupied).start = s.start ∧ (s.loopAOccupied).line = s.line ∧ (s.loopAOccupied).clock = s.clock ∧
    (s.loopAOccupied).booking = s.booking ∧ (s.loopAOccupied).capacity = s.capacity ∧
    (s.loopAOccupied).survey = s.survey ∧ (s.loopAOccupied).freeIndex = s.freeIndex ∧
    (s.loopAOccupied).pending = s.pending := by
  unfold State.loopAOccupied
  repeat' split
  all_goals simp

@[simp] theorem State.overrunPortal_frame (s : State) :
    (s.overrunPortal).start = s.start ∧ (s.overrunPortal).line = s.line ∧ (s.overrunPortal).clock = s.clock ∧
    (s.overrunPortal).reader = s.reader ∧ (s.overrunPortal).capacity = s.capacity ∧ (s.overrunPortal).yard = s.yard ∧
    (s.overrunPortal).out = s.out ∧ (s.overrunPortal).freeIndex = s.freeIndex ∧
    (s.overrunPortal).pending = s.pending := by
  unfold State.overrunPortal
  split <;> simp

@[simp] theorem State.unseenAtPortal_frame (s : State) :
    (s.unseenAtPortal).start = s.start ∧ (s.unseenAtPortal).line = s.line ∧ (s.unseenAtPortal).clock = s.clock ∧
    (s.unseenAtPortal).reader = s.reader ∧ (s.unseenAtPortal).booking = s.booking ∧
    (s.unseenAtPortal).capacity = s.capacity ∧ (s.unseenAtPortal).survey = s.survey ∧
    (s.unseenAtPortal).yard = s.yard ∧ (s.unseenAtPortal).out = s.out ∧ (s.unseenAtPortal).freeIndex = s.freeIndex ∧
    (s.unseenAtPortal).pending = s.pending := by
  unfold State.unseenAtPortal
  repeat' split
  all_goals simp

@[simp] theorem State.loopPOccupied_frame (s : State) :
    (s.loopPOccupied).start = s.start ∧ (s.loopPOccupied).line = s.line ∧ (s.loopPOccupied).clock = s.clock ∧
    (s.loopPOccupied).capacity = s.capacity ∧ (s.loopPOccupied).yard = s.yard ∧ (s.loopPOccupied).out = s.out ∧
    (s.loopPOccupied).freeIndex = s.freeIndex ∧ (s.loopPOccupied).pending = s.pending := by
  unfold State.loopPOccupied
  dsimp only
  repeat' split
  all_goals simp

@[simp] theorem State.loopPVacated_frame (s : State) :
    (s.loopPVacated).start = s.start ∧ (s.loopPVacated).line = s.line ∧ (s.loopPVacated).clock = s.clock ∧
    (s.loopPVacated).reader = s.reader ∧ (s.loopPVacated).capacity = s.capacity ∧ (s.loopPVacated).yard = s.yard ∧
    (s.loopPVacated).out = s.out ∧ (s.loopPVacated).freeIndex = s.freeIndex ∧ (s.loopPVacated).pending = s.pending := by
  unfold State.loopPVacated
  split <;> simp

@[simp] theorem State.loopSOccupied_frame (s : State) :
    (s.loopSOccupied).start = s.start ∧ (s.loopSOccupied).line = s.line ∧ (s.loopSOccupied).clock = s.clock ∧
    (s.loopSOccupied).freeIndex = s.freeIndex ∧ (s.loopSOccupied).pending = s.pending := by
  unfold State.loopSOccupied
  repeat' split
  all_goals simp

@[simp] theorem State.loopXOccupied_frame (s : State) :
    (s.loopXOccupied).start = s.start ∧ (s.loopXOccupied).line = s.line ∧ (s.loopXOccupied).clock = s.clock ∧
    (s.loopXOccupied).reader = s.reader ∧ (s.loopXOccupied).booking = s.booking ∧
    (s.loopXOccupied).capacity = s.capacity ∧ (s.loopXOccupied).survey = s.survey ∧ (s.loopXOccupied).yard = s.yard ∧
    (s.loopXOccupied).outcome = s.outcome ∧ (s.loopXOccupied).bus = s.bus ∧ (s.loopXOccupied).out = s.out ∧
    (s.loopXOccupied).freeIndex = s.freeIndex ∧ (s.loopXOccupied).pending = s.pending := by
  unfold State.loopXOccupied
  split <;> simp

@[simp] theorem State.loopXVacated_frame (s : State) :
    (s.loopXVacated).start = s.start ∧ (s.loopXVacated).clock = s.clock ∧ (s.loopXVacated).capacity = s.capacity ∧
    (s.loopXVacated).survey = s.survey ∧ (s.loopXVacated).freeIndex = s.freeIndex ∧
    (s.loopXVacated).pending = s.pending := by
  unfold State.loopXVacated
  split <;> simp

@[simp] theorem State.exitCheckExpired_frame (n : VisitNumber) (s : State) :
    (s.exitCheckExpired n).start = s.start ∧ (s.exitCheckExpired n).clock = s.clock ∧
    (s.exitCheckExpired n).capacity = s.capacity ∧ (s.exitCheckExpired n).survey = s.survey ∧
    (s.exitCheckExpired n).freeIndex = s.freeIndex ∧ (s.exitCheckExpired n).pending = s.pending := by
  unfold State.exitCheckExpired
  dsimp only
  repeat' split
  all_goals simp

@[simp] theorem State.takeOpen_frame (s : State) :
    (s.takeOpen).start = s.start ∧ (s.takeOpen).line = s.line ∧ (s.takeOpen).clock = s.clock ∧
    (s.takeOpen).reader = s.reader ∧ (s.takeOpen).booking = s.booking ∧ (s.takeOpen).capacity = s.capacity ∧
    (s.takeOpen).survey = s.survey ∧ (s.takeOpen).yard = s.yard ∧ (s.takeOpen).out = s.out ∧
    (s.takeOpen).freeIndex = s.freeIndex ∧ (s.takeOpen).pending = s.pending := by
  unfold State.takeOpen
  split <;> simp

@[simp] theorem State.takeClose_frame (s : State) :
    (s.takeClose).start = s.start ∧ (s.takeClose).line = s.line ∧ (s.takeClose).clock = s.clock ∧
    (s.takeClose).reader = s.reader ∧ (s.takeClose).booking = s.booking ∧ (s.takeClose).capacity = s.capacity ∧
    (s.takeClose).survey = s.survey ∧ (s.takeClose).yard = s.yard ∧ (s.takeClose).out = s.out ∧
    (s.takeClose).freeIndex = s.freeIndex ∧ (s.takeClose).pending = s.pending := by
  unfold State.takeClose
  split <;> simp

@[simp] theorem State.checkReady_frame (s : State) :
    (s.checkReady).start = s.start ∧ (s.checkReady).line = s.line ∧ (s.checkReady).clock = s.clock ∧
    (s.checkReady).reader = s.reader ∧ (s.checkReady).booking = s.booking ∧ (s.checkReady).capacity = s.capacity ∧
    (s.checkReady).survey = s.survey ∧ (s.checkReady).yard = s.yard ∧ (s.checkReady).out = s.out ∧
    (s.checkReady).freeIndex = s.freeIndex ∧ (s.checkReady).pending = s.pending := by
  unfold State.checkReady
  split <;> simp

@[simp] theorem State.retakeDeferred_frame (s : State) :
    (s.retakeDeferred).start = s.start ∧ (s.retakeDeferred).line = s.line ∧ (s.retakeDeferred).clock = s.clock ∧
    (s.retakeDeferred).booking = s.booking ∧ (s.retakeDeferred).capacity = s.capacity ∧
    (s.retakeDeferred).survey = s.survey ∧ (s.retakeDeferred).freeIndex = s.freeIndex ∧
    (s.retakeDeferred).pending = s.pending := by
  unfold State.retakeDeferred
  repeat' split
  all_goals simp

@[simp] theorem State.overrideVisit_frame (v : Visit) (s : State) :
    (s.overrideVisit v).start = s.start ∧ (s.overrideVisit v).line = s.line ∧ (s.overrideVisit v).clock = s.clock ∧
    (s.overrideVisit v).reader = s.reader ∧ (s.overrideVisit v).booking = s.booking ∧
    (s.overrideVisit v).survey = s.survey ∧ (s.overrideVisit v).yard = s.yard ∧
    (s.overrideVisit v).outcome = s.outcome ∧ (s.overrideVisit v).bus = s.bus ∧ (s.overrideVisit v).out = s.out ∧
    (s.overrideVisit v).freeIndex = s.freeIndex ∧ (s.overrideVisit v).pending = s.pending := by
  unfold State.overrideVisit
  split <;> simp

@[simp] theorem State.takeRelease_frame (n : VisitNumber) (s : State) :
    (s.takeRelease n).start = s.start ∧ (s.takeRelease n).clock = s.clock ∧ (s.takeRelease n).survey = s.survey ∧
    (s.takeRelease n).freeIndex = s.freeIndex ∧ (s.takeRelease n).pending = s.pending := by
  unfold State.takeRelease
  repeat' split
  all_goals simp

@[simp] theorem State.takeRefuse_frame (n : VisitNumber) (s : State) :
    (s.takeRefuse n).start = s.start ∧ (s.takeRefuse n).clock = s.clock ∧ (s.takeRefuse n).capacity = s.capacity ∧
    (s.takeRefuse n).survey = s.survey ∧ (s.takeRefuse n).freeIndex = s.freeIndex ∧
    (s.takeRefuse n).pending = s.pending := by
  unfold State.takeRefuse
  repeat' split
  all_goals simp

@[simp] theorem State.expireHold_frame (n : VisitNumber) (s : State) :
    (s.expireHold n).start = s.start ∧ (s.expireHold n).line = s.line ∧ (s.expireHold n).clock = s.clock ∧
    (s.expireHold n).capacity = s.capacity ∧ (s.expireHold n).survey = s.survey ∧
    (s.expireHold n).freeIndex = s.freeIndex ∧ (s.expireHold n).pending = s.pending := by
  unfold State.expireHold
  repeat' split
  all_goals simp

@[simp] theorem State.holdTimeout_frame (n : VisitNumber) (s : State) :
    (s.holdTimeout n).start = s.start ∧ (s.holdTimeout n).line = s.line ∧ (s.holdTimeout n).clock = s.clock ∧
    (s.holdTimeout n).capacity = s.capacity ∧ (s.holdTimeout n).survey = s.survey ∧
    (s.holdTimeout n).freeIndex = s.freeIndex ∧ (s.holdTimeout n).pending = s.pending := by
  unfold State.holdTimeout
  repeat' split
  all_goals simp

@[simp] theorem State.lineEvent_frame (l : Line) (b : Bool) (s : State) :
    (s.lineEvent l b).start = s.start ∧ (s.lineEvent l b).clock = s.clock ∧
    (s.lineEvent l b).freeIndex = s.freeIndex ∧ (s.lineEvent l b).pending = s.pending := by
  unfold State.lineEvent
  repeat' split
  all_goals simp

@[simp] theorem State.setLineTimer_frame (l : Line) (t : Timer) (s : State) :
    (s.setLineTimer l t).start = s.start ∧ (s.setLineTimer l t).clock = s.clock ∧
    (s.setLineTimer l t).visits = s.visits ∧ (s.setLineTimer l t).reader = s.reader ∧
    (s.setLineTimer l t).booking = s.booking ∧ (s.setLineTimer l t).capacity = s.capacity ∧
    (s.setLineTimer l t).survey = s.survey ∧ (s.setLineTimer l t).yard = s.yard ∧
    (s.setLineTimer l t).outcome = s.outcome ∧ (s.setLineTimer l t).bus = s.bus ∧ (s.setLineTimer l t).out = s.out ∧
    (s.setLineTimer l t).freeIndex = s.freeIndex ∧ (s.setLineTimer l t).pending = s.pending := by simp [State.setLineTimer]

@[simp] theorem State.settleLine_frame (l : Line) (ls : LineSet Bool) (s : State) :
    (s.settleLine l ls).start = s.start ∧ (s.settleLine l ls).clock = s.clock ∧
    (s.settleLine l ls).freeIndex = s.freeIndex ∧ (s.settleLine l ls).pending = s.pending := by simp [State.settleLine]

@[simp] theorem State.pinChange_frame (l : Line) (b : Bool) (s : State) :
    (s.pinChange l b).start = s.start ∧ (s.pinChange l b).clock = s.clock ∧
    (s.pinChange l b).freeIndex = s.freeIndex ∧ (s.pinChange l b).pending = s.pending := by
  unfold State.pinChange
  dsimp only
  repeat' split
  all_goals simp

@[simp] theorem State.debounceExpired_frame (l : Line) (s : State) :
    (s.debounceExpired l).start = s.start ∧ (s.debounceExpired l).clock = s.clock ∧
    (s.debounceExpired l).freeIndex = s.freeIndex ∧ (s.debounceExpired l).pending = s.pending := by
  unfold State.debounceExpired
  repeat' split
  all_goals simp

@[simp] theorem State.rollNotice_frame (w : Window) (cls : Nat) (s : State) :
    (s.rollNotice w cls).start = s.start ∧ (s.rollNotice w cls).line = s.line ∧ (s.rollNotice w cls).clock = s.clock ∧
    (s.rollNotice w cls).survey = s.survey ∧ (s.rollNotice w cls).pending = s.pending := by
  unfold State.rollNotice
  dsimp only
  repeat' split
  all_goals simp

@[simp] theorem State.ownIdHeard_frame (s : State) :
    (s.ownIdHeard).start = s.start ∧ (s.ownIdHeard).line = s.line ∧ (s.ownIdHeard).clock = s.clock ∧
    (s.ownIdHeard).visits = s.visits ∧ (s.ownIdHeard).reader = s.reader ∧ (s.ownIdHeard).booking = s.booking ∧
    (s.ownIdHeard).capacity = s.capacity ∧ (s.ownIdHeard).survey = s.survey ∧ (s.ownIdHeard).yard = s.yard ∧
    (s.ownIdHeard).out = s.out ∧ (s.ownIdHeard).freeIndex = s.freeIndex ∧ (s.ownIdHeard).pending = s.pending := by simp [State.ownIdHeard]

@[simp] theorem State.officeHeard_frame (s : State) :
    (s.officeHeard).start = s.start ∧ (s.officeHeard).line = s.line ∧ (s.officeHeard).clock = s.clock ∧
    (s.officeHeard).visits = s.visits ∧ (s.officeHeard).reader = s.reader ∧ (s.officeHeard).booking = s.booking ∧
    (s.officeHeard).capacity = s.capacity ∧ (s.officeHeard).survey = s.survey ∧ (s.officeHeard).yard = s.yard ∧
    (s.officeHeard).out = s.out ∧ (s.officeHeard).freeIndex = s.freeIndex ∧ (s.officeHeard).pending = s.pending := by
  unfold State.officeHeard
  split <;> simp

@[simp] theorem State.officeSilent_frame (s : State) :
    (s.officeSilent).start = s.start ∧ (s.officeSilent).line = s.line ∧ (s.officeSilent).clock = s.clock ∧
    (s.officeSilent).visits = s.visits ∧ (s.officeSilent).reader = s.reader ∧ (s.officeSilent).booking = s.booking ∧
    (s.officeSilent).capacity = s.capacity ∧ (s.officeSilent).survey = s.survey ∧ (s.officeSilent).yard = s.yard ∧
    (s.officeSilent).out = s.out ∧ (s.officeSilent).freeIndex = s.freeIndex ∧ (s.officeSilent).pending = s.pending := by
  unfold State.officeSilent
  split <;> simp

@[simp] theorem State.clashOver_frame (s : State) :
    (s.clashOver).start = s.start ∧ (s.clashOver).line = s.line ∧ (s.clashOver).clock = s.clock ∧
    (s.clashOver).visits = s.visits ∧ (s.clashOver).reader = s.reader ∧ (s.clashOver).booking = s.booking ∧
    (s.clashOver).capacity = s.capacity ∧ (s.clashOver).survey = s.survey ∧ (s.clashOver).yard = s.yard ∧
    (s.clashOver).bus = s.bus ∧ (s.clashOver).out = s.out ∧ (s.clashOver).freeIndex = s.freeIndex ∧
    (s.clashOver).pending = s.pending := by
  unfold State.clashOver
  split <;> simp

@[simp] theorem State.stationHeard_frame (c : LaneId) (s : State) :
    (s.stationHeard c).start = s.start ∧ (s.stationHeard c).line = s.line ∧ (s.stationHeard c).clock = s.clock ∧
    (s.stationHeard c).visits = s.visits ∧ (s.stationHeard c).reader = s.reader ∧
    (s.stationHeard c).booking = s.booking ∧ (s.stationHeard c).survey = s.survey ∧ (s.stationHeard c).yard = s.yard ∧
    (s.stationHeard c).out = s.out ∧ (s.stationHeard c).freeIndex = s.freeIndex ∧
    (s.stationHeard c).pending = s.pending := by
  unfold State.stationHeard
  repeat' split
  all_goals simp

@[simp] theorem State.bufferFrame_frame (f : RawFrame) (s : State) :
    (s.bufferFrame f).start = s.start ∧ (s.bufferFrame f).line = s.line ∧ (s.bufferFrame f).clock = s.clock ∧
    (s.bufferFrame f).visits = s.visits ∧ (s.bufferFrame f).reader = s.reader ∧
    (s.bufferFrame f).booking = s.booking ∧ (s.bufferFrame f).capacity = s.capacity ∧
    (s.bufferFrame f).survey = s.survey ∧ (s.bufferFrame f).yard = s.yard ∧ (s.bufferFrame f).out = s.out ∧
    (s.bufferFrame f).freeIndex = s.freeIndex ∧ (s.bufferFrame f).pending = s.pending := by
  unfold State.bufferFrame
  repeat' split
  all_goals simp

@[simp] theorem State.receive_frame (b : Bool) (bs : List Byte) (s : State) :
    (s.receive b bs).start = s.start ∧ (s.receive b bs).line = s.line ∧ (s.receive b bs).clock = s.clock ∧
    (s.receive b bs).visits = s.visits ∧ (s.receive b bs).reader = s.reader ∧ (s.receive b bs).booking = s.booking ∧
    (s.receive b bs).survey = s.survey ∧ (s.receive b bs).yard = s.yard ∧ (s.receive b bs).out = s.out ∧
    (s.receive b bs).freeIndex = s.freeIndex ∧ (s.receive b bs).pending = s.pending := by
  unfold State.receive
  repeat' split
  all_goals simp

@[simp] theorem State.breakPair_frame (f : List RxFrame) (s : State) :
    (s.breakPair f).line = s.line ∧ (s.breakPair f).clock = s.clock ∧ (s.breakPair f).visits = s.visits ∧
    (s.breakPair f).reader = s.reader ∧ (s.breakPair f).booking = s.booking ∧ (s.breakPair f).capacity = s.capacity ∧
    (s.breakPair f).survey = s.survey ∧ (s.breakPair f).yard = s.yard ∧ (s.breakPair f).outcome = s.outcome ∧
    (s.breakPair f).bus = s.bus ∧ (s.breakPair f).out = s.out ∧ (s.breakPair f).freeIndex = s.freeIndex ∧
    (s.breakPair f).pending = s.pending := by
  unfold State.breakPair
  split <;> simp

@[simp] theorem State.beginSending_frame (s : State) :
    (s.beginSending).start = s.start ∧ (s.beginSending).line = s.line ∧ (s.beginSending).clock = s.clock ∧
    (s.beginSending).visits = s.visits ∧ (s.beginSending).reader = s.reader ∧ (s.beginSending).booking = s.booking ∧
    (s.beginSending).capacity = s.capacity ∧ (s.beginSending).survey = s.survey ∧ (s.beginSending).yard = s.yard ∧
    (s.beginSending).outcome = s.outcome ∧ (s.beginSending).out = s.out ∧ (s.beginSending).freeIndex = s.freeIndex ∧
    (s.beginSending).pending = s.pending := by
  unfold State.beginSending
  repeat' split
  all_goals simp

@[simp] theorem State.dropOffered_frame (s : State) :
    (s.dropOffered).start = s.start ∧ (s.dropOffered).line = s.line ∧ (s.dropOffered).clock = s.clock ∧
    (s.dropOffered).survey = s.survey ∧ (s.dropOffered).freeIndex = s.freeIndex ∧
    (s.dropOffered).pending = s.pending := by simp [State.dropOffered]

@[simp] theorem State.ownerTold_frame (f : TxFrame) (s : State) :
    (s.ownerTold f).start = s.start ∧ (s.ownerTold f).line = s.line ∧ (s.ownerTold f).clock = s.clock ∧
    (s.ownerTold f).survey = s.survey ∧ (s.ownerTold f).freeIndex = s.freeIndex ∧
    (s.ownerTold f).pending = s.pending := by
  unfold State.ownerTold
  repeat' split
  all_goals simp

@[simp] theorem State.sent_frame (s : State) :
    (s.sent).start = s.start ∧ (s.sent).line = s.line ∧ (s.sent).clock = s.clock ∧ (s.sent).survey = s.survey ∧
    (s.sent).freeIndex = s.freeIndex ∧ (s.sent).pending = s.pending := by
  unfold State.sent
  split <;> simp

@[simp] theorem State.loseContention_frame (b : Bool) (bs : List Byte) (s : State) :
    (s.loseContention b bs).start = s.start ∧ (s.loseContention b bs).line = s.line ∧
    (s.loseContention b bs).clock = s.clock ∧ (s.loseContention b bs).visits = s.visits ∧
    (s.loseContention b bs).reader = s.reader ∧ (s.loseContention b bs).booking = s.booking ∧
    (s.loseContention b bs).survey = s.survey ∧ (s.loseContention b bs).yard = s.yard ∧
    (s.loseContention b bs).out = s.out ∧ (s.loseContention b bs).freeIndex = s.freeIndex ∧
    (s.loseContention b bs).pending = s.pending := by
  unfold State.loseContention
  split <;> simp

@[simp] theorem State.clearAlerts_frame (w : BitVec 16) (s : State) :
    (s.clearAlerts w).start = s.start ∧ (s.clearAlerts w).line = s.line ∧ (s.clearAlerts w).clock = s.clock ∧
    (s.clearAlerts w).visits = s.visits ∧ (s.clearAlerts w).reader = s.reader ∧
    (s.clearAlerts w).booking = s.booking ∧ (s.clearAlerts w).capacity = s.capacity ∧
    (s.clearAlerts w).survey = s.survey ∧ (s.clearAlerts w).yard = s.yard ∧ (s.clearAlerts w).out = s.out ∧
    (s.clearAlerts w).freeIndex = s.freeIndex ∧ (s.clearAlerts w).pending = s.pending := by
  unfold State.clearAlerts
  dsimp only
  split <;> simp

@[simp] theorem State.takeAlertClear_frame (bs : List Byte) (s : State) :
    (s.takeAlertClear bs).start = s.start ∧ (s.takeAlertClear bs).line = s.line ∧
    (s.takeAlertClear bs).clock = s.clock ∧ (s.takeAlertClear bs).visits = s.visits ∧
    (s.takeAlertClear bs).reader = s.reader ∧ (s.takeAlertClear bs).booking = s.booking ∧
    (s.takeAlertClear bs).capacity = s.capacity ∧ (s.takeAlertClear bs).survey = s.survey ∧
    (s.takeAlertClear bs).yard = s.yard ∧ (s.takeAlertClear bs).out = s.out ∧
    (s.takeAlertClear bs).freeIndex = s.freeIndex ∧ (s.takeAlertClear bs).pending = s.pending := by
  unfold State.takeAlertClear
  split <;> simp

@[simp] theorem State.fetchCounters_frame (s : State) :
    (s.fetchCounters).start = s.start ∧ (s.fetchCounters).line = s.line ∧ (s.fetchCounters).clock = s.clock ∧
    (s.fetchCounters).visits = s.visits ∧ (s.fetchCounters).reader = s.reader ∧
    (s.fetchCounters).booking = s.booking ∧ (s.fetchCounters).capacity = s.capacity ∧
    (s.fetchCounters).survey = s.survey ∧ (s.fetchCounters).yard = s.yard ∧ (s.fetchCounters).out = s.out ∧
    (s.fetchCounters).freeIndex = s.freeIndex ∧ (s.fetchCounters).pending = s.pending := by simp [State.fetchCounters]

@[simp] theorem State.oneRoll_frame (s : State) :
    (s.oneRoll).start = s.start ∧ (s.oneRoll).line = s.line ∧ (s.oneRoll).survey = s.survey ∧
    (s.oneRoll).pending = s.pending := by simp [State.oneRoll]

@[simp] theorem State.rolls_frame (k : Nat) (s : State) :
    (State.rolls k s).start = s.start ∧ (State.rolls k s).line = s.line ∧ (State.rolls k s).survey = s.survey ∧
    (State.rolls k s).pending = s.pending := by
  induction k generalizing s with
  | zero => simp [State.rolls]
  | succ k ih => simp [State.rolls, ih]

@[simp] theorem State.setWindow_frame (w : Window) (s : State) :
    (s.setWindow w).start = s.start ∧ (s.setWindow w).line = s.line ∧ (s.setWindow w).survey = s.survey ∧
    (s.setWindow w).pending = s.pending := by simp [State.setWindow]

@[simp] theorem State.carryWindows_frame (k : Int) (w : Window) (s : State) :
    (s.carryWindows k w).start = s.start ∧ (s.carryWindows k w).line = s.line ∧
    (s.carryWindows k w).survey = s.survey ∧ (s.carryWindows k w).pending = s.pending := by
  unfold State.carryWindows
  split <;> simp

@[simp] theorem State.expireHolds_frame (ns : List VisitNumber) (s : State) :
    (expireHolds ns s).start = s.start ∧ (expireHolds ns s).line = s.line ∧ (expireHolds ns s).clock = s.clock ∧
    (expireHolds ns s).capacity = s.capacity ∧ (expireHolds ns s).survey = s.survey ∧
    (expireHolds ns s).freeIndex = s.freeIndex ∧ (expireHolds ns s).pending = s.pending := by
  unfold expireHolds
  induction ns generalizing s with
  | nil => simp
  | cons n ns ih => simp [ih]

@[simp] theorem State.adoptTime_frame (p : GatePoint) (cls : Nat) (s : State) :
    (s.adoptTime p cls).start = s.start ∧ (s.adoptTime p cls).line = s.line ∧ (s.adoptTime p cls).survey = s.survey ∧
    (s.adoptTime p cls).pending = s.pending := by simp [State.adoptTime]

@[simp] theorem State.firstTime_frame (p : GatePoint) (cls : Nat) (s : State) :
    (s.firstTime p cls).start = s.start ∧ (s.firstTime p cls).line = s.line ∧ (s.firstTime p cls).survey = s.survey ∧
    (s.firstTime p cls).pending = s.pending := by simp [State.firstTime]

@[simp] theorem State.takeTime_frame (bs : List Byte) (s : State) :
    (s.takeTime bs).start = s.start ∧ (s.takeTime bs).line = s.line ∧ (s.takeTime bs).survey = s.survey ∧
    (s.takeTime bs).pending = s.pending := by
  unfold State.takeTime
  repeat' split
  all_goals simp

@[simp] theorem State.tenthPasses_frame (s : State) :
    (s.tenthPasses).start = s.start ∧ (s.tenthPasses).line = s.line ∧ (s.tenthPasses).visits = s.visits ∧
    (s.tenthPasses).reader = s.reader ∧ (s.tenthPasses).booking = s.booking ∧ (s.tenthPasses).capacity = s.capacity ∧
    (s.tenthPasses).survey = s.survey ∧ (s.tenthPasses).yard = s.yard ∧ (s.tenthPasses).outcome = s.outcome ∧
    (s.tenthPasses).bus = s.bus ∧ (s.tenthPasses).out = s.out ∧ (s.tenthPasses).freeIndex = s.freeIndex ∧
    (s.tenthPasses).pending = s.pending := by
  unfold State.tenthPasses
  split <;> simp

@[simp] theorem State.rollDue_frame (s : State) :
    (s.rollDue).start = s.start ∧ (s.rollDue).line = s.line ∧ (s.rollDue).survey = s.survey ∧
    (s.rollDue).pending = s.pending := by
  unfold State.rollDue
  split <;> simp

@[simp] theorem State.fixConfig_frame (c : LaneConfig) (bs : List BlockEntry) (s : State) :
    (s.fixConfig c bs).clock = s.clock ∧ (s.fixConfig c bs).reader = s.reader ∧
    (s.fixConfig c bs).booking = s.booking ∧ (s.fixConfig c bs).capacity = s.capacity ∧
    (s.fixConfig c bs).survey = s.survey ∧ (s.fixConfig c bs).out = s.out ∧
    (s.fixConfig c bs).freeIndex = s.freeIndex ∧ (s.fixConfig c bs).pending = s.pending := by simp [State.fixConfig]

@[simp] theorem State.fixIfComplete_frame (s : State) :
    (s.fixIfComplete).clock = s.clock ∧ (s.fixIfComplete).reader = s.reader ∧ (s.fixIfComplete).booking = s.booking ∧
    (s.fixIfComplete).capacity = s.capacity ∧ (s.fixIfComplete).survey = s.survey ∧ (s.fixIfComplete).out = s.out ∧
    (s.fixIfComplete).freeIndex = s.freeIndex ∧ (s.fixIfComplete).pending = s.pending := by
  unfold State.fixIfComplete
  split <;> simp

@[simp] theorem State.takeConfig_frame (bs : List Byte) (s : State) :
    (s.takeConfig bs).clock = s.clock ∧ (s.takeConfig bs).reader = s.reader ∧ (s.takeConfig bs).booking = s.booking ∧
    (s.takeConfig bs).capacity = s.capacity ∧ (s.takeConfig bs).survey = s.survey ∧ (s.takeConfig bs).out = s.out ∧
    (s.takeConfig bs).freeIndex = s.freeIndex ∧ (s.takeConfig bs).pending = s.pending := by
  unfold State.takeConfig
  repeat' split
  all_goals simp

@[simp] theorem State.resetPinFalls_frame (s : State) :
    (s.resetPinFalls).line = s.line ∧ (s.resetPinFalls).clock = s.clock ∧ (s.resetPinFalls).visits = s.visits ∧
    (s.resetPinFalls).reader = s.reader ∧ (s.resetPinFalls).booking = s.booking ∧
    (s.resetPinFalls).capacity = s.capacity ∧ (s.resetPinFalls).survey = s.survey ∧ (s.resetPinFalls).yard = s.yard ∧
    (s.resetPinFalls).outcome = s.outcome ∧ (s.resetPinFalls).bus = s.bus ∧ (s.resetPinFalls).out = s.out ∧
    (s.resetPinFalls).freeIndex = s.freeIndex ∧ (s.resetPinFalls).pending = s.pending := by
  unfold State.resetPinFalls
  split <;> simp

@[simp] theorem State.resetReqExpired_frame (s : State) :
    (s.resetReqExpired).line = s.line ∧ (s.resetReqExpired).clock = s.clock ∧ (s.resetReqExpired).visits = s.visits ∧
    (s.resetReqExpired).reader = s.reader ∧ (s.resetReqExpired).booking = s.booking ∧
    (s.resetReqExpired).capacity = s.capacity ∧ (s.resetReqExpired).survey = s.survey ∧
    (s.resetReqExpired).yard = s.yard ∧ (s.resetReqExpired).outcome = s.outcome ∧ (s.resetReqExpired).bus = s.bus ∧
    (s.resetReqExpired).out = s.out ∧ (s.resetReqExpired).freeIndex = s.freeIndex ∧
    (s.resetReqExpired).pending = s.pending := by
  unfold State.resetReqExpired
  split <;> simp

@[simp] theorem State.announceStart_frame (s : State) :
    (s.announceStart).start = s.start ∧ (s.announceStart).line = s.line ∧ (s.announceStart).clock = s.clock ∧
    (s.announceStart).visits = s.visits ∧ (s.announceStart).reader = s.reader ∧
    (s.announceStart).booking = s.booking ∧ (s.announceStart).capacity = s.capacity ∧
    (s.announceStart).survey = s.survey ∧ (s.announceStart).yard = s.yard ∧ (s.announceStart).outcome = s.outcome ∧
    (s.announceStart).out = s.out ∧ (s.announceStart).freeIndex = s.freeIndex ∧
    (s.announceStart).pending = s.pending := by
  unfold State.announceStart
  split <;> simp

@[simp] theorem State.endReset_frame (p : Straps) (s : State) :
    (s.endReset p).line = s.line ∧ (s.endReset p).clock = s.clock ∧ (s.endReset p).visits = s.visits ∧
    (s.endReset p).reader = s.reader ∧ (s.endReset p).booking = s.booking ∧ (s.endReset p).capacity = s.capacity ∧
    (s.endReset p).survey = s.survey ∧ (s.endReset p).yard = s.yard ∧ (s.endReset p).out = s.out ∧
    (s.endReset p).freeIndex = s.freeIndex ∧ (s.endReset p).pending = s.pending := by
  unfold State.endReset
  split <;> simp

@[simp] theorem State.bookingPayload_frame (bs : List Byte) (s : State) :
    (s.bookingPayload bs).start = s.start ∧ (s.bookingPayload bs).line = s.line ∧
    (s.bookingPayload bs).clock = s.clock ∧ (s.bookingPayload bs).visits = s.visits ∧
    (s.bookingPayload bs).reader = s.reader ∧ (s.bookingPayload bs).capacity = s.capacity ∧
    (s.bookingPayload bs).survey = s.survey ∧ (s.bookingPayload bs).yard = s.yard ∧
    (s.bookingPayload bs).out = s.out ∧ (s.bookingPayload bs).freeIndex = s.freeIndex ∧
    (s.bookingPayload bs).pending = s.pending := by
  unfold State.bookingPayload
  split <;> simp

@[simp] theorem State.cancelPayload_frame (bs : List Byte) (s : State) :
    (s.cancelPayload bs).start = s.start ∧ (s.cancelPayload bs).line = s.line ∧ (s.cancelPayload bs).clock = s.clock ∧
    (s.cancelPayload bs).reader = s.reader ∧ (s.cancelPayload bs).capacity = s.capacity ∧
    (s.cancelPayload bs).survey = s.survey ∧ (s.cancelPayload bs).yard = s.yard ∧ (s.cancelPayload bs).out = s.out ∧
    (s.cancelPayload bs).freeIndex = s.freeIndex ∧ (s.cancelPayload bs).pending = s.pending := by
  unfold State.cancelPayload
  split <;> simp

@[simp] theorem State.claimPayload_frame (c : LaneId) (bs : List Byte) (s : State) :
    (s.claimPayload c bs).start = s.start ∧ (s.claimPayload c bs).line = s.line ∧
    (s.claimPayload c bs).clock = s.clock ∧ (s.claimPayload c bs).survey = s.survey ∧
    (s.claimPayload c bs).freeIndex = s.freeIndex ∧ (s.claimPayload c bs).pending = s.pending := by
  unfold State.claimPayload
  split <;> simp

@[simp] theorem State.claimEndPayload_frame (c : LaneId) (bs : List Byte) (s : State) :
    (s.claimEndPayload c bs).start = s.start ∧ (s.claimEndPayload c bs).line = s.line ∧
    (s.claimEndPayload c bs).clock = s.clock ∧ (s.claimEndPayload c bs).visits = s.visits ∧
    (s.claimEndPayload c bs).reader = s.reader ∧ (s.claimEndPayload c bs).capacity = s.capacity ∧
    (s.claimEndPayload c bs).survey = s.survey ∧ (s.claimEndPayload c bs).yard = s.yard ∧
    (s.claimEndPayload c bs).out = s.out ∧ (s.claimEndPayload c bs).freeIndex = s.freeIndex ∧
    (s.claimEndPayload c bs).pending = s.pending := by
  unfold State.claimEndPayload
  split <;> simp

@[simp] theorem State.notePayload_frame (bs : List Byte) (s : State) :
    (s.notePayload bs).start = s.start ∧ (s.notePayload bs).line = s.line ∧ (s.notePayload bs).clock = s.clock ∧
    (s.notePayload bs).visits = s.visits ∧ (s.notePayload bs).reader = s.reader ∧
    (s.notePayload bs).booking = s.booking ∧ (s.notePayload bs).capacity = s.capacity ∧
    (s.notePayload bs).survey = s.survey ∧ (s.notePayload bs).outcome = s.outcome ∧ (s.notePayload bs).bus = s.bus ∧
    (s.notePayload bs).out = s.out ∧ (s.notePayload bs).freeIndex = s.freeIndex ∧
    (s.notePayload bs).pending = s.pending := by
  unfold State.notePayload
  split <;> simp

end Sys2Proof.Machine
end

