-- ==== Sys2Proof/Laws/Bus.lean ====
section
/-! SUPPORT. Frames reaching their owners (R170, R176): what a frame command does, once for all of them. -/

namespace Sys2Proof.Machine

/-- The frame taken is of the kind asked for. -/
theorem takeFirst_kind {k : FrameKind} {rx rest : List RxFrame} {f : RxFrame} (h : takeFirst k rx = some (f, rest)) :
    f.kind = k := by
  induction rx generalizing f rest with
  | nil => cases h
  | cons g gs ih =>
    unfold takeFirst at h
    split at h
    · cases h; assumption
    · split at h
      · cases h
      · simp only [Option.map_eq_some_iff, Prod.exists, Prod.mk.injEq] at h
        obtain ⟨a, b, hab, rfl, -⟩ := h
        exact ih hab

/-- The buffers replaced and the frames up to the one taken handed on: the state its owner finds. -/
theorem State.breakPair_handedOn (f : RxFrame) (rest : List RxFrame) (s : State) :
    (s.setRx rest).breakPair (handedUpTo f.kind s.bus.rx) = s.handedOn f rest := by
  have hl : (s.setRx rest).laneId = s.laneId := by rfl
  have h : (handedUpTo f.kind s.bus.rx).any (RxFrame.breaksPair s.laneId) = true
      ↔ ∃ g ∈ handedUpTo f.kind s.bus.rx, g.dest = s.laneId ∧ g.kind ≠ .resetReq ∧ g.handed = false := by
    simp [RxFrame.breaksPair, and_assoc]
  simp only [State.breakPair, State.handedOn, hl, h]
  split <;> rfl

/-- A frame command acts on the state its owner finds when it takes the oldest buffered frame of its kind. -/
theorem State.onFrame_taken {k : FrameKind} {act : RxFrame → State → State} {s : State} {f : RxFrame}
    {rest : List RxFrame} (h : takeFirst k s.bus.rx = some (f, rest)) : s.onFrame k act = act f (s.handedOn f rest) := by
  rw [State.onFrame, h, ← State.breakPair_handedOn, takeFirst_kind h]

/-- With no such frame a frame command does nothing (log 2). -/
theorem State.onFrame_none {k : FrameKind} {act : RxFrame → State → State} {s : State} (h : takeFirst k s.bus.rx = none) :
    s.onFrame k act = s := by rw [State.onFrame, h]

end Sys2Proof.Machine
end

