-- ==== Sys2Proof/Laws/Tables.lean ====
section
/-! SUPPORT. The shared operations beside the tables of the rules: the selection of a booking, peaks, the code merge, dark runs, a
report written into a record and a message placed, each with what it can do, said once. -/

namespace Sys2Proof.Machine

/-! ### The selection of a booking (R71 to R74) -/

/-- Matching by code, as the predicate says it (R71). -/
theorem Booking.matchesCode_iff (v : Visit) (b : Booking) : b.matchesCode v = true ↔ b.hasCodeOf v := by
  unfold Booking.matchesCode Booking.hasCodeOf
  rw [List.any_eq_true]
  have hd : ∀ m : Move, m.isDrop = true ↔ (m.kind = .dropFull ∨ m.kind = .dropEmpty) := by
    intro m; unfold Move.isDrop; cases m.kind <;> simp
  have hs : ∀ (c : ContainerSlot) (m : Move), c.suppliesCode m.code = true ↔ c.status = .valid ∧ m.code ≠ none ∧
      c.code = m.code := by
    intro c m; unfold ContainerSlot.suppliesCode
    simp only [Bool.and_eq_true, beq_iff_eq, Option.isSome_iff_ne_none, and_assoc]
  constructor
  · rintro ⟨m, hm, h⟩
    rw [Bool.and_eq_true, Bool.or_eq_true, hs, hs] at h
    obtain ⟨h1, h | h⟩ := h
    · exact ⟨m, hm, (hd m).1 h1, v.front, .inl rfl, h⟩
    · exact ⟨m, hm, (hd m).1 h1, v.rear, .inr rfl, h⟩
  · rintro ⟨m, hm, h1, c, rfl | rfl, h⟩
    · exact ⟨m, hm, by rw [Bool.and_eq_true, Bool.or_eq_true, hs, hs]; exact ⟨(hd m).2 h1, .inl h⟩⟩
    · exact ⟨m, hm, by rw [Bool.and_eq_true, Bool.or_eq_true, hs, hs]; exact ⟨(hd m).2 h1, .inr h⟩⟩

/-- Matching, as the predicate says it (R71). -/
theorem Booking.matchesVisit_iff (th) (v : Visit) (b : Booking) : b.matchesVisit th v = true ↔ b.isMatchFor th v := by
  unfold Booking.matchesVisit Booking.isMatchFor Booking.matchesPlate
  rw [Bool.or_eq_true, Booking.matchesCode_iff]; simp

/-- No record is selected exactly where none is a candidate (R71). -/
theorem selectBooking_eq_none_iff (th) (v : Visit) (wc) : ∀ t : List (Option Booking),
    selectBooking th v wc t = none ↔ ∀ b, some b ∈ t → b.state = .available → ¬ b.isMatchFor th v := by
  intro t
  induction t with
  | nil => simp [selectBooking]
  | cons o t ih =>
    unfold selectBooking
    cases o with
    | none => simpa using ih
    | some b =>
      cases hs : selectBooking th v wc t with
      | some c =>
        dsimp only
        rw [hs] at ih
        have : ¬ ∀ b, some b ∈ t → b.state = .available → ¬ b.isMatchFor th v := fun h => by have := ih.2 h; cases this
        constructor
        · intro h; split at h
          · split at h <;> cases h
          · cases h
        · intro h; exact absurd (fun b hb => h b (by simp [hb])) this
      | none =>
        dsimp only
        rw [hs] at ih
        have ih' := ih.1 rfl
        split
        · rename_i h
          constructor
          · intro h'; cases h'
          · intro h'; exact absurd ((Booking.matchesVisit_iff _ _ _).1 h.2) (h' b (by simp) h.1)
        · rename_i h
          refine ⟨fun _ c hc => ?_, fun _ => rfl⟩
          rcases List.mem_cons.1 hc with hc | hc
          · cases hc; intro h1 h2; exact h ⟨h1, (Booking.matchesVisit_iff _ _ _).2 h2⟩
          · exact ih' c hc

theorem ranksBefore_iff (v : Visit) (wc) (b c : Booking) (i j : Nat) : ranksBefore v wc b c i j ↔
    ((b.matchesCode v = true ∧ c.matchesCode v = false) ∨ (b.matchesCode v = c.matchesCode v ∧
      ((winDist b.window wc).natAbs < (winDist c.window wc).natAbs ∨ ((winDist b.window wc).natAbs = (winDist c.window wc).natAbs ∧
        (winDist c.window wc < winDist b.window wc ∨ (winDist c.window wc = winDist b.window wc ∧ i < j)))))) := by
  unfold ranksBefore
  rw [← Booking.matchesCode_iff, ← Booking.matchesCode_iff]
  generalize b.matchesCode v = x; generalize c.matchesCode v = y
  generalize winDist b.window wc = d; generalize winDist c.window wc = e
  constructor
  · rintro (⟨h1, h2⟩ | ⟨h1, h2⟩)
    · left; exact ⟨h1, by simpa using h2⟩
    · right; exact ⟨by cases x <;> cases y <;> simp_all, h2 d e rfl rfl⟩
  · rintro (⟨h1, h2⟩ | ⟨h1, h2⟩)
    · left; exact ⟨h1, by simpa using h2⟩
    · right; exact ⟨by rw [h1], by rintro _ _ rfl rfl; exact h2⟩

/-- Of two candidates the ranking test and the order of R72 agree. -/
theorem ranksFirst_ranksBefore (v : Visit) (wc) (b c : Booking) (i j : Nat) (h : i < j) :
    (ranksFirst v wc b c = true → ranksBefore v wc b c i j) ∧ (ranksFirst v wc b c = false → ranksBefore v wc c b j i) := by
  rw [ranksBefore_iff, ranksBefore_iff]
  unfold ranksFirst; dsimp only
  generalize b.matchesCode v = x; generalize c.matchesCode v = y
  generalize winDist b.window wc = d; generalize winDist c.window wc = e
  cases x <;> cases y <;> simp
  all_goals first | done | ((try split) <;> omega)

theorem ranksBefore_trans (v : Visit) (wc) (a b c : Booking) (i j k : Nat)
    (h1 : ranksBefore v wc a b i j) (h2 : ranksBefore v wc b c j k) : ranksBefore v wc a c i k := by
  rw [ranksBefore_iff] at *
  generalize a.matchesCode v = x at *; generalize b.matchesCode v = y at *; generalize c.matchesCode v = z at *
  generalize winDist a.window wc = d at *; generalize winDist b.window wc = e at *; generalize winDist c.window wc = f at *
  cases x <;> cases y <;> cases z <;> simp at h1 h2 ⊢
  all_goals omega

theorem ranksBefore_asymm (v : Visit) (wc) (a b : Booking) (i j : Nat)
    (h1 : ranksBefore v wc a b i j) (h2 : ranksBefore v wc b a j i) : False := by
  rw [ranksBefore_iff] at *
  generalize a.matchesCode v = x at *; generalize b.matchesCode v = y at *
  generalize winDist a.window wc = d at *; generalize winDist b.window wc = e at *
  cases x <;> cases y <;> simp at h1 h2
  all_goals omega

theorem ranksBefore_succ (v : Visit) (wc) (a b : Booking) (i j : Nat) : ranksBefore v wc a b (i+1) (j+1) ↔
    ranksBefore v wc a b i j := by
  rw [ranksBefore_iff, ranksBefore_iff]; simp

theorem selectedByTable_cons (th) (v : Visit) (wc) (o : Option Booking) (t) (c)
    (ho : ∀ b, o = some b → ¬ (b.state = .available ∧ b.isMatchFor th v)) (h : selectedByTable th v wc t c) : selectedByTable th v wc (o :: t) c := by
  obtain ⟨i, h1, h2, h3, h4⟩ := h
  refine ⟨i + 1, by simpa using h1, h2, h3, ?_⟩
  intro j d hj hne ha hm
  cases j with
  | zero => simp at hj; exact absurd ⟨ha, hm⟩ (ho d hj)
  | succ j => rw [ranksBefore_succ]; exact h4 j d (by simpa using hj) (by omega) ha hm

theorem selectedByTable_of_selectBooking (th) (v : Visit) (wc) : ∀ (t : List (Option Booking)) (b),
    selectBooking th v wc t = some b → selectedByTable th v wc t b := by
  intro t
  induction t with
  | nil => intro b h; cases h
  | cons o t ih =>
    intro b h
    unfold selectBooking at h
    cases o with
    | none => exact selectedByTable_cons th v wc none t b (fun b h => by cases h) (ih b h)
    | some a =>
      cases hs : selectBooking th v wc t with
      | none =>
        rw [hs] at h; dsimp only at h
        split at h
        · rename_i ha
          cases h
          refine ⟨0, rfl, ha.1, (Booking.matchesVisit_iff _ _ _).1 ha.2, ?_⟩
          intro j c hj hne h1 h2
          cases j with
          | zero => exact absurd rfl hne
          | succ j =>
            have hm : some c ∈ t := List.mem_of_getElem? (by simpa using hj)
            exact absurd h2 ((selectBooking_eq_none_iff th v wc t).1 hs c hm h1)
        · cases h
      | some c =>
        rw [hs] at h; dsimp only at h
        have ic := ih c hs
        split at h
        · rename_i ha
          obtain ⟨i, h1, h2, h3, h4⟩ := ic
          split at h
          · rename_i hr
            obtain rfl := Option.some.inj h
            refine ⟨0, rfl, ha.1, (Booking.matchesVisit_iff _ _ _).1 ha.2, ?_⟩
            intro j d hj hne e1 e2
            cases j with
            | zero => exact absurd rfl hne
            | succ j =>
              have hj' : t[j]? = some (some d) := by simpa using hj
              have hr' := (ranksFirst_ranksBefore v wc a c 0 (i+1) (by omega)).1 hr
              by_cases hij : j = i
              · subst hij; rw [h1] at hj'; cases hj'; exact hr'
              · exact ranksBefore_trans v wc a c d 0 (i+1) (j+1) hr' ((ranksBefore_succ _ _ _ _ _ _).2 (h4 j d hj' hij e1 e2))
          · rename_i hr
            obtain rfl := Option.some.inj h
            refine ⟨i+1, by simpa using h1, h2, h3, ?_⟩
            intro j d hj hne e1 e2
            cases j with
            | zero => simp at hj; subst hj; exact (ranksFirst_ranksBefore v wc a c 0 (i+1) (by omega)).2 (by simpa using hr)
            | succ j => rw [ranksBefore_succ]; exact h4 j d (by simpa using hj) (by omega) e1 e2
        · rename_i ha
          obtain rfl := Option.some.inj h
          exact selectedByTable_cons th v wc (some a) t c (by rintro b hb ⟨q1, q2⟩; cases hb; exact ha ⟨q1,
              (Booking.matchesVisit_iff _ _ _).2 q2⟩) ic

theorem selectBooking_of_selectedByTable (th) (v : Visit) (wc) (t) (b) : selectedByTable th v wc t b →
    selectBooking th v wc t = some b := by
  rintro ⟨i, h1, h2, h3, h4⟩
  cases hs : selectBooking th v wc t with
  | none => exact absurd h3 ((selectBooking_eq_none_iff th v wc t).1 hs b (List.mem_of_getElem? h1) h2)
  | some c =>
    obtain ⟨j, k1, k2, k3, k4⟩ := selectedByTable_of_selectBooking th v wc t c hs
    by_cases hij : j = i
    · subst hij; rw [h1] at k1; cases k1; rfl
    · exact (ranksBefore_asymm v wc b c i j (h4 j c k1 hij k2 k3) (k4 i b h1 (fun h => hij h.symm) h2 h3)).elim

/-- The record selected is the one that the order of R71 and R72 selects. -/
theorem selectBooking_eq_some_iff (th) (v : Visit) (wc) (t) (b) :
    selectBooking th v wc t = some b ↔ selectedByTable th v wc t b :=
  ⟨selectedByTable_of_selectBooking th v wc t b, selectBooking_of_selectedByTable th v wc t b⟩

/-- The reasons where no record is selected are the lines of R74. -/
theorem mem_missReasons_iff (th) (v : Visit) (t : List (Option Booking))
    (hn : ∀ b, some b ∈ t → b.state = .available → ¬ b.isMatchFor th v) (r) : r ∈ missReasons th v t ↔ missByTable th v t r := by
  have hany : ∀ p : Booking → Bool, ((t.filterMap id).filter (fun b => b.matchesVisit th v)).any p = true ↔ ∃ b, some b ∈ t ∧
      b.isMatchFor th v ∧ p b = true := by
    intro p; rw [List.any_eq_true]
    constructor
    · rintro ⟨b, hb, hp⟩; rw [List.mem_filter, List.mem_filterMap] at hb
      obtain ⟨⟨o, h1, h2⟩, h3⟩ := hb; cases h2; exact ⟨b, h1, (Booking.matchesVisit_iff _ _ _).1 h3, hp⟩
    · rintro ⟨b, h1, h2, hp⟩; exact ⟨b, by rw [List.mem_filter, List.mem_filterMap]; exact ⟨⟨_, h1, rfl⟩,
        (Booking.matchesVisit_iff _ _ _).2 h2⟩, hp⟩
  unfold missReasons; dsimp only
  have hd := hany (fun b => match b.state with | .here _ _ | .elsewhere _ _ => true | _ => false)
  have hc := hany (fun b => b.state == .cancelled)
  generalize ((t.filterMap id).filter (fun b => b.matchesVisit th v)).any (fun b => match b.state with | .here _ _ | .elsewhere _ _ => true | _ => false) = D at *
  generalize ((t.filterMap id).filter (fun b => b.matchesVisit th v)).any (fun b => b.state == .cancelled) = C at *
  have hd' : D = true ↔ missByTable th v t .duplicate := by
    rw [hd]; unfold missByTable
    constructor
    · rintro ⟨b, h1, h2, h3⟩; refine ⟨b, h1, h2, ?_⟩; cases hb : b.state <;> simp_all
    · rintro ⟨b, h1, h2, ⟨k, n, h3⟩ | ⟨k, n, h3⟩⟩ <;> exact ⟨b, h1, h2, by rw [h3]⟩
  have hc' : C = true ↔ missByTable th v t .bookingCancelled := by
    rw [hc]; unfold missByTable; simp
  have hu : (D = false ∧ C = false) ↔ missByTable th v t .bookingUnknown := by
    constructor
    · rintro ⟨e1, e2⟩ b h1 h2
      cases hb : b.state with
      | available => exact .inl rfl
      | used => exact .inr rfl
      | cancelled => have := hc'.2 ⟨b, h1, h2, hb⟩; rw [e2] at this; cases this
      | here k n => have := hd'.2 ⟨b, h1, h2, .inl ⟨k, n, hb⟩⟩; rw [e1] at this; cases this
      | elsewhere k n => have := hd'.2 ⟨b, h1, h2, .inr ⟨k, n, hb⟩⟩; rw [e1] at this; cases this
    · intro h
      refine ⟨?_, ?_⟩
      · cases hD : D with
        | false => rfl
        | true => obtain ⟨b, h1, h2, ⟨k, n, h3⟩ | ⟨k, n, h3⟩⟩ := hd'.1 hD <;> rcases h b h1 h2 with h | h <;> rw [h3] at h
            <;> cases h
      · cases hC : C with
        | false => rfl
        | true => obtain ⟨b, h1, h2, h3⟩ := hc'.1 hC; rcases h b h1 h2 with h | h <;> rw [h3] at h <;> cases h
  by_cases q1 : r = .duplicate
  · subst q1; rw [← hd']; cases D <;> cases C <;> simp
  by_cases q2 : r = .bookingCancelled
  · subst q2; rw [← hc']; cases D <;> cases C <;> simp
  by_cases q3 : r = .bookingUnknown
  · subst q3; rw [← hu]; cases D <;> cases C <;> simp
  have : ¬ missByTable th v t r := by cases r <;> first | exact absurd rfl q1 | exact absurd rfl q2 | exact absurd rfl q3 | exact id
  simp only [this, iff_false]
  cases D <;> cases C <;> simp [q1, q2, q3]

/-! ### Peaks, code merge and dark runs (R56, R121, R126) -/

/-- The peak of a zone is the one of R126. -/
theorem zonePeak_eq_some_iff (profile : Option (List Nat)) (data : Option PassSummary) (i n : Nat) :
    (match profile, data with
      | some es, some d =>
        match es[i]?, (zoneAt d i).dmin, (zoneAt d i).dmax with
        | some e, some lo, some hi => some (peak e lo hi)
        | _, _, _ => none
      | _, _ => none) = some n ↔
    ∃ es ds e d dmin dmax, profile = some es ∧ data = some ds ∧ es[i]? = some e ∧ ds[i]? = some d ∧
      d.dmin = some dmin ∧ d.dmax = some dmax ∧ n = min 255 (max ((dmax : Int) - e).natAbs ((dmin : Int) - e).natAbs) := by
  constructor
  · intro h
    split at h
    · split at h
      · rename_i es ds _ _ _ e lo hi e1 e2 e3
        cases h
        unfold zoneAt at e2 e3
        rw [List.getD_eq_getElem?_getD] at e2 e3
        cases hz : ds[i]? with
        | none => rw [hz] at e2; cases e2
        | some z => rw [hz] at e2 e3; exact ⟨es, ds, e, z, lo, hi, rfl, rfl, e1, hz, e2, e3, rfl⟩
      · cases h
    · cases h
  · rintro ⟨es, ds, e, d, lo, hi, rfl, rfl, h1, h2, h3, h4, rfl⟩
    have hz : zoneAt ds i = d := by unfold zoneAt; rw [List.getD_eq_getElem?_getD, h2]; rfl
    simp only [h1, hz, h3, h4]; rfl

/-- The peaks that fit the table of R126 are the peaks computed. -/
theorem peaksByTable_iff (zs : List Zone) (profile : Option (List Nat)) (data : Option PassSummary)
    (peaks : List (Zone × Option Nat)) : peaksByTable zs profile data peaks ↔ peaks = zonePeaks zs profile data := by
  unfold peaksByTable zonePeaks
  generalize zs.zipIdx.filter (fun p => p.1.enabled) = l
  constructor
  · intro h
    induction h with
    | nil => rfl
    | cons hp _ ih =>
      rw [List.map_cons, ← ih]
      exact congrArg (· :: _) (Prod.ext hp.1
        (Option.ext fun n => (hp.2 n).trans (zonePeak_eq_some_iff profile data _ n).symm))
  · rintro rfl
    rw [List.forall₂_map_right_iff, List.forall₂_same]
    exact fun p _ => ⟨rfl, fun n => zonePeak_eq_some_iff profile data p.2 n⟩

/-- A code result that fits the lines of R56 is the one computed. -/
theorem mergedByTable_eq (f r c : ContainerSlot) (h : mergedByTable f r c) : c.status = (mergeCodes f r).status ∧
    c.code = (mergeCodes f r).code := by
  obtain ⟨h1, h2, h3, h4⟩ := h
  unfold mergeCodes
  cases hf : f.status <;> cases hr : r.status <;> simp [hf, hr] at h1 h2 h3 h4 ⊢
  all_goals first | exact h1 | exact h2 | exact h4 | exact ⟨h3.2, h3.1⟩ | skip
  by_cases hc : r.code = f.code
  · rw [if_pos hc, hf]; exact ⟨h3.2.1 hc, h3.1⟩
  · rw [if_neg hc]; exact ⟨h3.2.2 hc, h3.1⟩

theorem mem_enabledZones (zs : List Zone) (i) : i ∈ enabledZones zs ↔ ∃ z, zs[i]? = some z ∧ z.enabled = true := by
  unfold enabledZones
  simp only [List.mem_map, List.mem_filter, Prod.exists, List.mem_zipIdx_iff_getElem?]
  constructor
  · rintro ⟨z, k, ⟨h1, h2⟩, rfl⟩; exact ⟨z, h1, h2⟩
  · rintro ⟨z, h1, h2⟩; exact ⟨z, i, ⟨h1, h2⟩, rfl⟩

/-- The dark runs after a pass are the lines of R121. -/
theorem darkRunsAfter_byTable (zs : List Zone) (d : PassSummary) (runs : List Nat) :
    darkRunsByTable zs d runs (darkRunsAfter zs d runs) := by
  refine ⟨by simp [darkRunsAfter], ?_⟩
  intro en ga hen hga i run next hb ha
  have hn : next = darkRunAfter zs d i run := by
    unfold darkRunsAfter at ha
    rw [List.getElem?_map, List.getElem?_zipIdx, hb] at ha
    simpa using ha.symm
  subst hn
  have hen' : ∀ j, en j ↔ j ∈ enabledZones zs := fun j => by rw [hen, mem_enabledZones]
  have hz : ∀ j, zoneAt d j = ga j := fun j => by rw [hga]; rfl
  have han : ((enabledZones zs).any (fun j => j != i && decide (0 < (zoneAt d j).readings)) = true) ↔ ∃ j, j ≠ i ∧ en j ∧
      0 < (ga j).valid + (ga j).invalid := by
    rw [List.any_eq_true]
    constructor
    · rintro ⟨j, a, b⟩
      simp only [Bool.and_eq_true, bne_iff_ne, decide_eq_true_eq, ne_eq, hz] at b
      exact ⟨j, b.1, (hen' j).2 a, b.2⟩
    · rintro ⟨j, a, b, c⟩
      refine ⟨j, (hen' j).1 b, ?_⟩
      simp only [Bool.and_eq_true, bne_iff_ne, decide_eq_true_eq, ne_eq, hz]
      exact ⟨a, c⟩
  have hi := hz i
  unfold darkRunAfter
  generalize zoneAt d i = zi at hi
  generalize (enabledZones zs).any (fun j => j != i && decide (0 < (zoneAt d j).readings)) = oth at han
  subst hi
  refine ⟨?_, ?_, ?_, ?_⟩
  · intro a b; rw [if_pos ((hen' i).1 a), if_pos b]
  · intro a b c e; rw [if_pos ((hen' i).1 a), if_neg (by omega), if_pos ⟨by unfold ZoneData.readings; omega, han.2 e⟩]
  · intro a b c
    rw [if_pos ((hen' i).1 a), if_neg (by omega), if_neg]
    rintro ⟨e, g⟩
    obtain ⟨j, f, g, h⟩ := han.1 g
    unfold ZoneData.readings at e
    rcases c with c | c
    · omega
    · have := c j f g; omega
  · intro a; rw [if_neg (fun h => a ((hen' i).2 h))]

/-! ### A report written into a record (R53 to R57, R102) -/

theorem SealEntry.update_byTable (h e : SealEntry) (ht : h.text = e.text) : sealByTable h e (h.update e) := by
  obtain ⟨t1, k1, g1⟩ := h; obtain ⟨t2, k2, g2⟩ := e
  unfold sealByTable SealEntry.update higherTag
  cases k1 <;> cases k2 <;> simp
  all_goals
    cases g1 with
    | none => simp
    | some a => cases g2 with
      | none => cases a <;> simp
      | some b => cases a <;> cases b <;> simp [TagState.rank]

/-- A report is refused exactly as R57 says. -/
theorem Visit.attach_eq_none_iff (v : Visit) (r : Report) : v.attach r = none ↔ v.refusesReport r := by
  unfold Visit.attach Visit.refusesReport
  cases r with
  | plate t c => simp
  | code p t z ok => simp
  | sealRead p e =>
    simp only [Option.map_eq_none_iff, ContainerSlot.takeSeal, Report.sealRead.injEq]
    constructor
    · intro h
      split at h
      · cases h
      · rename_i hn
        simp only [Bool.or_eq_true, not_or, decide_eq_true_eq, hasSeal, List.any_eq_true, beq_iff_eq, not_exists, not_and] at hn
        exact ⟨p, e, ⟨rfl, rfl⟩, by omega, hn.1⟩
    · rintro ⟨p', e', ⟨rfl, rfl⟩, h1, h2⟩
      rw [if_neg]
      simp only [Bool.or_eq_true, not_or, decide_eq_true_eq, hasSeal, List.any_eq_true, beq_iff_eq, not_exists, not_and]
      exact ⟨h2, by omega⟩

theorem Visit.slot_updSlot (v : Visit) (p f) : (v.updSlot p f).slot p = f (v.slot p) := by cases p <;> rfl

/-- What an attached report writes. -/
theorem Visit.attach_reportWritten (v w : Visit) (r : Report) (h : v.attach r = some w) : v.reportWritten w r := by
  cases r with
  | plate t c =>
    simp only [Visit.attach, Option.some.injEq] at h
    subst h
    unfold Visit.takePlate
    refine ⟨fun a => by rw [if_pos a], fun a b => by rw [if_neg]; rintro (h | h); exact a h; omega⟩
  | code p t z ok =>
    simp only [Visit.attach, Option.some.injEq] at h
    subst h
    refine ⟨?_, ?_⟩
    · cases p <;> rfl
    · rw [Visit.slot_updSlot]
      unfold codeByTable ContainerSlot.takeCode
      generalize v.slot p = c
      cases hs : c.status <;> simp
      all_goals cases ok <;> simp
      all_goals (by_cases hc : c.code = some t <;> simp [hc])
  | sealRead p e =>
    simp only [Visit.attach, Option.map_eq_some_iff] at h
    obtain ⟨c, h1, h2⟩ := h
    unfold ContainerSlot.takeSeal at h1
    split at h1
    · cases h1
      subst h2
      refine ⟨by cases p <;> rfl, ?_, ?_⟩
      · intro hh; rw [Visit.slot_updSlot]; dsimp only; unfold addSeal
        rw [if_neg]
        simp only [hasSeal, List.any_eq_true, beq_iff_eq, not_exists, not_and]; exact hh
      · intro hh; rw [Visit.slot_updSlot]; dsimp only; unfold addSeal
        rw [if_pos (by simp only [hasSeal, List.any_eq_true, beq_iff_eq]; exact hh)]
        refine ⟨by simp, ?_⟩
        intro i h k a b
        rw [List.getElem?_map, a] at b
        simp only [Option.map_some, Option.some.injEq] at b
        subst b
        refine ⟨fun hn => by rw [if_neg hn], fun hy => by rw [if_pos hy]; exact SealEntry.update_byTable _ _ hy⟩
    · cases h1

/-! ### A message placed for a visit (R141) -/

theorem any_visit_iff (q : List Message) (n) : q.any (fun x => x.visit == some n) = true ↔ ∃ x ∈ q, x.visit = some n := by simp

theorem any_visit_false (q : List Message) (n) (h : ∀ x ∈ q, x.visit ≠ some n) : q.any (fun x => x.visit == some n) = false := by
  rw [List.any_eq_false]; intro x hx; simpa using h x hx

theorem replaceOf_append (m : Message) (n) (hm : m.visit = some n) (before : List Message) (x after) (hx : x.visit = some n)
    (hb : ∀ y ∈ before, y.visit ≠ some n) :
    replaceOf m (before ++ x :: after) = before ++ m :: after := by
  induction before with
  | nil => simp [replaceOf, hx, hm]
  | cons a l ih =>
    show replaceOf m (a :: (l ++ x :: after)) = _
    unfold replaceOf
    rw [if_neg (by rw [hm]; exact hb a (by simp)), ih (fun y hy => hb y (by simp [hy]))]; rfl

theorem State.joinQueue_yard (m) (s : State) : (s.joinQueue m).yard = { s.yard with queue := s.yard.queue ++ [m] } := by
  unfold State.joinQueue; rw [State.pumpDisplay_frame _ |>.2.2.2.2.2.2.2.1]; rfl

theorem State.placeVisitMessage_joins (m : Message) (n) (s : State) (hm : m.visit = some n) (h1 : s.yard.held = [])
    (h2 : s.yard.queue.length < 4) (h3 : ∀ x ∈ s.yard.queue, x.visit ≠ some n) :
        (s.placeVisitMessage m).yard = { s.yard with queue := s.yard.queue ++ [m] } := by
  unfold State.placeVisitMessage
  have e : ∀ q : List Message, (∀ x ∈ q, x.visit ≠ some n) → q.any (fun x => x.visit == m.visit) = false := by
    intro q hq; rw [List.any_eq_false]; intro x hx; rw [hm]; simpa using hq x hx
  split
  · rename_i hd tl hq
    rw [hq] at h3 h2
    rw [if_neg (by rw [hm]; exact h3 _ (by simp)), if_neg (by rw [e tl (fun x hx => h3 x (by simp [hx]))]; simp), h1]
    simp only [List.any_nil, List.isEmpty_nil, Bool.and_true]
    rw [if_neg (by simp), if_pos (by rw [hq]; simpa using h2)]
    exact State.joinQueue_yard _ _
  · rename_i hq
    rw [h1]; simp only [List.any_nil, List.isEmpty_nil]
    simp only [Bool.false_eq_true, if_false, if_true]
    exact State.joinQueue_yard _ _

/-- A message is placed by the lines of R141. -/
theorem State.placeVisitMessage_placed (m : Message) (n) (s : State) (hm : m.visit = some n) :
    s.messagePlaced (s.placeVisitMessage m) n m := by
  refine ⟨?_, ?_, ?_, ?_⟩
  · intro h
    have hq : ∀ x ∈ s.yard.queue, x.visit ≠ some n := fun x hx => h x (by simp [hx])
    have hh : ∀ x ∈ s.yard.held, x.visit ≠ some n := fun x hx => h x (by simp [hx])
    have ah := any_visit_false _ _ hh
    refine ⟨?_, ?_⟩
    · intro hl he
      rw [State.placeVisitMessage_joins m n s hm he hl hq]; exact ⟨rfl, he⟩
    · intro hc
      unfold State.placeVisitMessage; rw [hm]
      split
      · rename_i a t hs
        rw [hs] at hq
        rw [if_neg (hq a (by simp)), any_visit_false t n (fun x hx => hq x (by simp [hx])), ah]
        simp only [Bool.false_eq_true, if_false]
        rw [if_neg]
        · exact ⟨rfl, rfl⟩
        · simp only [Bool.and_eq_true, decide_eq_true_eq, List.isEmpty_iff]
          rintro ⟨h1, h2⟩; rcases hc with hc | hc
          · omega
          · exact hc h2
      · rename_i hs
        rw [ah]; simp only [Bool.false_eq_true, if_false]
        rcases hc with hc | hc
        · rw [hs] at hc; simp at hc
        · rw [if_neg (by simpa using hc)]; exact ⟨rfl, rfl⟩
  · intro a t hs ha hh
    unfold State.placeVisitMessage; rw [hm, hs]; dsimp only
    rw [if_pos ha, any_visit_false _ _ hh]; simp only [Bool.false_eq_true, if_false]
    exact ⟨hs, rfl⟩
  · intro before x after hs hb hx hbb
    cases before with
    | nil => exact absurd rfl hb
    | cons a l =>
      unfold State.placeVisitMessage; rw [hm, hs]; dsimp only [List.cons_append]
      rw [if_neg (hbb a (by simp)), if_pos ((any_visit_iff _ _).2 ⟨x, by simp, hx⟩)]
      refine ⟨?_, rfl⟩
      show a :: replaceOf m (l ++ x :: after) = _
      rw [replaceOf_append m n hm l x after hx (fun y hy => hbb y (by simp [hy]))]
  · intro before x after hs hx hb ht
    have ah : s.yard.held.any (fun x => x.visit == some n) = true := (any_visit_iff _ _).2 ⟨x, by rw [hs]; simp, hx⟩
    have fin : (s.setHeld (replaceOf m s.yard.held)).yard.queue = s.yard.queue ∧
        (s.setHeld (replaceOf m s.yard.held)).yard.held = before ++ m :: after :=
      ⟨rfl, by show replaceOf m s.yard.held = _; rw [hs, replaceOf_append m n hm before x after hx hb]⟩
    unfold State.placeVisitMessage; rw [hm]
    split
    · rename_i a t hq
      rw [hq] at ht
      rw [ah, any_visit_false t n ht]; simp only [Bool.false_eq_true, if_true, if_false]
      split
      · have := fin; rw [hq] at this ⊢; exact this
      · have := fin; rw [hq] at this ⊢; exact this
    · rename_i hq
      rw [ah]; simp only [if_true]; exact fin

end Sys2Proof.Machine
end

