-- ==== Sys2Proof/WellFormed.lean ====
section
/-! DEFINITION. Which commands can be written on the channel that carries them: a reader message is a count byte and at
most 255 bytes (R173); a frame has a length byte of at most 255 words (R164), so at most 516 bytes. -/

namespace Sys2Proof

/-- The count byte of a reader message counts `n` bytes after it (R173). -/
def fitsCount (n : Nat) : Bool := n ≤ 255

/-- A text of a report: its own count byte is one byte (R173). -/
def fitsMessage (overhead : Nat) (text : List Byte) : Bool := fitsCount (overhead + text.length)

/-- Header, payload of up to 255 words and CRC (R164). -/
def fitsFrame (bytes : List Byte) : Bool := bytes.length ≤ 4 + 2 * 255 + 2

/-- A command that its channel can carry. The overheads count the bytes after the message's count byte other than the
text: kind, text count and the fixed fields of the report (R173). -/
def Instr.wellFormed : Instr → Bool
  | .plateReport _ text _ => fitsMessage 3 text
  | .codeReport _ _ text _ => fitsMessage 4 text
  | .sealReport _ _ _ _ text => fitsMessage 5 text
  | .malformedReport _ msg => fitsCount (msg.length - 1)
  | .frameReceived _ bytes => fitsFrame bytes
  | .contentionLost _ bytes => fitsFrame bytes
  | .powerOn _ _ | .resetNFall | .lineReset | .resetNRelease _ | .lineLevelChange _ _ | .debounceExpiry _ | .windowRoll
  | .timeFrame | .openFrame | .closeFrame | .holdTimeoutExpiry _ | .releaseFrame | .refuseFrame | .exitCheckExpiry _
  | .helloReport _ | .holdingBufferExpiry _ | .displayAccept _ | .displayBusy _ | .displayReject _
  | .displayUnusableAnswer _ | .answerWaitExpiry | .retryWaitExpiry | .displayHello | .blockNoteFrame | .upCheckExpiry
  | .settleTimeExpiry | .bookingFrame | .bookingCancelFrame | .claimFrame | .claimEndFrame | .loanAskFrame
  | .loanOfferFrame | .loanTakeFrame | .loanConfirmFrame | .loanVoidFrame | .loanDeclineFrame | .askDeadlineExpiry
  | .offerExpiry | .peerSilenceExpiry | .converterSample _ | .alertClearFrame | .countersFetchFrame | .idClashTimerExpiry
  | .officeSilenceExpiry | .txStart | .frameSent | .configFrame | .resetReqFrame _ | .resetReqTimerExpiry | .tenthsRise =>
    true

end Sys2Proof
end

