-- ==== Sys2Proof/Tests/Slice0.lean ====
section
/-! SUPPORT. Checks of the model: ill-formed commands are refused, the spec's worked cases come out, and the hypotheses of each
statement are met by a concrete state. Expected results are the manual's. -/

namespace Sys2Proof.Tests

open Sys2Proof Sys2Proof.Machine

/-! ### States to start from -/

def general0 : General where
  windowMinutes := 30
  graceEarly := 60
  graceLate := 60
  shares := [2, 3, 1, 0]
  reserve := 0
  plateThreshold := 60
  holdMinutes := 5
  polarity := .all .activeHigh
  debounceMs := 50
  alertMask := 0
  samplesPerReading := 2
  bandMinor := 20
  bandMajor := 100
  hardLimit := 40

def zones0 : List Zone := List.replicate 12 ⟨true, 100, 10, 1⟩

def profiles0 (n : Nat) : List (List Nat) := List.replicate n (List.replicate 12 300)

/-- A1 a stack, IN the inspection, BU the buffer lot, OV the overflow. -/
def blocks0 : List BlockEntry :=
  [⟨[0x41, 0x31], .stack, 255, 0⟩, ⟨[0x49, 0x4E], .inspection, 255, 0⟩, ⟨[0x42, 0x55], .buffer, 255, 0⟩,
   ⟨[0x4F, 0x56], .overflow, 255, 0⟩]

/-- Lane 5, running and OPEN, its clock at window 50, tenths 100. -/
def lane5 : State :=
  { State.reset with
    start := { State.reset.start with phase := .running, resetPin := true, straps := some ⟨5, .k125⟩
                                      config := some ⟨general0, zones0, profiles0 4⟩ }
    line := { State.reset.line with debounced := some (.all false) }
    clock := ⟨true, false, 50, 100, 0, 1⟩
    visits := { State.reset.visits with mode := .laneOpen }
    booking := { State.reset.booking with window := some 50 }
    capacity := { State.reset.capacity with quota := some ⟨50, 2, 0, 0, 0⟩ }
    yard := { State.reset.yard with blocks := blocks0, window := some 50 }
    bus := { State.reset.bus with silence := .running 5000 } }

/-- The lane in another mode. -/
def inMode (m : LaneMode) (s : State) : State := { s with visits := { s.visits with mode := m } }

/-- The lane with these visits in its lane queue. -/
def withVisits (vs : List Visit) (s : State) : State := { s with visits := { s.visits with laneQueue := vs, nextNumber := 9 } }

/-- The lane with these visits parked. -/
def withParked (vs : List Visit) (s : State) : State := { s with visits := { s.visits with parked := vs, nextNumber := 9 } }

/-- A visit of the lane in a state. -/
def visit (n : VisitNumber) (st : SlotState) : Visit := Visit.fresh n st ⟨50, 0⟩

/-- The lane with one frame buffered. -/
def withRx (f : RxFrame) (s : State) : State := { s with bus := { s.bus with rx := [f] } }

/-- A frame of the office station to lane 5. -/
def office (k : FrameKind) (payload : List Byte) : RxFrame := ⟨31, 5, k, payload, false⟩

/-- A frame of lane 7 to lane 5. -/
def peer (k : FrameKind) (payload : List Byte) : RxFrame := ⟨7, 5, k, payload, false⟩

/-- A line about to change to `up` at the end of its debounce time. -/
def atEdge (l : Line) (up : Bool) (s : State) : State :=
  { s with line := { s.line with pins := s.line.pins.put l up, debounced := some ((LineSet.all false).put l !up)
                                 timers := s.line.timers.put l (.running 50) } }

/-- The lane with these frames in its Transmit Queue. -/
def withTx (q : List TxEntry) (s : State) : State := { s with bus := { s.bus with txQueue := q } }

/-- A class-1 frame and a class-2 frame in the Transmit Queue. -/
def note1 : TxEntry := ⟨.blockNote [0x41, 0x31] 50, false⟩
def status2 : TxEntry := ⟨.status 0 .laneOpen, false⟩

/-- The lane with these places of the Outcome Queue RESERVED. -/
def withReserved (ns : List VisitNumber) (s : State) : State := { s with outcome := { s.outcome with reserved := ns } }

/-- The lane with these records at the head of its Booking Table. -/
def withBookings (bs : List Booking) (s : State) : State :=
  { s with booking := { s.booking with table := bs.map some ++ List.replicate (64 - bs.length) none } }

/-- The lane with an Ask of number 3 open in a state for visit 1. -/
def withAsk (st : AskState) (s : State) : State :=
  { s with capacity := { s.capacity with ask := some ⟨3, 50, st, .running 1500⟩, waitList := [1], takes := [⟨7, 50, 3⟩] } }

/-- Plate "AB12" and reference "R1". -/
def plate0 : Text := [0x41, 0x42, 0x31, 0x32]
def ref0 : Text := [0x52, 0x31]

/-- Booking R1 of plate AB12 for window 50, one empty container to be picked up at A1. -/
def booking0 (st : BookingState) : Booking := ⟨ref0, plate0, 50, [⟨.pickEmpty, none, 0, [], [[0x41, 0x31]]⟩], st⟩

/-! ### Ill-formed commands are refused by the form check -/

theorem test_plate_too_long : (Instr.plateReport false (List.replicate 253 0x41) 0).wellFormed = false := by decide +kernel
theorem test_code_too_long : (Instr.codeReport false 0 (List.replicate 252 0x41) 0).wellFormed = false := by decide +kernel
theorem test_seal_too_long : (Instr.sealReport false 0 0 0 (List.replicate 251 0x41)).wellFormed = false := by decide +kernel
theorem test_message_too_long : (Instr.malformedReport .plateReader (List.replicate 257 0)).wellFormed = false := by decide +kernel
theorem test_frame_too_long : (Instr.frameReceived false (List.replicate 517 0)).wellFormed = false := by decide +kernel
theorem test_winner_too_long : (Instr.contentionLost false (List.replicate 517 0)).wellFormed = false := by decide +kernel

/-! ### The spec's worked cases -/

/-- Window distance (00). -/
theorem test_window_distance :
    winDist 200 199 = -1 ∧ winDist 254 1 = 3 ∧ winDist 10 138 = -128 ∧ winDist 10 137 = 127 := by decide

/-- The CRC of the characters 1 to 9 is 29B1h (R164). -/
theorem test_crc_of_digits : crc16 [0x31, 0x32, 0x33, 0x34, 0x35, 0x36, 0x37, 0x38, 0x39] = 0x29B1 := by decide +kernel

/-- BDLU1234562 passes, BDLU1234561 fails, and the remainder 10 of TGHU987659 is written 0 (03, section 3.5). -/
theorem test_check_digits :
    checkDigitPasses [0x42, 0x44, 0x4C, 0x55, 0x31, 0x32, 0x33, 0x34, 0x35, 0x36, 0x32] = true ∧
    checkDigitPasses [0x42, 0x44, 0x4C, 0x55, 0x31, 0x32, 0x33, 0x34, 0x35, 0x36, 0x31] = false ∧
    checkDigitPasses [0x54, 0x47, 0x48, 0x55, 0x39, 0x38, 0x37, 0x36, 0x35, 0x39, 0x30] = true := by decide

/-- The arrival classes of 01, section 1.4, with L = 30 and both graces 60 minutes. -/
theorem test_arrival_classes :
    arrivalClass general0 200 ⟨199, 15000⟩ = .early ∧ arrivalClass general0 254 ⟨1, 1000⟩ = .tooLate ∧
    arrivalClass general0 100 ⟨100, 17999⟩ = .onTime ∧ arrivalClass general0 100 ⟨101, 9⟩ = .late ∧
    arrivalClass general0 100 ⟨98, 0⟩ = .early ∧ arrivalClass general0 100 ⟨97, 17999⟩ = .tooEarly ∧
    arrivalClass general0 100 ⟨103, 0⟩ = .late := by decide

/-- The mean of a reading's samples, halves up (R118). -/
theorem test_reading_values : readingValue 2 201 = 101 ∧ readingValue 8 4004 = 501 ∧ readingValue 8 4003 = 500 := by decide

/-- The values of a clock after a TIME frame of lane 5. -/
def clockAfter (l : Nat) (c : GateClock) (payload : List Byte) : GateClock :=
  (({ lane5 with start := { lane5.start with config := some ⟨{ general0 with windowMinutes := l }, zones0, profiles0 4⟩ }
                 clock := c } : State).takeTime payload).clock

/-- TIME frames of the worked sequence of 01, section 1.3, with L = 20: a frame ahead is adopted, an earlier one pauses the clock. -/
theorem test_clock_sequence :
    clockAfter 20 ⟨true, false, 41, 30, 2, 1⟩ [48, 0, 100, 3] = ⟨true, false, 48, 100, 1, 3⟩ ∧
    clockAfter 20 ⟨true, false, 48, 100, 1, 3⟩ [176, 0, 0, 0] = ⟨true, true, 48, 100, 1, 3⟩ ∧
    clockAfter 20 ⟨true, false, 48, 100, 1, 3⟩ [175, 0, 0, 0] = ⟨true, false, 175, 0, 3, 0⟩ := by decide

/-- The arrival classes of 01, section 1.4, with L = 15 and an early grace of 120 minutes. -/
theorem test_arrival_classes_short :
    arrivalClass { general0 with windowMinutes := 15, graceEarly := 120 } 3 ⟨250, 4500⟩ = .tooEarly ∧
    arrivalClass { general0 with windowMinutes := 15, graceEarly := 120 } 3 ⟨251, 4500⟩ = .early := by decide

/-- The seals of 06, section 6.4: HX12 and HX13 read from both sides with a surplus CUST7, and the same with an OPENED tag. -/
theorem test_closure_both_sides :
    let hx12 : Text := [0x48, 0x58, 0x31, 0x32]
    let hx13 : Text := [0x48, 0x58, 0x31, 0x33]
    let front : List SealEntry := [⟨hx12, .bolt, none⟩, ⟨[0x43, 0x37], .cable, none⟩]
    let rear (t : TagState) : List SealEntry := [⟨hx13, .electronic, some t⟩, ⟨hx12, .bolt, none⟩]
    let v (t : TagState) : Visit := { visit 1 .atPortal with
      inbound := 1, front := { ContainerSlot.fresh with seals := front }
      rear := { ContainerSlot.fresh with seals := addSeal ⟨hx13, .electronic, some t⟩ (rear .noReply) } }
    closureOf [hx12, hx13] ((v .intact).readSet .front) = .fits ∧
    closureReason [hx12, hx13] ((v .intact).readSet .front) = [.sealExtra] ∧
    closureReason [hx12, hx13] ((v .opened).readSet .front) = [.sealTampered] := by decide +kernel

/-- The twin twenties of 06, section 6.5, and the unbooked seals of section 6.6. -/
theorem test_closure_wrong_positions :
    let q (n : Byte) : SealEntry := ⟨[0x51, n], .bolt, none⟩
    closureReason [[0x51, 1]] [] = [.sealMissing] ∧ closureReason [[0x51, 2], [0x51, 3]] [q 2, q 3, q 1] = [.sealExtra] ∧
    closureReason [[0x51, 2], [0x51, 3]] [q 2, q 1, q 9] = [.sealMismatch] ∧ closureReason [] [q 5] = [.sealUnexpected] := by
  decide

/-- The zones and readings of 07, section 7.9: zone 5 a dent, zone 9 seen once, zone 11 blind, zone 12 disabled. -/
def boxZones : List Zone :=
  List.replicate 3 ⟨true, 400, 10, 2⟩ ++ List.replicate 3 ⟨true, 410, 10, 2⟩ ++ List.replicate 3 ⟨true, 200, 15, 3⟩
    ++ [⟨true, 300, 20, 1⟩, ⟨true, 300, 20, 1⟩, ⟨false, 0, 0, 1⟩]
def boxProfile : List Nat := [930, 930, 930, 940, 940, 940, 655, 655, 655, 1200, 1200, 0]
def boxData (roof : Nat) : PassSummary :=
  [⟨some 926, some 935, 3, 0⟩, ⟨some 924, some 933, 3, 0⟩, ⟨some 928, some 931, 3, 0⟩, ⟨some 936, some 944, 3, 0⟩,
   ⟨some 940, some 972, 3, 0⟩, ⟨some 935, some 948, 3, 0⟩, ⟨some 650, some 662, 3, 0⟩, ⟨some 647, some 660, 3, 0⟩,
   ⟨some roof, some roof, 1, 2⟩, ⟨some 1190, some 1215, 3, 0⟩, ⟨none, none, 0, 3⟩, ⟨none, none, 0, 0⟩]
def boxPeaks (roof : Nat) : List (Zone × Option Nat) := zonePeaks boxZones (some boxProfile) (some (boxData roof))

/-- Scores 209 and 584, one zone unsurveyed, bands MINOR and MAJOR; zone 11's dark run rises from 2 to 3 (07, section 7.9). -/
theorem test_damage_of_one_box :
    let g := { general0 with hardLimit := 120, bandMinor := 40, bandMajor := 300 }
    damageScore (boxPeaks 725) = 209 ∧ unsurveyedCount (boxPeaks 725) = 1 ∧ bandOf g (boxPeaks 725) = .minor ∧
    damageScore (boxPeaks 850) = 584 ∧ bandOf g (boxPeaks 850) = .major ∧
    darkRunsAfter boxZones (boxData 725) (List.replicate 10 0 ++ [2, 0]) = List.replicate 10 0 ++ [3, 0] := by decide +kernel

/-- Zone 5's first reading is 940, and zone 9's with a top-of-scale sample is invalid (07, section 7.9). -/
theorem test_readings_of_one_box :
    ZoneData.takeReading 410 4 4241 false ⟨none, none, 0, 0⟩ = ⟨some 940, some 940, 1, 0⟩ ∧
    ZoneData.takeReading 410 4 4497 false ⟨some 940, some 956, 2, 0⟩ = ⟨some 940, some 972, 3, 0⟩ ∧
    sampleValid 4095 = false ∧ sampleValid 4087 = true ∧ sampleValid 8 = true ∧ sampleValid 7 = false := by decide

/-- The table of the worked case of selection, 04, section 4.3 (codes and references shortened to what is compared). -/
def codeT : Text := [0x54, 0x47, 0x48, 0x55, 0x39, 0x38, 0x37, 0x36, 0x35, 0x39, 0x30]
def codeC : Text := [0x43, 0x53, 0x51, 0x55, 0x33, 0x30, 0x35, 0x34, 0x33, 0x38, 0x33]
def selectionTable (third : BookingState) : List (Option Booking) :=
  [some ⟨[1], [0x4B], 122, [⟨.pickFull, none, 0, [], []⟩], .available⟩,
   some ⟨[2], [0x4B], 120, [⟨.dropEmpty, some codeC, 0, [], []⟩], .available⟩,
   some ⟨[3], [0x52], 120, [⟨.dropFull, some codeT, 0, [], []⟩], third⟩]
def selectedRef (confidence : Nat) (code : Option Text) (third : BookingState) : Option Text :=
  (selectBooking 70 { visit 1 .atPortal with
      plate := some [0x4B], confidence := confidence
      front := { ContainerSlot.fresh with code := code, status := if code.isSome then .valid else .none } }
    121 (selectionTable third)).map (·.ref)

theorem test_selection :
    selectedRef 85 (some codeT) .available = some [3] ∧ selectedRef 60 (some codeT) .available = some [3] ∧
    selectedRef 85 none .available = some [2] ∧ selectedRef 85 (some codeT) (.elsewhere 12 ⟨121, 0⟩) = some [2] := by
  decide +kernel

/-- PROCEED for 520 and WAIT for 522 at the display: the worked sequence of 03, section 3.7, as delivery state, busy count and
toggle. -/
def twoMessages : State :=
  { lane5 with yard := { lane5.yard with queue := [⟨.proceed, some 520, []⟩, ⟨.wait, some 522, []⟩] }
               reader := { lane5.reader with display := ⟨.sent, true, 0, .running 200, .stopped⟩ } }
def displayAfter (cs : List Instr) : Option (Delivery × Nat × Bool × Nat) :=
  cs.foldl (fun o c => o.bind (fun s => match exec c s with | .next t => some t | _ => none)) (some twoMessages)
    |>.map (fun s => (s.reader.display.delivery, s.reader.display.busyCount, s.reader.display.sendToggle, s.yard.queue.length))

theorem test_delivery_retried :
    displayAfter [.answerWaitExpiry] = some (.retryWait, 1, true, 2) ∧
    displayAfter [.answerWaitExpiry, .retryWaitExpiry, .displayBusy true, .retryWaitExpiry] = some (.sent, 2, true, 2) ∧
    displayAfter [.displayAccept true, .displayAccept true] = some (.sent, 0, false, 1) ∧
    displayAfter [.displayAccept true, .displayReject false] = some (.idle, 0, true, 0) := by decide +kernel

/-- LANE_CLOSED with toggle 1 on the display's channel: count 4, kind 6 with bit 7, visit number 0, no stops (R173). -/
theorem test_message_bytes : Message.bytes true ⟨.laneClosed, none, []⟩ = [4, 0x86, 0, 0, 0] := by decide

/-- RESET_N going high after power-on: lane 5 runs, and START with the cause POWER waits to be sent (R174, R175). -/
theorem test_reset_release_starts :
    ∃ t, exec (.resetNRelease ⟨5, .k500⟩) State.reset = .next t ∧ t.start.phase = .running ∧ t.laneId = 5 ∧
      t.bus.txQueue = [⟨.start .power 0 true, false⟩] := ⟨_, rfl, rfl, rfl, rfl⟩

/-! ### Witnesses: each hypothesis of each statement is met -/

/-- A lane that is sound in every way, with a truck about to reach loop A. -/
def sound0 : State := { atEdge .loopA true lane5 with pending := [.debounceExpiry .loopA, .txStart] }

theorem witness_stepRunsFrontCommand : sound0.pending = .debounceExpiry .loopA :: [.txStart] := rfl

theorem witness_everyStepCompletes : lane5.pending = [] := rfl

theorem witness_step_answers : ∃ t, step sound0 = .next t := ⟨_, rfl⟩

theorem witness_placesAndCountersStayInBounds : sound0.placesSound ∧ sound0.countersSound :=
  ⟨by unfold State.placesSound; decide, fun k => by cases k <;> decide⟩

theorem witness_quotaStaysCovered : sound0.quotaSound := ⟨by decide, by decide, by decide, by decide, by decide⟩

theorem witness_busUnitStaysInBounds : sound0.busSound := by unfold State.busSound; decide

theorem witness_alertLineFollowsFlags : sound0.alertSound := by unfold State.alertSound; decide

theorem witness_laneQueueAgreesWithMode : sound0.laneSound := by unfold State.laneSound; decide

theorem witness_displayAgreesWithQueue : sound0.displaySound := ⟨by decide, by decide, rfl, rfl, rfl, rfl⟩

theorem witness_bookingReferencesStayUnique : sound0.bookingsSound := by unfold State.bookingsSound; decide +kernel

theorem witness_configurationAndClockStayInRange : sound0.configSound ∧ sound0.clockSound := by
  refine ⟨⟨nofun, nofun, nofun, nofun, nofun, ?_⟩, fun _ => ⟨_, rfl, by decide⟩, nofun⟩
  intro c h
  cases h
  refine ⟨by unfold General.withinLimits; decide, by unfold zonesWithinLimits; decide +kernel, ?_⟩
  unfold profilesWithinLimits
  decide +kernel

theorem witness_heldDeviceStaysAtReset :
    ∃ t, ({ State.reset with pending := [.resetNFall] } : State).heldSound ∧
      step { State.reset with pending := [.resetNFall] } = .next t := ⟨_, fun _ => rfl, rfl⟩

theorem witness_clockAndConfigurationMoveOnlyBy :
    ∃ t, exec .txStart lane5 = .next t ∧ lane5.start.config = some ⟨general0, zones0, profiles0 4⟩ := ⟨_, rfl, rfl⟩

/-- The clock at the last tenth of window 255. -/
def lastTenth : State := { lane5 with clock := ⟨true, false, 255, 17999, 0, 1⟩ }

theorem witness_windowNeverMovesBack :
    ∃ t, exec .windowRoll lastTenth = .next t ∧ lastTenth.clock.valid = true ∧ t.clock.valid = true ∧
      winDist lastTenth.clock.window t.clock.window = 1 := ⟨_, rfl, rfl, rfl, by decide⟩

/-- Flag BUS set; a full Transmit Queue of class 1; a STATUS waiting. -/
def busSet : State := { lane5 with outcome := { lane5.outcome with flags := { AlertFlags.clear with bus := ⟨true, false⟩ } } }
def fullTx : State := withTx (List.replicate 8 note1) lane5
def statusTx : State := withTx [status2] lane5

theorem witness_latchedFlagIsReported :
    (busSet.flag .bus).isSet = true ∧ (lane5.flag .bus).isSet = false ∧ statusTx.statusWaiting = true ∧
      fullTx.statusWaiting = false ∧ 8 ≤ fullTx.bus.txQueue.length ∧ lane5.statusWaiting = false ∧
      lane5.bus.txQueue.length < 8 := by decide

/-- The lane with CRC_ERRORS at a value. -/
def withCrcErrors (n : Nat) (s : State) : State :=
  { s with outcome := { s.outcome with counters := { s.outcome.counters with crcErrors := n } } }

theorem witness_counterRisesAndSaturates :
    (withCrcErrors 31 lane5).outcome.counters.get .crcErrors = 31 ∧
      (withCrcErrors 255 lane5).outcome.counters.get .crcErrors ≠ 31 := by decide

/-- A queue of seven class-1 frames and a class-2 frame, with an outbox frame of the Capacity Unit. -/
def crowded : State := withTx (List.replicate 7 note1 ++ [status2]) lane5
def boxed : State :=
  { fullTx with bus := { fullTx.bus with outboxes := [⟨.capacityUnit, .loanAsk 50 0⟩] } }

theorem witness_transmitQueueKeepsOrder :
    [note1, status2].Pairwise (fun a b => a.frame.cls ≤ b.frame.cls) ∧ lane5.bus.txQueue.length < 8 ∧
      (8 ≤ crowded.bus.txQueue.length ∧ crowded.bus.txQueue = List.replicate 7 note1 ++ status2 :: [] ∧
        status2.frame.cls = 2 ∧ status2.sending = false ∧ (∀ x ∈ ([] : List TxEntry), x.frame.cls = 2 → x.sending = true) ∧
        crowded.outbox? .capacityUnit = none) ∧
      (8 ≤ fullTx.bus.txQueue.length ∧ (∀ x ∈ fullTx.bus.txQueue, x.frame.cls = 2 → x.sending = true) ∧
        fullTx.outbox? .capacityUnit = none) ∧
      8 ≤ boxed.bus.txQueue.length ∧ (∀ x ∈ boxed.bus.txQueue, x.frame.cls = 2 → x.sending = true) ∧
        (boxed.outbox? .capacityUnit).isSome = true := by decide +kernel

/-- The lane with RESET_N low for less than 10 ms, and a device held in reset by the line. -/
def pinLow : State := { lane5 with start := { lane5.start with resetPin := false, resetQual := .running 10 } }
def lineHeld : State := lane5.resetImage false .stopped .line 3

theorem witness_lowResetLineHoldsTheDevice :
    lane5.start.resetPin = true ∧ pinLow.start.resetPin = false ∧ pinLow.start.resetQual.isRunning = true ∧
      lineHeld.start.resetQual.isRunning = false := by decide

theorem witness_resetReleaseStartsTheLane :
    lineHeld.start.resetPin = false ∧ lineHeld.start.phase = .held ∧ lineHeld.heldSound ∧
      pinLow.start.resetPin = false ∧ pinLow.start.phase = .running := ⟨rfl, rfl, fun _ => rfl, rfl, rfl⟩

/-- RESET_REQ addressed to this lane, with a request pending. -/
def resetPair : State :=
  { withRx (office .resetReq []) lane5 with start :=
      { lane5.start with resetPending := true, resetReqTimer := .running 2000 } }

/-- The same with a RELEASE for this lane in the buffer before it, not yet handed on. -/
def brokenPair : State :=
  { resetPair with bus := { resetPair.bus with rx := [office .release [5, 0, 1, 0], office .resetReq []] } }

theorem witness_resetRequestTakesTwoFrames :
    takeFirst .resetReq (withRx ⟨31, 0, .resetReq, [], false⟩ lane5).bus.rx = some (⟨31, 0, .resetReq, [], false⟩, []) ∧
      takeFirst .resetReq (withRx (office .resetReq []) lane5).bus.rx = some (office .resetReq [], []) ∧
      (office .resetReq []).dest ≠ 0 ∧ lane5.start.resetPending = false ∧
      takeFirst .resetReq resetPair.bus.rx = some (office .resetReq [], []) ∧ resetPair.start.resetPending = true ∧
      (∀ g ∈ resetPair.bus.rx.takeWhile (fun x => x.kind != .resetReq), g.dest ≠ resetPair.laneId ∨ g.handed = true) ∧
      takeFirst .resetReq brokenPair.bus.rx
        = some (office .resetReq [], [{ office .release [5, 0, 1, 0] with handed := true }]) ∧
      (∃ g ∈ brokenPair.bus.rx.takeWhile (fun x => x.kind != .resetReq), g.dest = brokenPair.laneId ∧ g.handed = false) ∧
      resetPair.start.resetReqTimer.isRunning = true ∧ lane5.start.resetReqTimer.isRunning = false := by decide

/-- A CONFIG frame of the BLOCKS part, A1, IN, BU and OV; a lane before its fixing, and with the four other parts held. -/
def blocksPart : List Byte :=
  [5, 4, 0x41, 0x31, 0, 0, 255, 0x49, 0x4E, 1, 0, 255, 0x42, 0x55, 2, 0, 255, 0x4F, 0x56, 3, 0, 255]
def unfixed : State := inMode .starting { lane5 with start := { lane5.start with config := none }, clock := .initial }
def fourParts : State := { unfixed with start := { unfixed.start with
  assembly := ⟨some general0, some zones0, some (profiles0 2), some (profiles0 2), none⟩ } }

theorem witness_configPartsAreHeldThenFixed :
    (takeFirst .config (withRx (office .config blocksPart) lane5).bus.rx = some (office .config blocksPart, []) ∧
        lane5.start.config.isSome = true) ∧
      configForm [9, 0] = none ∧ unfixed.start.config = none ∧ configForm blocksPart = some (.blocks blocks0) ∧
      (unfixed.start.assembly.hold (.blocks blocks0)).general = none ∧ fourParts.start.config = none ∧
      fourParts.start.assembly.hold (.blocks blocks0)
        = ⟨some general0, some zones0, some (profiles0 2), some (profiles0 2), some blocks0⟩ ∧
      fourParts.clock.valid = false := by decide +kernel

/-- The lane with a debounce time of 0, and with LOOP_A's timer running though the level has returned. -/
def undebounced : State :=
  { lane5 with start := { lane5.start with config := some ⟨{ general0 with debounceMs := 0 }, zones0, profiles0 4⟩ } }
def returned : State := { lane5 with line := { lane5.line with timers := lane5.line.timers.put .loopA (.running 50) } }
def asserted : State := { lane5 with line := { lane5.line with pins := lane5.line.pins.put .loopA true } }

theorem witness_lineChangeRunsTheDebounce :
    lane5.line.pins.get .loopA = false ∧ unfixed.line.pins.get .loopA ≠ true ∧ State.reset.line.debounced = none ∧
      State.reset.line.pins.get .loopA ≠ true ∧ lane5.line.debounced = some (.all false) ∧
      asserted.line.pins.get .loopA ≠ false ∧
      ({ asserted with line := { asserted.line with pins := asserted.line.pins.put .loopA false } } : State).presentLevel
        .loopA = (LineSet.all false).get .loopA ∧
      asserted.presentLevel .loopA ≠ (LineSet.all false).get .loopA ∧ lane5.general.debounceMs ≠ 0 ∧
      undebounced.general.debounceMs = 0 ∧ (lane5.line.timers.get .loopA).isRunning = false ∧
      (returned.line.timers.get .loopA).isRunning = true ∧ returned.presentLevel .loopA = (LineSet.all false).get .loopA := by
  decide

/-- Four visits in the lane queue, with a count of pending arrivals. -/
def fullLane (pending : Nat) : State :=
  let s := withVisits [visit 1 .approach, visit 2 .approach, visit 3 .approach, visit 4 .approach] lane5
  { s with visits := { s.visits with pendingArrivals := pending } }

theorem witness_loopAOccupiedIsAnArrival :
    (atEdge .loopA true lane5).edge .loopA true ∧ (atEdge .loopA true (inMode .starting lane5)).edge .loopA true ∧
      (atEdge .loopA true (fullLane 2)).edge .loopA true ∧ (atEdge .loopA true (fullLane 3)).edge .loopA true ∧
      (atEdge .loopA true (inMode .draining lane5)).edge .loopA true ∧ lane5.visits.laneQueue.length < 4 ∧
      4 ≤ (fullLane 2).visits.laneQueue.length ∧ (fullLane 2).visits.pendingArrivals < 3 ∧
      3 ≤ (fullLane 3).visits.pendingArrivals :=
  ⟨⟨rfl, rfl, _, rfl, rfl⟩, ⟨rfl, rfl, _, rfl, rfl⟩, ⟨rfl, rfl, _, rfl, rfl⟩, ⟨rfl, rfl, _, rfl, rfl⟩,
   ⟨rfl, rfl, _, rfl, rfl⟩, by decide, by decide, by decide, by decide⟩

/-- One visit in the lane. -/
def oneVisit (st : SlotState) : State := withVisits [visit 1 st] lane5

theorem witness_loopPOccupiedFillsThePortal :
    (atEdge .loopP true (inMode .starting lane5)).edge .loopP true ∧ (atEdge .loopP true (oneVisit .approach)).edge .loopP true ∧
      (oneVisit .approach).portal? = none ∧ (∀ ch, ((oneVisit .approach).channel ch).buffer = none) ∧
      (oneVisit .approach).oldest? (fun v => v.state == .approach) = some (visit 1 .approach) ∧
      (atEdge .loopP true lane5).edge .loopP true ∧ lane5.portal? = none ∧ (∀ ch, (lane5.channel ch).buffer = none) ∧
      lane5.oldest? (fun v => v.state == .approach) = none :=
  ⟨⟨rfl, rfl, _, rfl, rfl⟩, ⟨rfl, rfl, _, rfl, rfl⟩, rfl, fun ch => by cases ch <;> rfl, rfl, ⟨rfl, rfl, _, rfl, rfl⟩, rfl,
   fun ch => by cases ch <;> rfl, rfl⟩

/-- A visit at the portal whose plate AB12 was read at the plate threshold, and the booking it selects. -/
def readVisit : Visit := { visit 1 .atPortal with plate := some plate0, confidence := 60 }
def atPortal : State := withBookings [booking0 .available] (withVisits [readVisit] lane5)

theorem witness_loopPVacatedClosesThePortal :
    (atEdge .loopP false lane5).edge .loopP false ∧ lane5.visits.mode ≠ .starting ∧ lane5.portal? = none ∧
      (atEdge .loopP false atPortal).edge .loopP false ∧ atPortal.portal? = some readVisit ∧
      atPortal.visit? 1 = some readVisit ∧ atPortal.survey.pass = none ∧
      selectedByTable atPortal.general.plateThreshold readVisit atPortal.clock.window atPortal.booking.table
        (booking0 .available) ∧
      (∀ b, some b ∈ lane5.booking.table → b.state = .available → ¬ b.isMatchFor lane5.general.plateThreshold readVisit) ∧
      (∀ b, some b ∈ (withBookings [booking0 .used] atPortal).booking.table → b.state = .available →
        ¬ b.isMatchFor lane5.general.plateThreshold readVisit) :=
  ⟨⟨rfl, rfl, _, rfl, rfl⟩, by decide, rfl, ⟨rfl, rfl, _, rfl, rfl⟩, rfl, rfl, rfl,
   (selectBooking_eq_some_iff ..).1 (by decide +kernel), (selectBooking_eq_none_iff _ _ 50 _).1 (by decide +kernel),
   (selectBooking_eq_none_iff _ _ 50 _).1 (by decide +kernel)⟩

/-- A visit short of the stop line, with its active reasons and arrival class. -/
def stopVisit (rs : List Reason) (cls : ArrivalClass) : Visit := { visit 1 .toStop with active := rs, arrival := cls }
def stopLane (rs : List Reason) (cls : ArrivalClass) : State := withVisits [stopVisit rs cls] lane5
def noPlace : State := withReserved (List.replicate 16 0) (stopLane [] .onTime)

theorem witness_loopSOccupiedEvaluates :
    (atEdge .loopS true noPlace).edge .loopS true ∧ noPlace.visits.mode ≠ .starting ∧
      noPlace.oldest? (fun v => v.state == .toStop) = some (stopVisit [] .onTime) ∧
      noPlace.visit? 1 = some (stopVisit [] .onTime) ∧
      16 ≤ noPlace.outcome.reserved.length + noPlace.outcome.filled.length ∧
      (atEdge .loopS true (stopLane [.tooLate] .tooLate)).edge .loopS true ∧
      (stopLane [.tooLate] .tooLate).outcome.reserved.length + (stopLane [.tooLate] .tooLate).outcome.filled.length < 16 ∧
      (stopVisit [.tooLate] .tooLate).active.any Reason.isRefuse = true ∧
      (stopVisit [.duplicate] .none).active.any Reason.isRefuse = false ∧
      (stopVisit [.duplicate] .none).active.any Reason.isClerkHold = true ∧
      (stopVisit [] .onTime).active.any Reason.isClerkHold = false ∧ (stopVisit [] .onTime).needsFlex = false ∧
      (stopVisit [] .early).needsFlex = true ∧ (stopLane [] .early).capacity.quota = some ⟨50, 2, 0, 0, 0⟩ ∧
      (stopLane [] .early).capacity.waitList = [] := by
  refine ⟨⟨rfl, rfl, _, rfl, rfl⟩, by decide, rfl, rfl, by decide, ⟨rfl, rfl, _, rfl, rfl⟩, ?_⟩
  decide

/-- A visit passing the exit loop with a verdict, and one EXITING, not seen on it, whose exit check runs. -/
def passingVisit (vd : Verdict) : Visit := { visit 1 .exiting with verdict := vd, passing := true }
def passingLane (vd : Verdict) : State := withVisits [passingVisit vd] lane5
def unseenVisit (vd : Verdict) : Visit := { visit 1 .exiting with verdict := vd, exitCheck := .running 60000 }
def unseenLane (vd : Verdict) : State := withReserved [1] (withVisits [unseenVisit vd] lane5)

theorem witness_loopXClearsTheLane :
    (atEdge .loopX true (oneVisit .exiting)).edge .loopX true ∧ (oneVisit .exiting).visits.mode ≠ .starting ∧
      (oneVisit .exiting).oldest? (fun v => v.state == .exiting) = some (visit 1 .exiting) ∧
      lane5.oldest? (fun v => v.state == .exiting) = none ∧
      (atEdge .loopX false (passingLane .park)).edge .loopX false ∧ (passingLane .park).laneSound ∧
      (passingLane .park).oldest? (fun v => v.passing) = some (passingVisit .park) ∧
      (passingLane .park).visit? 1 = some (passingVisit .park) ∧ (passingVisit .admitted).verdict ≠ .park :=
  ⟨⟨rfl, rfl, _, rfl, rfl⟩, by decide, rfl, rfl, ⟨rfl, rfl, _, rfl, rfl⟩, by unfold State.laneSound; decide, rfl, rfl,
   by decide⟩

theorem witness_exitCheckEndsAVisitUnseen :
    lane5.oldest? (fun v => v.number == 1 && v.exitCheck.isRunning) = none ∧
      (unseenLane .park).oldest? (fun v => v.number == 1 && v.exitCheck.isRunning) = some (unseenVisit .park) ∧
      (unseenVisit .park).state = .exiting ∧ (unseenVisit .park).passing = false ∧
      (unseenLane .park).visit? 1 = some (unseenVisit .park) ∧ (unseenLane .park).laneSound ∧
      (unseenVisit .admitted).verdict ≠ .park ∧ 1 ∈ (unseenLane .admitted).outcome.reserved :=
  ⟨rfl, rfl, rfl, rfl, rfl, by unfold State.laneSound; decide, by decide, by decide⟩

/-- A visit at the portal with passes in its slots, and an open pass of zone 1. -/
def scanned (front rear : Option PassSummary) : State :=
  withVisits [{ visit 1 .atPortal with front := { ContainerSlot.fresh with pass := front }
                                       rear := { ContainerSlot.fresh with pass := rear } }] lane5
def pass0 (taken sum : Nat) (spoilt : Bool) : Pass :=
  ⟨1, .front, List.replicate 12 ⟨none, none, 0, 0⟩, some 0, taken, sum, spoilt⟩
def sweeping (p : Pass) : State := { scanned none none with survey := { lane5.survey with pass := some p } }

theorem witness_scanOccupiedOpensAPass :
    (atEdge .scan true lane5).edge .scan true ∧ lane5.portal? = none ∧
      (atEdge .scan true (scanned none none)).edge .scan true ∧
      ((scanned none none).portal?.map (fun v => v.front.pass)) = some none ∧
      ((scanned (some []) none).portal?.map (fun v => (v.front.pass, v.rear.pass))) = some (some [], none) ∧
      ((scanned (some []) (some [])).portal?.map (fun v => (v.front.pass, v.rear.pass))) = some (some [], some []) :=
  ⟨⟨rfl, rfl, _, rfl, rfl⟩, rfl, ⟨rfl, rfl, _, rfl, rfl⟩, rfl, rfl, rfl⟩

theorem witness_scanVacatedEndsThePass :
    (atEdge .scan false lane5).edge .scan false ∧ lane5.survey.pass = none ∧
      (atEdge .scan false (sweeping (pass0 1 400 false))).edge .scan false ∧
      (sweeping (pass0 1 400 false)).survey.pass = some (pass0 1 400 false) :=
  ⟨⟨rfl, rfl, _, rfl, rfl⟩, rfl, ⟨rfl, rfl, _, rfl, rfl⟩, rfl⟩

/-- The lane with its barrier in a state, and its two timers running. -/
def withBarrier (b : Barrier) (s : State) : State :=
  { s with yard := { s.yard with barrier := b, raiseVisit := some 1, upCheck := .running 4000, settle := .running 4000 } }

theorem witness_barrierSenseActsByState :
    (atEdge .barUp true (withBarrier .raising lane5)).edge .barUp true ∧
      (withBarrier .raising lane5).yard.barrier = .raising ∧ (withBarrier .raising lane5).yard.raiseVisit = some 1 ∧
      (atEdge .barUp true lane5).edge .barUp true ∧ lane5.yard.barrier = .lowered ∧
      (atEdge .barUp false (withBarrier .raised lane5)).edge .barUp false ∧
      (withBarrier .raised lane5).yard.barrier = .raised ∧
      (atEdge .barUp false (withBarrier .settling lane5)).edge .barUp false ∧
      (∀ v ∈ lane5.visits.laneQueue.head?, v.state ≠ .exiting ∨ v.settled = false) :=
  ⟨⟨rfl, rfl, _, rfl, rfl⟩, rfl, rfl, ⟨rfl, rfl, _, rfl, rfl⟩, rfl, ⟨rfl, rfl, _, rfl, rfl⟩, rfl,
   ⟨rfl, rfl, _, rfl, rfl⟩, by decide⟩

theorem witness_tenthsCountOnlyWhileTheClockRuns :
    lane5.clock.valid = true ∧ lane5.clock.paused = false ∧ 17998 + 1 < windowTenths lane5.general.windowMinutes ∧
      unfixed.clock.valid = false ∧ windowTenths lane5.general.windowMinutes ≤ 17999 + 1 := by decide

/-- The lane with visit 1 waiting for a loan at the last tenth of a window. -/
def waitingRoll : State :=
  { withVisits [visit 1 .awaitLoan] lastTenth with capacity := { lane5.capacity with waitList := [1] } }

theorem witness_windowRollStartsAFreshWindow :
    lastTenth.clock.valid = true ∧ lastTenth.clock.paused = false ∧
      windowTenths lastTenth.general.windowMinutes ≤ lastTenth.clock.tenths + 1 ∧ lastTenth.capacity.waitList = [] ∧
      waitingRoll.capacity.waitList ≠ [] := by decide

/-- The lane with a TIME frame of these bytes. -/
def timed (payload : List Byte) (s : State) : State := withRx (office .time payload) s

theorem witness_timeFrameSetsOrPausesTheClock :
    takeFirst .time (timed [50, 0, 101, 3] lane5).bus.rx = some (office .time [50, 0, 101, 3], []) ∧
      timeForm [50, 0, 101, 3] = some (⟨50, 101⟩, 3) ∧ timeForm [50, 0x46, 0x50, 4] = some (⟨50, 18000⟩, 4) ∧
      timeForm [50, 0x46, 0x4F, 3] = some (⟨50, 17999⟩, 3) ∧ windowTenths lane5.general.windowMinutes = 18000 ∧
      unfixed.start.config = none ∧
      ({ lane5 with clock := .initial } : State).clock.valid = false ∧ lane5.capacity.waitList = [] ∧
      winDist lane5.clock.window 49 < 0 ∧ 0 < winDist lane5.clock.window 51 ∧
      winDist lane5.clock.window 50 = 0 ∧ lane5.clock.tenths ≤ 100 ∧ 99 < lane5.clock.tenths ∧
      (∀ v ∈ lane5.visits.laneQueue, v.isClerkHold = false) := by decide

theorem witness_openFrameByLaneMode :
    takeFirst .openLane (withRx (office .openLane []) lane5).bus.rx = some (office .openLane [], []) ∧
      takeFirst .openLane (withRx (office .openLane []) (inMode .starting lane5)).bus.rx = some (office .openLane [], []) ∧
      (inMode .starting lane5).visits.mode = .starting ∧ (inMode .draining lane5).visits.mode = .draining := by decide

theorem witness_closeFrameByLaneMode :
    takeFirst .closeLane (withRx (office .closeLane []) lane5).bus.rx = some (office .closeLane [], []) ∧
      lane5.visits.mode = .laneOpen ∧ lane5.visits.laneQueue = [] ∧ (oneVisit .approach).visits.laneQueue ≠ [] ∧
      (inMode .laneClosed lane5).visits.mode = .laneClosed := by decide

/-- A clerk hold of visit 1 since a tenth of window 50, and a lane whose clock stands at tenth 4000. -/
def heldVisit (tenths : Nat) : Visit :=
  { visit 1 .hold with placeReserved := true, active := [.duplicate], verdict := .hold, holdStart := some ⟨50, tenths⟩ }
def heldLane (tenths : Nat) : State := withReserved [1] (withVisits [heldVisit tenths] { lane5 with clock := ⟨true, false, 50, 4000, 0, 1⟩ })
def parkedFour : State := withParked [visit 5 .parked, visit 6 .parked, visit 7 .parked, visit 8 .parked] (heldLane 1000)

theorem witness_holdTimeoutDecidesAClerkHold :
    (∀ v, lane5.visit? 1 = some v → v.isClerkHold = false ∨ v.timeoutRun = true) ∧
      (heldLane 1000).visit? 1 = some (heldVisit 1000) ∧ (heldVisit 1000).isClerkHold = true ∧
      (heldVisit 1000).timeoutRun = false ∧ (heldVisit 1000).holdStart = some ⟨50, 1000⟩ ∧
      gateElapsed (heldLane 1001).general.windowMinutes ⟨50, 1001⟩ ⟨50, 4000⟩ < (heldLane 1001).general.holdMinutes * 600 ∧
      (heldLane 1000).general.holdMinutes * 600 ≤ gateElapsed (heldLane 1000).general.windowMinutes ⟨50, 1000⟩ ⟨50, 4000⟩ ∧
      (heldLane 1000).bus.degraded = false ∧ (heldLane 1000).parkedInUse < 4 ∧ 4 ≤ parkedFour.parkedInUse ∧
      ({ heldLane 1000 with bus := { lane5.bus with degraded := true } } : State).bus.degraded = true :=
  ⟨fun _ h => absurd ((show lane5.visit? 1 = none from rfl).symm.trans h) (Option.some_ne_none _).symm, rfl, rfl, rfl, rfl,
   by decide, by decide, rfl, by decide, by decide, rfl⟩

/-- A lane with visit 1 parked and its place RESERVED, and a RELEASE or REFUSE naming lane and visit. -/
def parkedLane : State := withReserved [1] (withParked [visit 1 .parked] lane5)
def clerk (k : FrameKind) (lane n : Byte) : RxFrame := office k [lane, 0, n, 0]

theorem witness_clerkDecisions :
    takeFirst .release (withRx (clerk .release 5 1) (heldLane 0)).bus.rx = some (clerk .release 5 1, []) ∧
      takeFirst .refuse (withRx (clerk .refuse 5 1) (heldLane 0)).bus.rx = some (clerk .refuse 5 1, []) ∧
      clerkForm (clerk .release 5 1).payload = some (5, 1) ∧ (5 : Byte).toNat = lane5.laneId.toNat ∧
      (6 : Byte).toNat ≠ lane5.laneId.toNat ∧ lane5.visit? 1 = none ∧
      (oneVisit .exiting).visit? 1 = some (visit 1 .exiting) ∧ (visit 1 .exiting).isClerkHold = false ∧
      (heldLane 0).visit? 1 = some (heldVisit 0) ∧ (heldVisit 0).isClerkHold = true ∧
      parkedLane.visit? 1 = some (visit 1 .parked) ∧ 1 ∈ parkedLane.outcome.reserved ∧
      parkedLane.visits.laneQueue.any (fun w => w.number == 1) = false := by decide

/-- The lane with these direction messages queued and held. -/
def withQueue (q h : List Message) : State := { lane5 with yard := { lane5.yard with queue := q, held := h } }

/-- Visit 1 parked, and visit 2 in the lane with a deferred timeout. -/
def deferredVisit : Visit := { visit 2 .hold with placeReserved := true, active := [.duplicate], verdict := .hold, timeoutRun := true }
def deferring : State := withVisits [deferredVisit] parkedLane

/-- The held visit of the lane, EARLY, with the units of its window. -/
def earlyHeld (used : Nat) : State :=
  { withVisits [{ heldVisit 0 with arrival := .early }] (heldLane 0) with
    capacity := { lane5.capacity with quota := some ⟨50, 2, 0, 0, used⟩ } }

theorem witness_clerk_place_and_unit :
    deferring.oldest? (fun v => v.isClerkHold && v.timeoutRun) = some deferredVisit ∧
      deferring.visit? 2 = some deferredVisit ∧ deferring.parkedInUse ≤ 4 ∧ deferring.visit? 1 = some (visit 1 .parked) ∧
      1 ∈ deferring.outcome.reserved ∧ deferring.visits.laneQueue.any (fun w => w.number == 1) = false ∧
      parkedLane.oldest? (fun v => v.isClerkHold && v.timeoutRun) = none ∧
      (earlyHeld 0).visit? 1 = some { heldVisit 0 with arrival := .early } ∧
      ({ heldVisit 0 with arrival := .early } : Visit).isClerkHold = true ∧
      ({ heldVisit 0 with arrival := .early } : Visit).needsFlex = true ∧ (heldVisit 0).needsFlex = false ∧
      (earlyHeld 0).spare = 2 ∧ (earlyHeld 2).spare = 0 ∧ (heldVisit 0).needsInspection = false ∧
      ({ heldVisit 0 with front := { ContainerSlot.fresh with band := some .major } } : Visit).needsInspection = true := by decide

/-- What State.messagePlaced tells apart: nothing of the visit waits, its message is at the head, waits behind it, or is held. -/
theorem witness_message_places :
    lane5.yard.queue.length < 4 ∧ lane5.yard.held = [] ∧
      (withQueue [⟨.wait, some 1, []⟩] []).yard.queue = ⟨.wait, some 1, []⟩ :: [] ∧
      (withQueue [⟨.wait, some 2, []⟩, ⟨.wait, some 1, []⟩] []).yard.queue
        = [⟨.wait, some 2, []⟩] ++ ⟨.wait, some 1, []⟩ :: [] ∧
      (withQueue [⟨.wait, some 2, []⟩] [⟨.wait, some 1, []⟩]).yard.held = [] ++ ⟨.wait, some 1, []⟩ :: [] ∧
      4 ≤ (withQueue (List.replicate 4 ⟨.wait, some 2, []⟩) []).yard.queue.length := by decide

/-! #### Reports and the display -/

theorem witness_reportAtThePortalAttaches :
    carriesReport (.plateReport true plate0 200) .plateReader true (.plate plate0 100) ∧
      carriesReport (.sealReport false 0 0 0 plate0) .sealReader false (.sealRead .front ⟨plate0, .bolt, none⟩) ∧
      lane5.alive = true ∧ lane5.newOn .plateReader true ∧
      ¬ ({ lane5 with reader := { lane5.reader with plateCh := ⟨false, true, none, .stopped⟩ } } : State).newOn .plateReader true ∧
      atPortal.portal? = some readVisit ∧ (readVisit.attach (.plate plate0 100)).isSome = true ∧
      ({ readVisit with front := { ContainerSlot.fresh with
          seals := [⟨[0x31], .bolt, none⟩, ⟨[0x32], .bolt, none⟩, ⟨[0x33], .bolt, none⟩] } } : Visit).attach
        (.sealRead .front ⟨plate0, .bolt, none⟩) = none :=
  ⟨⟨_, _, rfl, by decide⟩, ⟨_, _, _, _, rfl, by decide⟩, rfl, .inl rfl, by unfold State.newOn; decide, rfl, by decide, by decide⟩

/-- A refused fourth seal, and reports that are taken: a seal read again, a code for an empty slot and one for a VALID slot. -/
def sealedVisit : Visit := { readVisit with front := { ContainerSlot.fresh with
  seals := [⟨[0x31], .bolt, none⟩, ⟨[0x32], .bolt, none⟩, ⟨[0x33], .electronic, some .intact⟩] } }

theorem witness_reports_written :
    sealedVisit.refusesReport (.sealRead .front ⟨plate0, .bolt, none⟩) ∧
      ¬ sealedVisit.refusesReport (.sealRead .front ⟨[0x33], .electronic, some .opened⟩) ∧
      ¬ sealedVisit.refusesReport (.sealRead .rear ⟨plate0, .bolt, none⟩) ∧
      ¬ sealedVisit.refusesReport (.code .rear plate0 (some 1) true) ∧ sealedVisit.rear.status = .none ∧
      ¬ readVisit.refusesReport (.plate plate0 60) ∧ (withVisits [sealedVisit] lane5).portal? = some sealedVisit := by
  simp only [← Visit.attach_eq_none_iff]
  decide

theorem witness_reportWithoutPortalIsHeldOrOrphan :
    carriesReport (.codeReport false 1 [0x42, 0x44, 0x4C, 0x55, 0x31, 0x32, 0x33, 0x34, 0x35, 0x36, 0x32] 3) .codeReader false
        (.code .rear [0x42, 0x44, 0x4C, 0x55, 0x31, 0x32, 0x33, 0x34, 0x35, 0x36, 0x32] (some 3) true) ∧
      State.reset.alive = false ∧ lane5.alive = true ∧ lane5.newOn .codeReader false ∧ lane5.portal? = none ∧
      (oneVisit .approach).visits.laneQueue.any (fun v => v.state == .approach) = true ∧
      ((oneVisit .approach).channel .codeReader).buffer = none ∧
      lane5.visits.laneQueue.any (fun v => v.state == .approach) = false :=
  ⟨⟨_, _, _, rfl, by decide +kernel⟩, rfl, rfl, .inl rfl, rfl, rfl, rfl, rfl⟩

/-- The lane with a plate held on channel 1. -/
def holding : State :=
  { oneVisit .approach with reader := { lane5.reader with plateCh := ⟨true, true, some (.plate plate0 100), .running 3000⟩ } }

theorem witness_helloMalformedAndExpiry :
    lane5.alive = true ∧ parseReaderMessage .plateReader [2, 1] = none ∧ State.reset.alive = false ∧
      (holding.channel .plateReader).buffer = some (.plate plate0 100) ∧ (lane5.channel .plateReader).buffer = none := by decide

/-- The lane with one message being delivered, at a busy count. -/
def delivering (busy : Nat) : State :=
  { lane5 with yard := { lane5.yard with queue := [⟨.wait, some 1, []⟩] }
               reader := { lane5.reader with display := ⟨.sent, false, busy, .running 200, .stopped⟩ } }
def retrying : State :=
  { delivering 1 with reader := { lane5.reader with display := ⟨.retryWait, false, 1, .stopped, .running 200⟩ } }

theorem witness_displayAcceptEndsTheDelivery :
    lane5.reader.display.delivery ≠ .sent ∧ true ≠ (delivering 0).reader.display.sendToggle ∧ (delivering 0).displaySound ∧
      (delivering 0).reader.display.delivery = .sent ∧ false = (delivering 0).reader.display.sendToggle ∧
      (delivering 0).yard.queue = ⟨.wait, some 1, []⟩ :: [] :=
  ⟨by decide, by decide, ⟨by decide, by decide, by decide, rfl, rfl⟩, rfl, rfl, rfl⟩

/-- WAIT for visit 1 being delivered, with TURN_OUT for visit 2 behind it and TURN_OUT for visit 1 held. -/
def deliveringThree (busy : Nat) : State :=
  { delivering busy with
    yard := { lane5.yard with queue := [⟨.wait, some 1, []⟩, ⟨.turnOut, some 2, []⟩], held := [⟨.turnOut, some 1, []⟩] } }

theorem witness_display_next_head :
    (deliveringThree 0).displaySound ∧ (deliveringThree 4).displaySound ∧ 4 ≤ (deliveringThree 4).reader.display.busyCount ∧
      (deliveringThree 0).reader.display.delivery = .sent ∧
      (deliveringThree 0).yard.queue = ⟨.wait, some 1, []⟩ :: [⟨.turnOut, some 2, []⟩] ∧
      (deliveringThree 0).yard.held.find? (fun x => x.mayJoin [⟨.turnOut, some 2, []⟩]) = some ⟨.turnOut, some 1, []⟩ :=
  ⟨⟨by decide, by decide, by decide, rfl, rfl⟩, ⟨by decide, by decide, by decide, rfl, rfl⟩, by decide, rfl, rfl, by decide⟩

theorem witness_displayBusyRetriesAndGivesUp :
    (delivering 3).reader.display.delivery = .sent ∧ (delivering 3).reader.display.busyCount + 1 < 5 ∧
      (delivering 3).reader.display.answerWait.isRunning = true ∧ retrying.yard.queue = ⟨.wait, some 1, []⟩ :: [] ∧
      retrying.reader.display.retryWait.isRunning = true ∧ lane5.reader.display.retryWait.isRunning = false ∧
      lane5.reader.display.answerWait.isRunning = false ∧ (delivering 4).displaySound ∧
      4 ≤ (delivering 4).reader.display.busyCount :=
  ⟨rfl, by decide, rfl, rfl, rfl, rfl, rfl, ⟨by decide, by decide, by decide, rfl, rfl⟩, by decide⟩

theorem witness_displayHelloAndUnusableBytes :
    lane5.reader.display.delivery = .idle ∧ retrying.reader.display.delivery ≠ .idle ∧
      retrying.yard.queue = ⟨.wait, some 1, []⟩ :: [] ∧ ((0x80 : Byte) ≠ 0x0F ∧ (0x80 : Byte).toNat % 128 = 0) ∧
      3 < (0x04 : Byte).toNat % 128 := by decide

/-! #### The yard, bookings and loans -/

theorem witness_blockNoteCountsAtThePeers :
    takeFirst .blockNote (withRx (peer .blockNote [0x41, 0x31, 50, 0]) lane5).bus.rx
        = some (peer .blockNote [0x41, 0x31, 50, 0], []) ∧
      noteForm [0x41, 0x31, 50, 0] = some ([0x41, 0x31], 50) ∧ lane5.yard.window = some 50 ∧
      State.reset.yard.window ≠ some 50 := by decide

/-- A visit whose message has settled, EXITING behind a settling barrier. -/
def settling : State := withBarrier .settling (withVisits [{ visit 1 .exiting with settled := true }] lane5)

theorem witness_upCheckAndSettleTimeRunOut :
    (withBarrier .raising lane5).yard.upCheck.isRunning = true ∧ (withBarrier .raising lane5).yard.barrier = .raising ∧
      lane5.yard.upCheck.isRunning = false ∧ lane5.yard.settle.isRunning = false ∧
      (withBarrier .settling lane5).yard.settle.isRunning = true ∧
      (∀ v ∈ (withBarrier .settling lane5).visits.laneQueue.head?, v.state ≠ .exiting ∨ v.settled = false) ∧
      settling.yard.settle.isRunning = true ∧ settling.yard.barrier = .settling ∧
      settling.visits.laneQueue = { visit 1 .exiting with settled := true } :: [] ∧ settling.level .barUp = false ∧
      (atEdge .barUp false lane5).level .barUp = true :=
  ⟨rfl, rfl, rfl, rfl, rfl, by decide, rfl, rfl, rfl, rfl, rfl⟩

/-- BOOKING R1, plate AB12, a window, one PICK_EMPTY at A1. -/
def bookingBytes (w : Byte) : List Byte := [0, 2, 0x52, 0x31, 4, 0x41, 0x42, 0x31, 0x32, w, 1, 0xC1, 0x41, 0x31]

theorem witness_newBookingTakesTheLowestPlace :
    takeFirst .booking (withRx (office .booking (bookingBytes 58)) lane5).bus.rx
        = some (office .booking (bookingBytes 58), []) ∧
      bookingForm (bookingBytes 58)
        = some ⟨ref0, plate0, 58, [⟨.pickEmpty, none, 0, [], [[0x41, 0x31]]⟩], false⟩ ∧
      lane5.booking.window = some 50 ∧ winDist 50 58 ≤ 8 ∧ bookingExpired lane5.general 50 58 = false ∧
      lane5.booking? ref0 = none ∧ lane5.booking.table = [] ++ none :: List.replicate 63 none := by decide +kernel

/-- The lane with booking R1 in a state, and visit 1 in a state. -/
def booked (b : BookingState) (st : SlotState) : State :=
  withBookings [booking0 b] (withVisits [{ visit 1 st with ref := some ref0, claimHeld := true }] lane5)

theorem witness_bookingCancelByRecordState :
    takeFirst .bookingCancel (withRx (office .bookingCancel [2, 0x52, 0x31, 0]) lane5).bus.rx
        = some (office .bookingCancel [2, 0x52, 0x31, 0], []) ∧
      cancelForm [2, 0x52, 0x31, 0] = some ref0 ∧ cancelForm [0, 0] = none ∧ lane5.booking? ref0 = none ∧
      (booked .used .exiting).booking? ref0 = some (booking0 .used) ∧
      (booked .available .exiting).booking? ref0 = some (booking0 .available) ∧
      (booked (.here ⟨50, 10⟩ 1) .toStop).booking? ref0 = some (booking0 (.here ⟨50, 10⟩ 1)) ∧
      (booked (.here ⟨50, 10⟩ 1) .toStop).visit? 1
        = some { visit 1 .toStop with ref := some ref0, claimHeld := true } := by decide +kernel

theorem witness_peerClaimsByRecordState :
    takeFirst .claim (withRx (peer .claim [2, 0x52, 0x31, 50, 0, 10]) lane5).bus.rx
        = some (peer .claim [2, 0x52, 0x31, 50, 0, 10], []) ∧
      claimForm [2, 0x52, 0x31, 50, 0, 10] = some (ref0, ⟨50, 10⟩) ∧ claimForm [0, 50, 0, 10] = none ∧
      (booked (.elsewhere 8 ⟨50, 10⟩) .exiting).booking? ref0 = some (booking0 (.elsewhere 8 ⟨50, 10⟩)) ∧
      claimEarlier ⟨50, 10⟩ 7 ⟨50, 10⟩ 8 = true ∧ claimEarlier ⟨50, 10⟩ 7 ⟨50, 10⟩ 5 = false ∧
      claimEarlier ⟨50, 9⟩ 7 ⟨50, 10⟩ 5 = true ∧
      takeFirst .claimEnd (withRx (peer .claimEnd [2, 0x52, 0x31, 1]) lane5).bus.rx
        = some (peer .claimEnd [2, 0x52, 0x31, 1], []) ∧
      claimEndForm [2, 0x52, 0x31, 1] = some (ref0, .used) ∧ claimEndForm [2, 0x52, 0x31, 3] = none := by decide +kernel

/-- The lane with an Offer to lane 7 for ask number 3. -/
def offer0 : Offer := ⟨7, 3, 50, .running 1000⟩
def offering : State := { lane5 with capacity := { lane5.capacity with quota := some ⟨50, 2, 0, 1, 0⟩, offers := [offer0] } }

theorem witness_lenderOffersConfirmsAndReturns :
    takeFirst .loanAsk (withRx (peer .loanAsk [50, 3]) lane5).bus.rx = some (peer .loanAsk [50, 3], []) ∧
      takeFirst .loanTake (withRx (peer .loanTake [50, 3]) offering).bus.rx = some (peer .loanTake [50, 3], []) ∧
      takeFirst .loanDecline (withRx (peer .loanDecline [50, 3]) offering).bus.rx = some (peer .loanDecline [50, 3], []) ∧
      loanForm [50, 3] = some (50, 3) ∧ lane5.capacity.quota = some ⟨50, 2, 0, 0, 0⟩ ∧ lane5.general.reserve < 2 + 0 - 0 - 0 ∧
      lane5.capacity.offers.length < 4 ∧ (51 : Window) ≠ 50 ∧ State.reset.capacity.quota = none ∧
      offering.capacity.offers = [] ++ offer0 :: [] ∧ offer0.isFor 7 50 3 = true ∧ offer0.isFor 7 50 4 = false ∧
      offering.capacity.waitList = [] ∧ lane5.capacity.offers = [] := by decide

/-- The lane with visit 1 waiting for a loan on an Ask. -/
def asking (st : AskState) : State := withAsk st (withVisits [visit 1 .awaitLoan] lane5)

theorem witness_askerTakesConfirmsAndFails :
    takeFirst .loanOffer (withRx (peer .loanOffer [50, 3]) (asking .asking)).bus.rx = some (peer .loanOffer [50, 3], []) ∧
      takeFirst .loanConfirm (withRx (peer .loanConfirm [50, 3]) lane5).bus.rx = some (peer .loanConfirm [50, 3], []) ∧
      takeFirst .loanVoid (withRx (peer .loanVoid [50, 3]) lane5).bus.rx = some (peer .loanVoid [50, 3], []) ∧
      (asking .asking).capacity.ask = some ⟨3, 50, .asking, .running 1500⟩ ∧
      (∀ a, lane5.capacity.ask = some a → a.state ≠ .asking ∨ a.window ≠ 50 ∨ a.number ≠ 3) ∧
      (asking (.taking 7)).capacity.quota = some ⟨50, 2, 0, 0, 0⟩ ∧
      (asking (.taking 7)).capacity.ask = some ⟨3, 50, .taking 7, .running 1500⟩ ∧
      (asking (.taking 7)).capacity.waitList = [1] ∧ (asking (.taking 7)).visit? 1 = some (visit 1 .awaitLoan) ∧
      (⟨7, 50, 3⟩ : Take) ∈ (asking (.taking 8)).capacity.takes ∧ (⟨7, 50, 3⟩ : Take) ∉ lane5.capacity.takes ∧
      lane5.capacity.ask = none := by
  refine ⟨by decide, by decide, by decide, rfl, nofun, rfl, rfl, rfl, rfl, by decide, by decide, rfl⟩

/-! #### Survey, alerts and the bus -/

theorem witness_converterSampleBuildsReadings :
    lane5.survey.pass = none ∧ (sweeping (pass0 0 0 false)).survey.pass = some (pass0 0 0 false) ∧
      (pass0 0 0 false).zone = some 0 ∧ (pass0 0 0 false).taken + 1 < lane5.general.samplesPerReading ∧
      lane5.general.samplesPerReading ≤ (pass0 1 400 false).taken + 1 ∧ lane5.zones[0]? = some ⟨true, 100, 10, 1⟩ ∧
      (pass0 1 400 false).data[0]? = some ⟨none, none, 0, 0⟩ ∧
      true = ((pass0 1 400 false).spoilt || !(decide (8 ≤ (7 : BitVec 12).toNat) && decide ((7 : BitVec 12).toNat ≤ 4087))) ∧
      false = ((pass0 1 400 false).spoilt || !(decide (8 ≤ (4087 : BitVec 12).toNat) && decide ((4087 : BitVec 12).toNat ≤ 4087))) := by
  decide

theorem witness_alertClearClearsEndedFlags :
    takeFirst .alertClear (withRx (office .alertClear [1, 0x10]) busSet).bus.rx = some (office .alertClear [1, 0x10], []) ∧
      flagSetForm [1, 0x10] = some 0x110 ∧ (0x110 : BitVec 16).getLsbD AlertFlag.bus.bit = true ∧
      (busSet.flag .bus).isSet = true ∧ (busSet.flag .bus).standing = false ∧
      ∀ a : AlertFlag, (0x110 : BitVec 16).getLsbD a.bit = false ∨ (lane5.flag a).isSet = false :=
  ⟨rfl, rfl, rfl, rfl, rfl, fun a => by cases a <;> decide⟩

theorem witness_countersFetchEmptiesTheCounters :
    takeFirst .countersFetch (withRx (office .countersFetch []) lane5).bus.rx = some (office .countersFetch [], []) ∧
      lane5.bus.txQueue.length < 8 ∧ 8 ≤ fullTx.bus.txQueue.length ∧ lane5.outcome.counters.crcErrors < 32 ∧
      32 ≤ (withCrcErrors 32 fullTx).outcome.counters.crcErrors := by decide

theorem witness_silencesRunOut :
    lane5.bus.silence.isRunning = true ∧ State.reset.bus.silence.isRunning = false ∧
      ({ lane5 with outcome := { lane5.outcome with clashTimer := .running 60000 } } : State).outcome.clashTimer.isRunning = true ∧
      lane5.outcome.clashTimer.isRunning = false := by decide

/-- The bytes of a BLOCK_NOTE of lane 7, for A1 in window 50. -/
def noteBytes (lane : LaneId) : List Byte := TxFrame.bytes lane (.blockNote [0x41, 0x31] 50)

/-- The frame in those bytes. -/
def noteRaw (lane : LaneId) : RawFrame := ⟨1, false, lane, 0x12, 0, 2, [0x41, 0x31, 50, 0]⟩

/-- An OPEN frame of the office station for lane 5. -/
def openRaw : RawFrame := ⟨1, false, 31, 0x0E, 5, 0, []⟩

theorem witness_receivedFrameIsHeardAndBuffered :
    State.reset.alive = false ∧ lane5.alive = true ∧ parseFrame true (noteBytes 7) = none ∧
      parseFrame false (noteBytes 7) = some (noteRaw 7) ∧ parseFrame false (noteBytes 5) = some (noteRaw 5) ∧
      (noteRaw 5).source = lane5.laneId ∧ (noteRaw 7).source ≠ lane5.laneId ∧ (noteRaw 7).source ≠ 31 ∧ (noteRaw 7).dest = 0 ∧
      lane5.bus.rx.length < 2 ∧ checkRaw (noteRaw 7) = some ⟨7, 0, .blockNote, [0x41, 0x31, 50, 0], false⟩ ∧
      checkRaw { noteRaw 7 with cls := 0 } = none ∧ FrameKind.blockNote.owner ≠ none ∧ FrameKind.start.owner = none ∧
      parseFrame false ([0x5F, 0x0E, 5, 0] ++ bytes16 (crc16 [0x5F, 0x0E, 5, 0]).toNat) = some openRaw ∧
      checkRaw openRaw = some ⟨31, 5, .openLane, [], false⟩ := by decide +kernel

/-- A STATUS in transmission. -/
def sendingStatus : State := withTx [{ status2 with sending := true }] lane5

theorem witness_sendingFollowsTheQueue :
    statusTx.bus.txQueue = status2 :: [] ∧ statusTx.alive = true ∧ (∀ x ∈ statusTx.bus.txQueue, x.sending = false) ∧
      (∃ x ∈ sendingStatus.bus.txQueue, x.sending = true) ∧
      sendingStatus.bus.txQueue = [] ++ { status2 with sending := true } :: [] ∧ sendingStatus.busSound ∧
      status2.frame.kind = .status ∧ note1.frame.kind ≠ .outcome ∧ note1.frame.kind ≠ .status ∧
      sendingStatus.outcome.filled = [] ∧ sendingStatus.outcome.statusDue = false ∧
      (parkedLane.oldest? Visit.isPlaceHold) = none := by
  refine ⟨rfl, rfl, by decide, by decide, rfl, by unfold State.busSound; decide, rfl, by decide, by decide, rfl, rfl, rfl⟩

/-! #### The further clauses of the statements about the lane -/

/-- The overrun lane: visit 1 still in the portal, visit 2 in APPROACH, LOOP_P about to be occupied; and the lane after R24 step 1. -/
def overrun : State := atEdge .loopP true (withVisits [visit 1 .atPortal, visit 2 .approach] lane5)
def overrunClosed (s : State) : State :=
  ((s.debouncedTo .loopP true).portalClose 1).updVisit 1 (fun w => { w.addReason .portalOverrun with state := .toStop })

/-- Four EXITING visits, in a mode, with a count of pending arrivals. -/
def exitingLane (m : LaneMode) (pending : Nat) : State :=
  { inMode m (withVisits [visit 1 .exiting, visit 2 .exiting, visit 3 .exiting, visit 4 .exiting] lane5) with
    visits := ⟨m, [visit 1 .exiting, visit 2 .exiting, visit 3 .exiting, visit 4 .exiting], [], pending, 9⟩ }

theorem witness_loopPOccupied_held_and_overrun :
    (atEdge .loopP true holding).edge .loopP true ∧ holding.portal? = none ∧
      holding.oldest? (fun v => v.state == .approach) = some (visit 1 .approach) ∧
      overrun.edge .loopP true ∧ overrun.portal? = some (visit 1 .atPortal) ∧ (∀ ch, (overrun.channel ch).buffer = none) ∧
      (overrunClosed overrun).oldest? (fun v => v.state == .approach) = some (visit 2 .approach) ∧
      (atEdge .loopP true (oneVisit .atPortal)).edge .loopP true ∧
      (overrunClosed (atEdge .loopP true (oneVisit .atPortal))).oldest? (fun v => v.state == .approach) = none :=
  ⟨⟨rfl, rfl, _, rfl, rfl⟩, rfl, rfl, ⟨rfl, rfl, _, rfl, rfl⟩, rfl, fun ch => by cases ch <;> rfl, by decide +kernel,
   ⟨rfl, rfl, _, rfl, rfl⟩, by decide +kernel⟩

theorem witness_loopPOccupied_lost :
    (atEdge .loopP true (exitingLane .laneOpen 3)).edge .loopP true ∧ (exitingLane .laneOpen 3).portal? = none ∧
      (exitingLane .laneOpen 3).oldest? (fun v => v.state == .approach) = none ∧
      4 ≤ (exitingLane .laneOpen 3).visits.laneQueue.length ∧
      (atEdge .loopP true (exitingLane .draining 1)).edge .loopP true ∧ (exitingLane .draining 1).visits.mode = .draining ∧
      0 < (exitingLane .draining 1).visits.pendingArrivals ∧ (exitingLane .draining 0).visits.pendingArrivals = 0 :=
  ⟨⟨rfl, rfl, _, rfl, rfl⟩, rfl, rfl, by decide, ⟨rfl, rfl, _, rfl, rfl⟩, rfl, by decide, rfl⟩

/-- Booking R1 of plate AB12 with the two codes of the worked case as drop moves, or the first alone. -/
def dropBooking (n : Nat) : Booking :=
  { booking0 .available with moves := [⟨.dropFull, some codeT, 0, [[0x48]], [[0x41, 0x31]]⟩,
                                       ⟨.dropEmpty, some codeC, 1, [], [[0x41, 0x31]]⟩].take n }
def dropLane (n : Nat) : State := withBookings [dropBooking n] (withVisits [readVisit] lane5)

theorem witness_loopPVacated_containers_and_pass :
    (atEdge .loopP false (dropLane 2)).edge .loopP false ∧ (dropLane 2).portal? = some readVisit ∧
      selectedByTable general0.plateThreshold readVisit 50 (dropLane 1).booking.table (dropBooking 1) ∧
      selectedByTable general0.plateThreshold readVisit 50 (dropLane 2).booking.table (dropBooking 2) ∧
      mergedByTable readVisit.front readVisit.rear ContainerSlot.fresh ∧
      (∀ m : Move, peaksByTable (dropLane 2).zones (dropLane 2).profiles[m.profile]? none
        (zonePeaks (dropLane 2).zones (dropLane 2).profiles[m.profile]? none)) ∧
      ((dropBooking 1).moves.filter Move.isDrop).length = 1 ∧ ((dropBooking 2).moves.filter Move.isDrop)[1]? ≠ none ∧
      (atEdge .loopP false (sweeping (pass0 1 400 false))).edge .loopP false ∧
      (sweeping (pass0 1 400 false)).portal? = some (visit 1 .atPortal) ∧
      (sweeping (pass0 1 400 false)).visit? 1 = some (visit 1 .atPortal) ∧
      (∃ p ∈ (sweeping (pass0 1 400 false)).survey.pass, p.visit = 1) ∧ (visit 1 .atPortal).moves = [] ∧
      (∀ b, some b ∈ lane5.booking.table → b.state = .available → ¬ b.isMatchFor general0.plateThreshold (visit 1 .atPortal)) :=
  ⟨⟨rfl, rfl, _, rfl, rfl⟩, rfl, (selectBooking_eq_some_iff ..).1 (by decide +kernel),
   (selectBooking_eq_some_iff ..).1 (by decide +kernel), ⟨by decide, by decide, nofun, nofun⟩,
   fun _ => (peaksByTable_iff ..).2 rfl, by decide, by decide, ⟨rfl, rfl, _, rfl, rfl⟩, rfl, rfl, ⟨_, rfl, rfl⟩, rfl,
   (selectBooking_eq_none_iff _ _ 50 _).1 (by decide +kernel)⟩

/-- The worked case of selection, 04, section 4.3, by the table of R71 and R72: the record with the code, before two by plate. -/
theorem test_selection_by_table :
    selectedByTable 70 { visit 1 .atPortal with
        plate := some [0x4B], confidence := 85
        front := { ContainerSlot.fresh with code := some codeT, status := .valid } } 121 (selectionTable .available)
      ⟨[3], [0x52], 120, [⟨.dropFull, some codeT, 0, [], []⟩], .available⟩ :=
  (selectBooking_eq_some_iff ..).1 (by decide +kernel)

/-- A lane whose EARLY visit finds a spare of 0, with units borrowed, in degraded mode or not. -/
def spent (borrowed : Nat) (degraded : Bool) (ask : Option Ask) : State :=
  { stopLane [] .early with capacity := { lane5.capacity with quota := some ⟨50, 2, borrowed, 2, borrowed⟩, ask := ask }
                            bus := { lane5.bus with degraded := degraded } }

theorem witness_loopSOccupied_flex_and_portal :
    (atEdge .loopS true (spent 0 false none)).edge .loopS true ∧ (stopVisit [] .early).needsFlex = true ∧
      (spent 0 false none).capacity.quota = some ⟨50, 2, 0, 2, 0⟩ ∧ 2 + 0 ≤ 2 + 0 ∧
      (spent 0 false none).bus.degraded = false ∧ (spent 0 false none).capacity.ask = none ∧
      (spent 0 false none).outbox? .capacityUnit = none ∧
      (spent 0 false (some ⟨3, 50, .asking, .running 1500⟩)).capacity.ask ≠ none ∧
      (spent 0 true none).bus.degraded = true ∧ (spent 0 true none).capacity.peerTimer.isRunning = false ∧
      (spent 15 false none).capacity.quota = some ⟨50, 2, 15, 2, 15⟩ ∧ 2 + 15 ≤ 2 + 15 ∧
      (atEdge .loopS true atPortal).edge .loopS true ∧ atPortal.oldest? (fun v => v.state == .toStop) = none ∧
      atPortal.portal? = some readVisit ∧
      ((((atEdge .loopS true atPortal).debouncedTo .loopS true).portalClose 1).visit? 1).map (·.number) = some 1 ∧
      (atEdge .loopS true (withVisits [] lane5)).portal? = none :=
  ⟨⟨rfl, rfl, _, rfl, rfl⟩, rfl, rfl, by decide, rfl, rfl, rfl, nofun, rfl, rfl, rfl, by decide, ⟨rfl, rfl, _, rfl, rfl⟩, rfl,
   rfl, by decide +kernel, rfl⟩

/-- A refused visit that holds the claim on R1, an admitted one with a drop for A1 and a pick at A1, and one to be inspected. -/
def claimed (v : Visit) : Visit := { v with ref := some ref0, claimHeld := true }
def dropVisit (rs : List Reason) : Visit := { stopVisit rs .onTime with
  moves := [⟨.dropEmpty, some codeC, 0, [], [[0x41, 0x31]]⟩, ⟨.pickEmpty, none, 0, [], [[0x41, 0x31]]⟩] }

def majorVisit : Visit := { dropVisit [.damageMajor] with front := { ContainerSlot.fresh with band := some .major } }

theorem witness_loopSOccupied_verdicts :
    (claimed (stopVisit [.tooLate] .tooLate)).active.any Reason.isRefuse = true ∧
      (claimed (stopVisit [.tooLate] .tooLate)).claimHeld = true ∧ (stopLane [.tooLate] .tooLate).outbox? .bookingStore = none ∧
      (dropVisit []).active.any Reason.isRefuse = false ∧ (dropVisit []).active.any Reason.isClerkHold = false ∧
      (dropVisit []).needsFlex = false ∧ (dropVisit []).needsInspection = false ∧
      majorVisit.active.any Reason.isClerkHold = false ∧ majorVisit.needsInspection = true ∧
      lane5.yard.window = some 50 ∧ lane5.bus.txQueue.length + ((dropVisit []).moves.filter Move.isDrop).length ≤ 7 ∧
      (lane5.yard.held = [] ∧ lane5.yard.queue.length < 4 ∧ ∀ x ∈ lane5.yard.queue, x.visit ≠ some 1) ∧
      .recordFull ∉ (stopVisit [.duplicate] .none).active := by decide

/-- The routing of R134 to R136: a drop to the first STACK candidate below its cap, else to the OVERFLOW block. -/
theorem test_admission_routed :
    routeByTable ((dropVisit []).moves.filter Move.isDrop) blocks0
        = ([[0x41, 0x31]], [⟨[0x41, 0x31], .stack, 255, 1⟩] ++ blocks0.tail) ∧
      routeByTable ((dropVisit []).moves.filter Move.isDrop) [⟨[0x41, 0x31], .stack, 1, 1⟩, ⟨[0x4F, 0x56], .overflow, 255, 0⟩]
        = ([[0x4F, 0x56]], [⟨[0x41, 0x31], .stack, 1, 1⟩, ⟨[0x4F, 0x56], .overflow, 255, 0⟩]) := by decide

/-- LOOP_X about to be vacated behind the raise visit, with BAR_UP up or down, the barrier in a state. -/
def leaving (b : Barrier) (up : Bool) (v : Visit) : State :=
  let s := atEdge .loopX false (withBarrier b (withVisits [v] lane5))
  { s with line := { s.line with debounced := some (((LineSet.all false).put .loopX true).put .barUp up) } }

theorem witness_loopXVacated_claim_and_raise :
    (leaving .raised true (claimed (passingVisit .admitted))).edge .loopX false ∧
      (leaving .raised true (claimed (passingVisit .admitted))).oldest? (fun v => v.passing)
        = some (claimed (passingVisit .admitted)) ∧
      (leaving .raised true (claimed (passingVisit .admitted))).outbox? .bookingStore = none ∧
      (passingVisit .refuse).claimHeld = false ∧ (leaving .raised true (passingVisit .park)).yard.raiseVisit = some 1 ∧
      (leaving .raised true (passingVisit .park)).level .barUp = true ∧
      (leaving .raising false (passingVisit .park)).level .barUp = false ∧
      (leaving .raised true { passingVisit .park with number := 2 }).yard.raiseVisit ≠ some 2 ∧
      (leaving .heldOpen true (visit 1 .exiting)).oldest? (fun v => v.passing) = none ∧
      (leaving .heldOpen true (visit 1 .exiting)).yard.barrier = .heldOpen ∧
      (leaving .heldOpen true (visit 1 .exiting)).edge .loopX false ∧
      (inMode .starting (leaving .raised true (visit 1 .exiting))).visits.mode = .starting :=
  ⟨⟨rfl, rfl, _, rfl, rfl⟩, rfl, rfl, rfl, rfl, rfl, rfl, by decide, rfl, rfl, ⟨rfl, rfl, _, rfl, rfl⟩, rfl⟩

/-- The unseen lane with its visit the raise visit, LOOP_X occupied or not. -/
def unseenRaised (vd : Verdict) (occupied : Bool) : State :=
  let s := withBarrier .raised (unseenLane vd)
  { s with line := { s.line with debounced := some ((LineSet.all false).put .loopX occupied) } }

theorem witness_exitCheck_claim_and_raise :
    (unseenRaised .park true).yard.raiseVisit = some 1 ∧ (unseenRaised .park true).level .loopX = true ∧
      (unseenRaised .park false).level .loopX = false ∧ (unseenRaised .park true).visit? 1 = some (unseenVisit .park) ∧
      (claimed (unseenVisit .admitted)).verdict ≠ .park ∧ (claimed (unseenVisit .admitted)).claimHeld = true ∧
      (unseenVisit .refuse).claimHeld = false ∧ (unseenLane .refuse).outbox? .bookingStore = none ∧
      (unseenLane .refuse).yard.raiseVisit ≠ some 1 ∧ (withBarrier .raised (unseenLane .refuse)).yard.barrier ≠ .lowered := by
  decide

/-- An ended pass in which zone 1 was dark and zone 2 seen, or zone 1 seen; dark runs with zone 1 at a value. -/
def endedPass (z : ZoneData) : Pass :=
  { pass0 0 0 false with data := z :: ⟨some 300, some 300, 1, 0⟩ :: List.replicate 10 ⟨none, none, 0, 0⟩ }
def darkRuns0 (n : Nat) : List Nat := n :: List.replicate 11 0
def isDark (runs : List Nat) (i : Nat) : Prop := ∃ z, zones0[i]? = some z ∧ z.enabled = true ∧ runs[i]? = some 3

theorem witness_scanVacated_channel :
    (∀ runs i, isDark runs i ↔ ∃ z, lane5.zones[i]? = some z ∧ z.enabled = true ∧ runs[i]? = some 3) ∧
      darkRunsAfter zones0 (endedPass ⟨none, none, 0, 1⟩).data (darkRuns0 2) = darkRuns0 3 ∧ isDark (darkRuns0 3) 0 ∧
      ¬ isDark (darkRuns0 2) 0 ∧
      darkRunsAfter zones0 (endedPass ⟨some 300, some 300, 1, 0⟩).data (darkRuns0 3) = darkRuns0 0 ∧
      (∀ i, ¬ isDark (darkRuns0 0) i) := by
  have none_of : ∀ n, n ≠ 3 → ∀ i, ¬ isDark (darkRuns0 n) i := by
    rintro n hn i ⟨z, -, -, h⟩
    match i with
    | 0 => exact hn (by simpa [darkRuns0] using h)
    | j + 1 =>
      have h : (List.replicate 11 0)[j]? = some 3 := h
      simp only [List.getElem?_replicate] at h
      split at h <;> cases h
  exact ⟨fun _ _ => Iff.rfl, by decide +kernel, ⟨_, rfl, rfl, rfl⟩, none_of 2 (by decide) 0, by decide +kernel,
    none_of 0 (by decide)⟩

theorem witness_claims_end :
    (withVisits [claimed (heldVisit 1000)] (heldLane 1000)).visit? 1 = some (claimed (heldVisit 1000)) ∧
      (claimed (heldVisit 1000)).isClerkHold = true ∧ (claimed (heldVisit 1000)).claimHeld = true ∧
      (claimed (heldVisit 1000)).ref = some ref0 ∧ (heldVisit 1000).claimHeld = false ∧
      (heldLane 1000).outbox? .bookingStore = none ∧
      (withParked [claimed (visit 1 .parked)] lane5).visit? 1 = some (claimed (visit 1 .parked)) ∧
      (claimed (visit 1 .parked)).state = .parked ∧ (visit 1 .parked).claimHeld = false ∧
      (withVisits [visit 1 .hold] (delivering 4)).visit? 1 = some (visit 1 .hold) := by decide

/-- The full table of the worked case of R67: its farthest OPEN records stand at window 57, in places 12 and 40. -/
def fullTable : List (Option Booking) := (List.range 64).map (fun i =>
  some { booking0 .available with ref := [BitVec.ofNat 8 i], window := if i = 12 ∨ i = 40 then 57 else 51 })
def fullBookings (w : Byte) : State :=
  withRx (office .booking (bookingBytes w)) { lane5 with booking := ⟨fullTable, some 50⟩ }

/-- A new booking for window 52 displaces the record in place 12; one for window 58 is dropped (R67). -/
theorem test_booking_displacement :
    (∃ t, exec .bookingFrame (fullBookings 52) = .next t ∧ (t.booking.table[12]?.join.map (·.ref)) = some ref0 ∧
      t.outcome.counters.bookingsDropped = 1) ∧
    ∃ t, exec .bookingFrame (fullBookings 58) = .next t ∧ t.booking.table = fullTable ∧
      t.outcome.counters.bookingsDropped = 1 := by
  refine ⟨⟨_, rfl, ?_, ?_⟩, _, rfl, ?_, ?_⟩ <;> decide +kernel

theorem witness_booking_ignored_and_known :
    bookingForm [] = none ∧ State.reset.booking.window = none ∧ 8 < winDist 50 59 ∧
      bookingExpired lane5.general 50 47 = true ∧ (booked .cancelled .exiting).booking? ref0 = some (booking0 .cancelled) ∧
      (booked (.elsewhere 8 ⟨50, 10⟩) .exiting).booking? ref0 = some (booking0 (.elsewhere 8 ⟨50, 10⟩)) ∧
      (booked (.here ⟨50, 10⟩ 1) .toStop).booking? ref0 = some (booking0 (.here ⟨50, 10⟩ 1)) ∧
      (bookingForm [1, 2, 0x52, 0x31, 4, 0x41, 0x42, 0x31, 0x32, 50, 1, 0xC1, 0x41, 0x31]).map (·.reissue) = some true := by
  decide +kernel

theorem witness_booking_full_table :
    (fullBookings 52).booking? ref0 = none ∧ none ∉ fullTable ∧ (fullBookings 52).bookingsSound ∧
      fullTable = fullTable.take 12 ++ some { booking0 .available with ref := [12], window := 57 } :: fullTable.drop 13 ∧
      (∀ o ∈ fullTable.take 12, ∀ x ∈ o, x.state = .available → winDist 50 x.window < winDist 50 57) ∧
      (∀ o ∈ fullTable.drop 13, ∀ x ∈ o, x.state = .available → winDist 50 x.window ≤ winDist 50 57) ∧
      0 < winDist 52 57 ∧ winDist 58 57 ≤ 0 ∧
      ∀ o ∈ List.replicate 64 (some (booking0 .used)), ∀ x ∈ o, x.state ≠ .available := by
  unfold State.bookingsSound
  decide +kernel

/-- An outcome record of visit 1; the lane with records FILLED; a frame of lane 7 for lane 6. -/
def record0 : OutcomeRecord := (visit 1 .exiting).record 5
def filledLane (n : Nat) (degraded offered : Bool) : State :=
  { sendingStatus with outcome := { lane5.outcome with filled := List.replicate n record0, offered := offered }
                       bus := { sendingStatus.bus with degraded := degraded } }
def declineBytes : List Byte := TxFrame.bytes 7 (.loanDecline 6 50 3)

theorem witness_sending_offer_and_contention :
    (filledLane 1 false false).outcome.filled = record0 :: [] ∧ (filledLane 1 false false).bus.outboxes = [] ∧
      ([] ++ [] : List TxEntry).length ≤ 6 ∧ (filledLane 1 true false).bus.degraded = true ∧
      (filledLane 1 false true).outcome.offered = true ∧ 7 ≤ (List.replicate 7 note1 ++ []).length ∧
      (filledLane 2 false true).outcome.filled = record0 :: record0 :: [] ∧
      (filledLane 2 false true).oldest? Visit.isPlaceHold = none ∧
      (TxFrame.outcome record0).kind = .outcome ∧ sendingStatus.alive = true ∧ parseFrame true (noteBytes 7) = none ∧
      ((parseFrame false declineBytes).map (fun f => (f.source, f.dest))) = some (7, 6) ∧ (7 : LaneId) ≠ sendingStatus.laneId ∧
      (6 : LaneId) ≠ sendingStatus.laneId ∧ (filledLane 1 true false).bus.txQueue.length ≤ 6 ∧
      ({ sendingStatus with start := { lane5.start with strapFault := true } } : State).alive = false := by decide +kernel

/-- Contention lost to lane 7's frame for lane 6: the STATUS stays, no longer in transmission, and the peer is heard (R163). -/
theorem test_contention_lost :
    ∃ t, exec (.contentionLost false declineBytes) sendingStatus = .next t ∧ t.bus.txQueue = [status2] ∧
      t.capacity.peerTimer = .running 5000 ∧ t.out = [] := by
  refine ⟨_, rfl, ?_, ?_, ?_⟩ <;> decide +kernel

/-! #### The ordering of the receive buffers, vacated loops, the lane mode and the barrier -/

/-- The worked orders of 10, section 10.5: no frame is taken past a buffered RESET_REQ; the RESET_REQ itself is taken at once
(R170). -/
theorem test_reset_request_goes_first :
    takeFirst .release [office .resetReq [], office .release [5, 0, 1, 0]] = none ∧
      takeFirst .resetReq [office .resetReq [], office .release [5, 0, 1, 0]]
        = some (office .resetReq [], [office .release [5, 0, 1, 0]]) ∧
      takeFirst .release [office .config [], office .release [5, 0, 1, 0]]
        = some (office .release [5, 0, 1, 0], [{ office .config [] with handed := true }]) := by decide

theorem witness_vacated_and_starting :
    (atEdge .loopA false lane5).edge .loopA false ∧ (atEdge .loopS false lane5).edge .loopS false ∧
      (atEdge .loopS true (inMode .starting lane5)).edge .loopS true ∧ (inMode .starting lane5).visits.mode = .starting ∧
      (atEdge .loopX true (inMode .starting lane5)).edge .loopX true ∧ atPortal.outbox? .bookingStore = none :=
  ⟨⟨rfl, rfl, _, rfl, rfl⟩, ⟨rfl, rfl, _, rfl, rfl⟩, ⟨rfl, rfl, _, rfl, rfl⟩, rfl, ⟨rfl, rfl, _, rfl, rfl⟩, rfl⟩

/-- The last visit of a DRAINING lane, passing, or not seen on the exit loop: its place RESERVED. -/
theorem witness_draining_lane_left :
    (inMode .draining (withReserved [1] (passingLane .admitted))).laneSound ∧
      (passingLane .admitted).visits.laneQueue.length = 1 ∧
      1 ∈ (inMode .draining (withReserved [1] (passingLane .admitted))).outcome.reserved ∧
      (inMode .draining (unseenLane .admitted)).laneSound ∧ (inMode .draining (unseenLane .admitted)).visits.mode = .draining ∧
      ¬ (inMode .draining lane5).laneSound ∧ ¬ (inMode .starting parkedLane).laneSound := by
  unfold State.laneSound
  decide

/-- BAR_UP up, the barrier settling behind it. -/
def settlingUp : State :=
  { settling with line := { lane5.line with debounced := some ((LineSet.all false).put .barUp true) } }

theorem witness_barrier_agreement_and_settling :
    (atEdge .barUp true (withBarrier .raised lane5)).edge .barUp true ∧
      (atEdge .barUp true (withBarrier .heldOpen lane5)).edge .barUp true ∧
      (atEdge .barUp false lane5).edge .barUp false ∧ (atEdge .barUp false (withBarrier .raising lane5)).edge .barUp false ∧
      (atEdge .barUp false settling).edge .barUp false ∧
      (atEdge .barUp false settling).visits.laneQueue = { visit 1 .exiting with settled := true } :: [] ∧
      settlingUp.yard.settle.isRunning = true ∧ settlingUp.yard.barrier = .settling ∧ settlingUp.level .barUp = true ∧
      settlingUp.visits.laneQueue = { visit 1 .exiting with settled := true } :: [] :=
  ⟨⟨rfl, rfl, _, rfl, rfl⟩, ⟨rfl, rfl, _, rfl, rfl⟩, ⟨rfl, rfl, _, rfl, rfl⟩, ⟨rfl, rfl, _, rfl, rfl⟩,
   ⟨rfl, rfl, _, rfl, rfl⟩, rfl, rfl, rfl, rfl, rfl⟩

/-- PROCEED of the EXITING visit 1 being delivered at a busy count, its direction settled before or not, the barrier LOWERED. -/
def finalDelivering (settled : Bool) (busy : Nat) : State :=
  { withVisits [{ visit 1 .exiting with settled := settled }] (delivering busy) with
    yard := { lane5.yard with queue := [⟨.proceed, some 1, []⟩] } }

theorem witness_direction_ends :
    (finalDelivering false 0).displaySound ∧ (finalDelivering false 0).yard.queue = ⟨.proceed, some 1, []⟩ :: [] ∧
      (finalDelivering false 0).visits.laneQueue.head? = some (visit 1 .exiting) ∧
      (finalDelivering false 0).yard.barrier = .lowered ∧ MessageKind.proceed.isFinal = true ∧
      MessageKind.wait.isFinal = false ∧ (finalDelivering true 4).displaySound ∧
      4 ≤ (finalDelivering true 4).reader.display.busyCount ∧ (finalDelivering true 4).visit? 1
        = some { visit 1 .exiting with settled := true } ∧ (withBarrier .raised (finalDelivering false 0)).yard.barrier ≠ .lowered :=
  ⟨⟨by decide, by decide, by decide, rfl, rfl⟩, rfl, rfl, rfl, rfl, rfl, ⟨by decide, by decide, by decide, rfl, rfl⟩,
   by decide, rfl, by decide⟩

/-! #### Holds at a jump of the clock, and several visits waiting for a loan -/

/-- The holds that a jump from tenth 4000 of window 50 to a point carries past their timeout. -/
def dueBy (p : GatePoint) (v : Visit) : Bool :=
  v.isClerkHold && !v.timeoutRun && match v.holdStart with
    | some h => decide ((5 : Int) * 600 ≤ gateElapsed 30 h ⟨50, 4000⟩ + gateElapsed 30 ⟨50, 4000⟩ p)
    | none => false

/-- Clerk holds of visits 1 and 2 since tenth 2000; the parked set with room for one, or full. -/
def twoHeld (parked : List Visit) : State :=
  let s := withReserved [1, 2] (withVisits [heldVisit 2000, { heldVisit 2000 with number := 2 }] (heldLane 0))
  { s with visits := { s.visits with parked := parked } }

theorem witness_timeFrame_jump :
    (∀ v, dueBy ⟨50, 5000⟩ v = true ↔ v.isClerkHold = true ∧ v.timeoutRun = false ∧ ∃ h, v.holdStart = some h ∧
      ((twoHeld []).general.holdMinutes : Int) * 600 ≤ gateElapsed (twoHeld []).general.windowMinutes h ⟨50, 4000⟩ +
        gateElapsed (twoHeld []).general.windowMinutes ⟨50, 4000⟩ ⟨50, 5000⟩) ∧
      dueBy ⟨50, 5000⟩ (heldVisit 2000) = true ∧ dueBy ⟨50, 4999⟩ (heldVisit 2000) = false ∧
      ((twoHeld [visit 5 .parked]).allVisits.map (·.number)).Nodup ∧ (twoHeld []).capacity.waitList = [] ∧
      ((twoHeld [visit 5 .parked, visit 6 .parked, visit 7 .parked]).visits.laneQueue.filter (dueBy ⟨50, 5000⟩)).take
          (4 - (twoHeld [visit 5 .parked, visit 6 .parked, visit 7 .parked]).parkedInUse) = [heldVisit 2000] ∧
      ((twoHeld [visit 5 .parked, visit 6 .parked, visit 7 .parked]).visits.laneQueue.filter (dueBy ⟨50, 5000⟩)).drop
          (4 - (twoHeld [visit 5 .parked, visit 6 .parked, visit 7 .parked]).parkedInUse)
        = [{ heldVisit 2000 with number := 2 }] ∧ (heldVisit 2000).verdict = .hold ∧ 4 ≤ parkedFour.parkedInUse ∧
      ({ twoHeld [] with bus := { lane5.bus with degraded := true } } : State).bus.degraded = true := by
  refine ⟨fun v => ?_, by decide, by decide, by decide, rfl, by decide, by decide, rfl, by decide, rfl⟩
  unfold dueBy
  cases v.holdStart <;> simp [and_assoc, twoHeld, heldLane, lane5, withReserved, withVisits, State.general, general0]

/-- Visits 1 and 2 waiting for a loan, an Ask for visit 1 in a state, with an entry of the window. -/
def twoWaiting (q : Quota) (st : AskState) : State :=
  { withVisits [visit 1 .awaitLoan, visit 2 .awaitLoan] lane5 with
    capacity := { lane5.capacity with quota := some q, waitList := [1, 2], offers := [offer0], takes := [⟨7, 50, 3⟩]
                                      ask := some ⟨3, 50, st, .running 1500⟩ } }

theorem witness_waiters :
    (twoWaiting ⟨50, 2, 0, 1, 1⟩ .asking).capacity.waitList ≠ [] ∧ (twoWaiting ⟨50, 2, 0, 1, 1⟩ .asking).quotaSound ∧
      [(1 : VisitNumber), 2].Nodup ∧
      (twoWaiting ⟨50, 2, 0, 1, 1⟩ .asking).capacity.offers = [] ++ offer0 :: [] ∧
      (twoWaiting ⟨50, 2, 0, 1, 1⟩ (.taking 7)).capacity.waitList = 1 :: [2] ∧
      (twoWaiting ⟨50, 2, 0, 1, 1⟩ (.taking 7)).visit? 1 = some (visit 1 .awaitLoan) ∧
      (twoWaiting ⟨50, 2, 0, 1, 1⟩ (.taking 7)).capacity.ask = some ⟨3, 50, .taking 7, .running 1500⟩ ∧
      (twoWaiting ⟨50, 2, 14, 1, 15⟩ (.taking 7)).capacity.quota = some ⟨50, 2, 14, 1, 15⟩ ∧
      (twoWaiting ⟨50, 2, 15, 1, 16⟩ (.taking 7)).capacity.quota = some ⟨50, 2, 15, 1, 16⟩ ∧
      (⟨7, 50, 3⟩ : Take) ∈ (twoWaiting ⟨50, 2, 15, 1, 16⟩ (.taking 8)).capacity.takes ∧
      (∀ a, (twoWaiting ⟨50, 2, 15, 1, 16⟩ (.taking 8)).capacity.ask = some a →
        a.state ≠ .taking 7 ∨ a.window ≠ 50 ∨ a.number ≠ 3) ∧
      (∀ e ∈ (twoWaiting ⟨50, 2, 15, 1, 16⟩ (.taking 7)).bus.txQueue, e.frame.kind ≠ .counters) ∧
      ({ lastTenth with capacity := { lane5.capacity with waitList := [1, 2] } } : State).capacity.waitList.Nodup := by
  refine ⟨by decide, ⟨by decide, by decide, by decide, by decide, by decide⟩, by decide, rfl, rfl, rfl, rfl, rfl, rfl, by decide, ?_,
    by decide, by decide⟩
  rintro a h
  cases h
  exact .inl (by decide)

/-- Booking R1 held HERE by visit 1, which waits for a loan, the Loan Wait List as given. -/
def claimWaiting (ns : List VisitNumber) : State :=
  { booked (.here ⟨50, 10⟩ 1) .awaitLoan with capacity := { lane5.capacity with waitList := ns } }

theorem witness_claim_lost_while_waiting :
    (claimWaiting [1, 2]).booking? ref0 = some (booking0 (.here ⟨50, 10⟩ 1)) ∧
      claimEarlier ⟨50, 9⟩ 7 ⟨50, 10⟩ (claimWaiting [1, 2]).laneId = true ∧
      (claimWaiting [1, 2]).visit? 1 = some (claimed (visit 1 .awaitLoan)) ∧
      (claimWaiting [1, 2]).capacity.waitList = 1 :: [2] ∧ (claimWaiting [2, 1]).capacity.waitList.head? ≠ some 1 ∧
      (claimWaiting [2, 1]).capacity.waitList.Nodup ∧ (claimWaiting [1, 2]).capacity.quota = some ⟨50, 2, 0, 0, 0⟩ := by
  decide +kernel

/-- Served, asked for and held: with two waiters, a unit that comes back admits the oldest and a fresh Ask is opened for the next;
in degraded mode with no peer heard the next gets NO_CAPACITY instead (R86, R89, R90, R97). -/
theorem test_offer_returns_to_waiters :
    (∃ t, exec .offerExpiry (twoWaiting ⟨50, 2, 0, 1, 1⟩ .asking) = .next t ∧ t.capacity.waitList = [2] ∧
      (t.visit? 1).map (·.verdict) = some .admitted ∧ t.capacity.ask = some ⟨0, 50, .asking, .running 1500⟩) ∧
    ∃ t, exec .offerExpiry { twoWaiting ⟨50, 2, 0, 1, 1⟩ .asking with bus := { lane5.bus with degraded := true } } = .next t ∧
      t.capacity.waitList = [] ∧ (t.visit? 2).map (·.active) = some [.noCapacity] ∧ t.capacity.ask = none := by
  refine ⟨⟨_, rfl, ?_, ?_, ?_⟩, _, rfl, ?_, ?_, ?_⟩ <;> decide +kernel

/-- An OUTCOME in transmission, the places used up, and visit 1 in a place hold with these reasons and this arrival class. -/
def placeHeld (rs : List Reason) (cls : ArrivalClass) : State :=
  { withVisits [{ visit 1 .hold with active := rs, arrival := cls }] lane5 with
    outcome := { lane5.outcome with filled := List.replicate 16 record0, offered := true }
    bus := { lane5.bus with txQueue := [⟨.outcome record0, true⟩] } }

theorem witness_place_freed_for_a_hold :
    (placeHeld [.recordFull] .onTime).bus.txQueue = [] ++ ⟨.outcome record0, true⟩ :: [] ∧
      (placeHeld [.recordFull] .onTime).busSound ∧ (placeHeld [.recordFull] .onTime).placesSound ∧
      (placeHeld [.recordFull] .onTime).outcome.filled ≠ [] ∧
      (placeHeld [.recordFull] .onTime).oldest? Visit.isPlaceHold = some { visit 1 .hold with active := [.recordFull] , arrival := .onTime } ∧
      (placeHeld [.recordFull] .onTime).visit? 1 = some { visit 1 .hold with active := [.recordFull], arrival := .onTime } ∧
      [Reason.recordFull].any Reason.isRefuse = false ∧ [Reason.recordFull].any Reason.isClerkHold = false ∧
      [Reason.tooLate, .recordFull].any Reason.isRefuse = true ∧
      [Reason.duplicate, .recordFull].any Reason.isClerkHold = true ∧
      ({ visit 1 .hold with arrival := .early } : Visit).needsFlex = true ∧
      ({ visit 1 .hold with arrival := .onTime } : Visit).needsFlex = false := by
  unfold State.busSound State.placesSound
  decide +kernel

/-- The answer bytes of R173: ACCEPT 01h, BUSY 02h, REJECT 03h. -/
theorem test_answer_bytes : Answer.byte .accept = 0x01 ∧ Answer.byte .busy = 0x02 ∧ Answer.byte .reject = 0x03 := by decide

end Sys2Proof.Tests
end

section
/-! PROOFS. Resets, the input lines' debounce and the reset state: what the operations of Start Control and of the Lane Line Unit
come to, and the statements about them. -/

namespace Sys2Proof.Machine

/-! ### Resets -/

/-- The device held in reset is the reset image (R6, R180). -/
theorem State.enterReset_eq (cause : ResetCause) (lost : Nat) (s : State) :
    s.enterReset cause lost = s.resetImage s.start.resetPin s.start.resetQual cause lost := by rfl

theorem State.setResetPin_resetImage (s : State) (pin high : Bool) (qual qual' : Timer) (cause : ResetCause) (lost : Nat) :
    (s.resetImage pin qual cause lost).setResetPin high qual' = s.resetImage high qual' cause lost := by rfl

/-- An identifier that no lane has (R174). -/
theorem badLane_iff (l : LaneId) : badLane l = true ↔ l = 0 ∨ l = 31 := by simp [badLane]

/-- The straps sampled at the reset image: no flag is set, so ALERT_N follows the strap fault alone (R5, R174). -/
theorem State.alertDue_sampleStraps_resetImage (s : State) (p : Straps) (pin : Bool) (qual : Timer) (cause : ResetCause)
    (lost : Nat) : ((s.resetImage pin qual cause lost).sampleStraps p).alertDue = badLane p.lane := by
  show (badLane p.lane || ((s.resetImage pin qual cause lost).sampleStraps p).flagWord &&& _ != 0) = _
  have hflags : ((s.resetImage pin qual cause lost).sampleStraps p).flagWord = 0 := by rfl
  rw [hflags]
  simp

/-- The end of a reset from the reset image (R174, R175). -/
theorem State.endReset_resetImage (s : State) (p : Straps) (pin : Bool) (qual : Timer) (cause : ResetCause) (lost : Nat) :
    (s.resetImage pin qual cause lost).endReset p = (s.resetImage pin qual cause lost).startImage p := by
  unfold State.endReset State.startImage State.driveAlertN
  rw [State.alertDue_sampleStraps_resetImage]
  unfold State.sampleStraps
  by_cases hp : badLane p.lane = true
  · rw [if_pos hp, if_pos ((badLane_iff _).1 hp), hp]
  · rw [if_neg hp, if_neg (fun h => hp ((badLane_iff _).2 h)), Bool.eq_false_of_not_eq_true hp]
    rfl

/-- Settles O19. -/
theorem powerOnResetsTheDevice : Obligations.PowerOnResetsTheDevice := by
  intro s p
  refine ⟨by rfl, ?_⟩
  show Host.Outcome.next (((s.enterReset .power 0).setResetPin true .stopped).endReset p) = _
  rw [State.enterReset_eq, State.setResetPin_resetImage, State.endReset_resetImage]

/-- Settles O20. -/
theorem lowResetLineHoldsTheDevice : Obligations.LowResetLineHoldsTheDevice := by
  intro s
  refine ⟨fun h => ?_, fun h => ?_, fun hpin hqual => ?_, fun h => ?_⟩
  · simp [exec, execResetNFall, State.resetPinFalls, h, State.setResetPin]
  · simp [exec, execResetNFall, State.resetPinFalls, h]
  · simp only [exec, execLineReset, State.lineResetTaken, hpin, hqual, Bool.not_false, Bool.and_self, if_true]
    rfl
  · have hdue : (!s.start.resetPin && s.start.resetQual.isRunning) = false := by
      rcases h with h | h <;> simp [h]
    simp [exec, execLineReset, State.lineResetTaken, hdue]

/-- Settles O21. -/
theorem resetReleaseStartsTheLane : Obligations.ResetReleaseStartsTheLane := by
  intro s p hpin
  refine ⟨fun hheld hsound => ?_, fun hrun => ?_⟩
  · have himage : s.setResetPin true .stopped
        = s.resetImage true .stopped s.start.cause s.start.placesLost := by
      conv_lhs => rw [hsound hheld]
      rfl
    simp only [exec, execResetNRelease, State.resetPinRises, hpin, hheld, himage, State.endReset_resetImage,
      Bool.false_eq_true, if_false, if_true]
  · simp [exec, execResetNRelease, State.resetPinRises, hpin, hrun, State.setResetPin]

/-- Settles O3: each invariant is read off the reset values. -/
theorem resetIsSound : Obligations.ResetIsSound := by
  refine ⟨Nat.zero_le _, fun k => by cases k <;> decide, ⟨by decide, by decide, rfl⟩,
    ⟨by decide, fun h => absurd rfl h, by decide, by decide⟩, rfl, ?_, ⟨by decide, by decide, rfl, rfl, rfl, rfl⟩,
    ?_, ?_, ?_, fun _ => rfl⟩
  · unfold State.laneSound; decide
  · unfold State.bookingsSound; decide +kernel
  · refine ⟨?_, ?_, ?_, ?_, ?_, ?_⟩ <;> intro _ h <;> cases h
  · refine ⟨fun h => ?_, fun _ => rfl⟩
    cases h

/-! ### Debounce (R1, R2) -/

/-- A running debounce timer runs out. -/
theorem State.debounceExpired_running {s : State} {l : Line} {ls : LineSet Bool} (hls : s.line.debounced = some ls)
    (hrun : (s.line.timers.get l).isRunning = true) : s.debounceExpired l =
      if s.presentLevel l = ls.get l then s.setLineTimer l .stopped else s.settleLine l ls := by
  unfold State.debounceExpired
  rw [hls]
  exact if_pos hrun

/-- A line with an edge: its debounced level changes and the event of the new level comes. -/
theorem State.exec_debounceExpiry_edge {s : State} {l : Line} {up : Bool} (h : s.edge l up) :
    exec (.debounceExpiry l) s = .next ((s.debouncedTo l up).lineEvent l up) := by
  obtain ⟨hrun, hpresent, ls, hls, hget⟩ := h
  have hne : ¬ s.presentLevel l = ls.get l := by rw [hpresent, hget]; cases up <;> decide
  show Host.Outcome.next (s.debounceExpired l) = _
  rw [State.debounceExpired_running hls hrun, if_neg hne, State.settleLine, hpresent, State.debouncedTo, hls]
  rfl

/-- What a pin change does, from the state with the pin changed. -/
theorem State.pinChange_eq {s u : State} {l : Line} {high : Bool} (h : s.line.pins.get l ≠ high)
    (hu : u = { s with line := { s.line with pins := s.line.pins.put l high } }) : s.pinChange l high =
      match s.line.debounced with
      | none => u
      | some ls =>
        if u.presentLevel l = ls.get l then u.setLineTimer l .stopped
        else if s.general.debounceMs = 0 then u.settleLine l ls
        else u.setLineTimer l (.running s.general.debounceMs) := by
  subst hu
  exact if_neg h

/-- With a debounce time of 0 the event of a pin change comes as the running out of the timer gives it (R2; log 28). -/
theorem State.settleLine_eq_debounceExpired {u : State} {l : Line} {ls : LineSet Bool} (hls : u.line.debounced = some ls)
    (hdiff : u.presentLevel l ≠ ls.get l) : u.settleLine l ls =
      ({ u with line := { u.line with timers := u.line.timers.put l (.running 0) } } : State).debounceExpired l := by
  have hrun : ((u.line.timers.put l (.running 0)).get l).isRunning = true := by cases l <;> rfl
  refine Eq.trans ?_ (State.debounceExpired_running (s := { u with line := { u.line with
    timers := u.line.timers.put l (.running 0) } }) hls hrun).symm
  refine Eq.trans ?_ (if_neg hdiff).symm
  cases l <;> rfl

/-- Settles O24. -/
theorem lineChangeRunsTheDebounce : Obligations.LineChangeRunsTheDebounce := by
  refine ⟨fun s l high h => congrArg _ (if_pos h), fun s l high h u hu => ?_,
    fun s l => ⟨fun h => congrArg Host.Outcome.next ?_, fun ls hls hrun hsame => congrArg Host.Outcome.next ?_⟩⟩
  · have hdeb : u.line.debounced = s.line.debounced := by rw [hu]
    have hpin := State.pinChange_eq h hu
    refine ⟨fun hnone => congrArg Host.Outcome.next ?_, fun ls hls =>
      ⟨fun hsame => congrArg Host.Outcome.next ?_, fun hdiff hms => congrArg Host.Outcome.next ?_,
        fun hdiff hms => congrArg Host.Outcome.next ?_⟩⟩
    · rw [hpin, hnone]
    · rw [hpin, hls]
      exact if_pos hsame
    · rw [hpin, hls]
      exact (if_neg hdiff).trans (if_neg hms)
    · rw [hpin, hls]
      exact ((if_neg hdiff).trans (if_pos hms)).trans (State.settleLine_eq_debounceExpired (hdeb.trans hls) hdiff)
  · unfold State.debounceExpired
    rcases h with h | h
    · rw [h]
    · rw [h]
      split <;> rfl
  · rw [State.debounceExpired_running hls hrun, if_pos hsame]
    rfl

end Sys2Proof.Machine
end

section
/-! PROOFS. Frames taken by their owners: what the state that the owner finds keeps, the lane modes (R8, R9), the configuration
(R177 to R179), the tenths of the clock (R11) and reports without a visit in the portal (R51, R52). -/

namespace Sys2Proof.Machine

/-! ### What the owner of a frame finds (R170) -/

section
variable (s : State) (f : RxFrame) (rest : List RxFrame)

@[simp] theorem State.handedOn_frame :
    (s.handedOn f rest).line = s.line ∧ (s.handedOn f rest).clock = s.clock ∧ (s.handedOn f rest).visits = s.visits ∧
    (s.handedOn f rest).reader = s.reader ∧ (s.handedOn f rest).booking = s.booking ∧
    (s.handedOn f rest).capacity = s.capacity ∧ (s.handedOn f rest).survey = s.survey ∧
    (s.handedOn f rest).yard = s.yard ∧ (s.handedOn f rest).outcome = s.outcome ∧
    (s.handedOn f rest).bus = { s.bus with rx := rest } ∧ (s.handedOn f rest).out = s.out ∧
    (s.handedOn f rest).freeIndex = s.freeIndex ∧ (s.handedOn f rest).pending = s.pending :=
  ⟨rfl, rfl, rfl, rfl, rfl, rfl, rfl, rfl, rfl, rfl, rfl, rfl, rfl⟩

/-- Of Start Control the hand-on touches the pending reset request alone (R176). -/
@[simp] theorem State.handedOn_start :
    (s.handedOn f rest).start.phase = s.start.phase ∧ (s.handedOn f rest).start.straps = s.start.straps ∧
    (s.handedOn f rest).start.strapFault = s.start.strapFault ∧ (s.handedOn f rest).start.assembly = s.start.assembly ∧
    (s.handedOn f rest).start.config = s.start.config := by
  unfold State.handedOn
  dsimp only
  split <;> simp

@[simp] theorem State.handedOn_general : (s.handedOn f rest).general = s.general := by simp [State.general]

@[simp] theorem State.handedOn_flagWord : (s.handedOn f rest).flagWord = s.flagWord := by rfl

end

/-! ### Lane modes (R8, R9) -/

/-- Settles O37. -/
theorem openFrameByLaneMode : Obligations.OpenFrameByLaneMode := by
  intro s u f rest hf hu
  have hexec : exec .openFrame s = .next u.takeOpen := by
    rw [hu]
    exact congrArg _ (State.onFrame_taken hf)
  have hmode : u.visits.mode = s.visits.mode := by simp [hu]
  rw [hexec, State.takeOpen, hmode]
  refine ⟨fun h => by rw [h], fun h => ?_, fun h => by rw [h]⟩
  rcases h with h | h <;> rw [h] <;> rfl

/-- Settles O38. -/
theorem closeFrameByLaneMode : Obligations.CloseFrameByLaneMode := by
  intro s u f rest hf hu
  have hexec : exec .closeFrame s = .next u.takeClose := by
    rw [hu]
    exact congrArg _ (State.onFrame_taken hf)
  have hvisits : u.visits = s.visits := by simp [hu]
  rw [hexec, State.takeClose, hvisits]
  refine ⟨fun h => by rw [h], fun h hq => ?_, fun h hq => ?_, fun h => ?_⟩
  · rw [h, hq, State.setMode, hvisits]; rfl
  · have hne : s.visits.laneQueue.isEmpty = false := by simpa using hq
    rw [h, hne, State.setMode, hvisits]; rfl
  · rcases h with h | h <;> rw [h]

/-! ### The tenths of the clock (R11, R14) -/

/-- Settles O34. -/
theorem tenthsCountOnlyWhileTheClockRuns : Obligations.TenthsCountOnlyWhileTheClockRuns := by
  intro s
  have htenth : exec .tenthsRise s = .next s.tenthPasses := by rfl
  have hroll : exec .windowRoll s = .next s.rollDue := by rfl
  rw [htenth, hroll, State.tenthPasses, State.rollDue, State.clockRuns, State.rollTenths]
  refine ⟨fun hv hp ht => ?_, fun h => ?_, fun ht => ?_⟩
  · simp only [hv, hp, Bool.not_false, Bool.and_self, Bool.true_and, decide_eq_true_eq, ht, if_true, not_le.2 ht, if_false]
    exact ⟨rfl, trivial⟩
  · have hruns : (s.clock.valid && !s.clock.paused) = false := by rcases h with h | h <;> simp [h]
    simp [hruns]
  · simp [not_lt.2 ht]

/-! ### The configuration (R177 to R179) -/

/-- With a part missing the configuration is not fixed (R177). -/
theorem State.fixIfComplete_of_missing (s : State)
    (h : s.start.assembly.general = none ∨ s.start.assembly.zones = none ∨ s.start.assembly.profilesA = none ∨
      s.start.assembly.profilesB = none ∨ s.start.assembly.blocks = none) : s.fixIfComplete = s := by
  unfold State.fixIfComplete
  split
  · rename_i ha
    rw [ha] at h
    simp at h
  · rfl

/-- The present level of a line is its pin read through the configured polarity (R1). -/
theorem State.presentLevel_eq (s : State) (l : Line) : s.presentLevel l =
    if s.general.polarity.get l = .activeHigh then s.line.pins.get l else !s.line.pins.get l := by
  unfold State.presentLevel assertedBy
  cases s.general.polarity.get l <;> rfl

/-- The fixing with the clock not yet valid: levels, blocks, the barrier and ALERT_N (R3, R144, R156, R179). -/
theorem State.fixConfig_eq (c : LaneConfig) (bs : List BlockEntry) (s : State) (hclock : s.clock.valid = false) :
    ∃ levels : LineSet Bool,
      (∀ l, levels.get l =
        if c.general.polarity.get l = .activeHigh then s.line.pins.get l else !s.line.pins.get l) ∧
      s.fixConfig c bs = { s with
        start := { s.start with config := some c }
        line := { s.line with debounced := some levels }
        yard := if levels.barUp then { s.yard with blocks := bs, barrier := .settling, settle := .running 4000 }
          else { s.yard with blocks := bs }
        outcome := { s.outcome with
          alertLow := s.start.strapFault || (s.flagWord &&& ~~~c.general.alertMask) != 0 } } := by
  let s1 : State := { s with start := { s.start with config := some c } }
  let levels : LineSet Bool := ⟨s1.presentLevel .loopA, s1.presentLevel .loopP, s1.presentLevel .loopS,
    s1.presentLevel .loopX, s1.presentLevel .scan, s1.presentLevel .barUp⟩
  have hlevels : ∀ l, levels.get l = s1.presentLevel l := by intro l; cases l <;> rfl
  refine ⟨levels, fun l => (hlevels l).trans (State.presentLevel_eq s1 l), ?_⟩
  have hready : ∀ t : State, t.clock = s.clock → t.checkReady = t := by
    intro t ht
    unfold State.checkReady
    rw [ht, hclock, Bool.and_false]
    rfl
  show (((s1.takeLevels.setBlocks bs).barrierAtFix).driveAlertN).checkReady = _
  rw [hready _ (by simp [s1])]
  have hlevel : (s1.takeLevels.setBlocks bs).level .barUp = levels.barUp := by rfl
  unfold State.barrierAtFix
  rw [hlevel]
  cases levels.barUp <;> rfl

/-- A CONFIG that is fixed already or malformed is counted as ignored (R177, R179). -/
theorem State.takeConfig_ignored {payload : List Byte} {s : State}
    (h : s.start.config.isSome = true ∨ configForm payload = none) : s.takeConfig payload = s.count .framesIgnored := by
  unfold State.takeConfig
  rcases h with h | h
  · rw [if_pos h]
  · rw [h]
    exact ite_self _

/-- A CONFIG part of sound form is held, and the configuration fixed once it is complete (R177). -/
theorem State.takeConfig_held {payload : List Byte} {s : State} {part : ConfigPart} (hnone : s.start.config = none)
    (hpart : configForm payload = some part) : s.takeConfig payload =
      ({ s with start := { s.start with assembly := s.start.assembly.hold part } } : State).fixIfComplete := by
  unfold State.takeConfig
  rw [hnone, hpart]
  rfl

/-- Settles O23. -/
theorem configPartsAreHeldThenFixed : Obligations.ConfigPartsAreHeldThenFixed := by
  intro s f rest hf
  have hexec : exec .configFrame s = .next ((s.handedOn f rest).takeConfig f.payload) :=
    congrArg _ (State.onFrame_taken hf)
  obtain ⟨-, -, hstrap, hassembly, hconfig⟩ := State.handedOn_start s f rest
  rw [hexec]
  refine ⟨fun h => ?_, fun part hnone hpart => ?_⟩
  · rw [State.takeConfig_ignored (by rwa [hconfig])]
  · rw [State.takeConfig_held (hconfig.trans hnone) hpart, hassembly]
    refine ⟨fun hmissing => ?_, fun g zs pa pb bs hall hclock => ?_⟩
    · rw [State.fixIfComplete_of_missing _ hmissing]
    · rw [hall, ← hstrap]
      obtain ⟨levels, hlevels, hfix⟩ := State.fixConfig_eq ⟨g, zs, pa ++ pb⟩ bs
        { s.handedOn f rest with
          start := { (s.handedOn f rest).start with
            assembly := ⟨some g, some zs, some pa, some pb, some bs⟩ } } hclock
      exact ⟨_, levels, rfl, hlevels, hfix⟩

/-! ### Reports without a visit in the portal (R48 to R52) -/

/-- A command that brings a report gives its message to the channel. -/
theorem exec_carriesReport {c : Instr} {ch : Channel} {toggle : Bool} {r : Report} (h : carriesReport c ch toggle r)
    (s : State) : exec c s = .next (s.readerMessage ch (some (.report toggle r))) := by
  cases ch with
  | plateReader =>
    obtain ⟨text, confidence, rfl, hform⟩ := h
    simp only [exec, execPlateReport, hform, Option.map_some]
  | codeReader =>
    obtain ⟨pos, text, size, rfl, hform⟩ := h
    simp only [exec, execCodeReport, hform, Option.map_some]
  | sealReader =>
    obtain ⟨pos, kind, tag, text, rfl, hform⟩ := h
    simp only [exec, execSealReport, hform, Option.map_some]

/-- A new report is placed and answered, an ACCEPT moving the expected toggle (R48, R49). -/
theorem State.takeReport_new {s : State} {ch : Channel} {toggle : Bool} (r : Report) (h : s.newOn ch toggle) :
    s.takeReport ch toggle r =
      (if (s.placeReport ch r).1 = .accept then
        (s.placeReport ch r).2.setChannel ch
          { (s.placeReport ch r).2.channel ch with expected := !toggle, synced := true }
      else (s.placeReport ch r).2).answer ch (s.placeReport ch r).1 := by
  have hnew : ((s.channel ch).synced && toggle != (s.channel ch).expected) = false := by
    rcases h with h | h <;> simp [h]
  unfold State.takeReport
  simp only [hnew, Bool.false_eq_true, if_false]

/-- A new report with no visit in the portal (R51, R52). -/
theorem State.placeReport_noPortal {s : State} (ch : Channel) (r : Report) (h : s.portal? = none) :
    s.placeReport ch r =
      if s.visits.laneQueue.any (fun v => v.state == .approach) then
        if (s.channel ch).buffer.isNone then
          (.accept, s.setChannel ch { s.channel ch with buffer := some r, expiry := .running 3000 })
        else (.busy, s)
      else (.reject, s.count .orphanReads) := by
  unfold State.placeReport
  rw [h]

/-- Settles O43. -/
theorem reportWithoutPortalIsHeldOrOrphan : Obligations.ReportWithoutPortalIsHeldOrOrphan := by
  intro s c ch toggle r hc
  rw [exec_carriesReport hc, State.readerMessage]
  refine ⟨fun halive => by rw [halive]; rfl, fun halive hnew hportal => ?_⟩
  simp only [halive, if_true, State.takeReport_new r hnew, State.placeReport_noPortal ch r hportal]
  refine ⟨fun happroach hbuffer => ?_, fun happroach hbuffer => ?_, fun happroach => ?_⟩
  · simp only [happroach, hbuffer, Option.isNone_none, if_true]
    cases ch <;> rfl
  · have hsome : (s.channel ch).buffer.isNone = false := by cases hb : (s.channel ch).buffer <;> simp_all
    simp only [happroach, hsome, if_true, Bool.false_eq_true, if_false, reduceCtorEq]
    rfl
  · simp only [happroach, Bool.false_eq_true, if_false, reduceCtorEq]
    rfl

end Sys2Proof.Machine
end

section
/-! PROOFS. What no command but a reset touches: Start Control under the other commands (R6, R174, R179), the held device (R6, R180)
and the Gate Clock (R11 to R14). -/

namespace Sys2Proof.Machine

/-! ### Frame commands, once for all of them -/

/-- A property of the state its owner finds, kept by what the owner does, is kept by the frame command (R170). -/
theorem State.onFrame_induct (P : State → Prop) {k : FrameKind} {act : RxFrame → State → State} {s : State} (hs : P s)
    (hact : ∀ f rest, P (act f (s.handedOn f rest))) : P (s.onFrame k act) := by
  cases h : takeFirst k s.bus.rx with
  | none => rwa [State.onFrame_none h]
  | some p => rw [State.onFrame_taken (f := p.1) (rest := p.2) h]; exact hact p.1 p.2

/-- A loan frame acts, or is malformed and does nothing. -/
theorem State.loanFrame_induct (P : State → Prop) {act : Window → Byte → State → State} {payload : List Byte} {s : State}
    (hs : P s) (hact : ∀ w n, P (act w n s)) : P (s.loanFrame act payload) := by
  unfold State.loanFrame
  split
  · exact hact _ _
  · exact hs

/-- A clerk frame acts on the visit it names, or is counted as ignored (02, section 2.7). -/
theorem State.clerkFrame_induct (P : State → Prop) {act : VisitNumber → State → State} {payload : List Byte} {s : State}
    (hignored : P (s.count .framesIgnored)) (hact : ∀ n, P (act n s)) : P (s.clerkFrame act payload) := by
  unfold State.clerkFrame
  split
  · split
    · exact hact _
    · exact hignored
  · exact hignored

/-- A property kept by every command, and blind to the queue of commands, is kept by every step. -/
theorem step_keeps {P : State → Prop} (hpending : ∀ s cs, P s → P { s with pending := cs })
    (hexec : ∀ c s t, P s → exec c s = .next t → P t) (s t : State) (hs : P s) (h : step s = .next t) : P t := by
  unfold step at h
  split at h
  · cases h; exact hs
  · exact hexec _ _ _ (hpending _ _ hs) h

end Sys2Proof.Machine

namespace Sys2Proof

/-- The commands that begin or end a reset, or bring a part of the configuration. -/
def Instr.actsOnStart : Instr → Bool
  | .powerOn _ _ | .lineReset | .resetNRelease _ | .configFrame | .resetReqFrame _ => true
  | _ => false

end Sys2Proof

namespace Sys2Proof.Machine

/-! ### Start Control under the commands that are not its own -/

/-- `t` has the phase, the straps and the configuration of `s`. -/
def State.sameStart (s t : State) : Prop :=
  t.start.phase = s.start.phase ∧ t.start.straps = s.start.straps ∧ t.start.strapFault = s.start.strapFault ∧
    t.start.assembly = s.start.assembly ∧ t.start.config = s.start.config

theorem State.sameStart.of_start {s u t : State} (hu : s.sameStart u) (h : t.start = u.start) : s.sameStart t := by
  unfold State.sameStart
  rwa [h]

theorem State.sameStart.refl (s : State) : s.sameStart s := ⟨rfl, rfl, rfl, rfl, rfl⟩

/-- A frame command whose owner leaves Start Control alone keeps what `sameStart` names. -/
theorem State.sameStart.onFrame {s : State} {k : FrameKind} {act : RxFrame → State → State}
    (h : ∀ f u, (act f u).start = u.start) : s.sameStart (s.onFrame k act) :=
  State.onFrame_induct _ (State.sameStart.refl s) fun f rest =>
    State.sameStart.of_start (State.handedOn_start s f rest) (h f _)

@[simp] theorem State.loanFrame_start {act : Window → Byte → State → State} (h : ∀ w n u, (act w n u).start = u.start)
    (payload : List Byte) (s : State) : (s.loanFrame act payload).start = s.start :=
  State.loanFrame_induct (fun t => t.start = s.start) rfl fun w n => h w n s

@[simp] theorem State.clerkFrame_start {act : VisitNumber → State → State} (h : ∀ n u, (act n u).start = u.start)
    (payload : List Byte) (s : State) : (s.clerkFrame act payload).start = s.start :=
  State.clerkFrame_induct (fun t => t.start = s.start) (by simp) fun n => h n s

/-- Only the commands of `actsOnStart` touch the phase, the straps or the configuration. -/
theorem exec_sameStart {c : Instr} {s t : State} (h : exec c s = .next t) (hc : c.actsOnStart = false) :
    s.sameStart t := by
  cases c <;> injection h with h <;> subst h
  case powerOn | lineReset | resetNRelease | configFrame | resetReqFrame => cases hc
  case resetNFall =>
    unfold State.resetPinFalls
    split <;> exact .refl s
  case resetReqTimerExpiry =>
    unfold State.resetReqExpired
    split <;> exact .refl s
  case loanAskFrame | loanOfferFrame | loanTakeFrame | loanConfirmFrame | loanVoidFrame | loanDeclineFrame =>
    exact .onFrame fun f u => State.loanFrame_start (fun w n v => by simp) _ _
  case releaseFrame | refuseFrame =>
    exact .onFrame fun f u => State.clerkFrame_start (fun n v => by simp) _ _
  case timeFrame | openFrame | closeFrame | bookingFrame | bookingCancelFrame | claimFrame | claimEndFrame
    | blockNoteFrame | alertClearFrame | countersFetchFrame =>
    exact .onFrame fun f u => by simp
  all_goals exact (State.sameStart.refl s).of_start (by simp)

/-! ### The Gate Clock under each command (R11 to R14) -/

@[simp] theorem State.loanFrame_clock {act : Window → Byte → State → State} (h : ∀ w n u, (act w n u).clock = u.clock)
    (payload : List Byte) (s : State) : (s.loanFrame act payload).clock = s.clock :=
  State.loanFrame_induct (fun t => t.clock = s.clock) rfl fun w n => h w n s

@[simp] theorem State.clerkFrame_clock {act : VisitNumber → State → State} (h : ∀ n u, (act n u).clock = u.clock)
    (payload : List Byte) (s : State) : (s.clerkFrame act payload).clock = s.clock :=
  State.clerkFrame_induct (fun t => t.clock = s.clock) (by simp) fun n => h n s

/-- A frame command whose owner leaves the clock alone leaves it alone. -/
theorem State.onFrame_clock {s : State} {k : FrameKind} {act : RxFrame → State → State}
    (h : ∀ f u, (act f u).clock = u.clock) : (s.onFrame k act).clock = s.clock :=
  State.onFrame_induct (fun t => t.clock = s.clock) rfl fun f _ => h f _

/-- Only a reset, the passing of time and a TIME frame move the clock. -/
theorem exec_clock {c : Instr} {s t : State} (h : exec c s = .next t) (hpower : ∀ high p, c ≠ .powerOn high p)
    (hline : c ≠ .lineReset) (hreq : ∀ p, c ≠ .resetReqFrame p) (htenth : c ≠ .tenthsRise) (hroll : c ≠ .windowRoll)
    (htime : c ≠ .timeFrame) : t.clock = s.clock := by
  cases c <;> injection h with h <;> subst h
  case powerOn high p => exact absurd rfl (hpower high p)
  case lineReset => exact absurd rfl hline
  case resetReqFrame p => exact absurd rfl (hreq p)
  case tenthsRise => exact absurd rfl htenth
  case windowRoll => exact absurd rfl hroll
  case timeFrame => exact absurd rfl htime
  case resetNRelease p =>
    unfold State.resetPinRises
    dsimp only
    repeat' split
    all_goals simp
  case loanAskFrame | loanOfferFrame | loanTakeFrame | loanConfirmFrame | loanVoidFrame | loanDeclineFrame =>
    exact State.onFrame_clock fun f u => State.loanFrame_clock (fun w n v => by simp) _ _
  case releaseFrame | refuseFrame =>
    exact State.onFrame_clock fun f u => State.clerkFrame_clock (fun n v => by simp) _ _
  case openFrame | closeFrame | bookingFrame | bookingCancelFrame | claimFrame | claimEndFrame | blockNoteFrame
    | alertClearFrame | countersFetchFrame | configFrame =>
    exact State.onFrame_clock fun f u => by simp
  all_goals simp

/-- A fixed configuration outlives every command but those that hold the device in reset. -/
theorem exec_config {c : Instr} {s t : State} {cfg : LaneConfig} (h : exec c s = .next t)
    (hpower : ∀ high p, c ≠ .powerOn high p) (hline : c ≠ .lineReset) (hreq : ∀ p, c ≠ .resetReqFrame p)
    (hfixed : s.start.config = some cfg) : t.start.config = some cfg := by
  by_cases hstart : c.actsOnStart = false
  · obtain ⟨-, -, -, -, hconfig⟩ := exec_sameStart h hstart
    exact hconfig.trans hfixed
  · cases c <;> try exact absurd rfl hstart
    case powerOn high p => exact absurd rfl (hpower high p)
    case lineReset => exact absurd rfl hline
    case resetReqFrame p => exact absurd rfl (hreq p)
    case resetNRelease p =>
      injection h with h
      subst h
      unfold State.resetPinRises State.endReset
      dsimp only
      repeat' split
      all_goals simp [hfixed, State.setResetPin, State.sampleStraps]
    case configFrame =>
      injection h with h
      subst h
      refine State.onFrame_induct (fun t => t.start.config = some cfg) hfixed fun f _ => ?_
      have hstill : ∀ rest, (s.handedOn f rest).start.config = some cfg := fun rest => by simp [hfixed]
      rw [State.takeConfig_ignored (.inl (by rw [hstill]; rfl))]
      simp [hfixed]

/-- Settles O13. -/
theorem clockAndConfigurationMoveOnlyBy : Obligations.ClockAndConfigurationMoveOnlyBy :=
  fun _ _ _ h hpower hline hreq =>
    ⟨fun _ hfixed => exec_config h hpower hline hreq hfixed,
      fun htenth hroll htime => exec_clock h hpower hline hreq htenth hroll htime⟩

/-! ### The clock's own commands -/

/-- A window at a distance from 0 on is that many windows ahead (00, "Window distance"). -/
theorem add_winDist {a b : Window} (h : 0 ≤ winDist a b) : a + BitVec.ofNat 8 (winDist a b).toNat = b := by
  have hd : BitVec.ofNat 8 (winDist a b).toNat = b - a := by
    unfold winDist at h ⊢
    rw [← BitVec.ofInt_natCast, Int.toNat_of_nonneg h, BitVec.ofInt_toInt]
  rw [hd]
  bv_omega

/-- A roll notice leaves the clock; a roll moves it into the next window (R11). -/
theorem State.oneRoll_clock (s : State) : s.oneRoll.clock =
    { s.clock with window := s.clock.window + 1, tenths := 0, curClass := s.clock.nextClass } := by
  simp [State.oneRoll]

/-- Rolls one after another: the window rises by their number, and the next share class becomes current (R13). -/
theorem State.rolls_clock (n : Nat) (s : State) : (State.rolls (n + 1) s).clock =
    { s.clock with window := s.clock.window + BitVec.ofNat 8 (n + 1), tenths := 0, curClass := s.clock.nextClass } := by
  induction n generalizing s with
  | zero => simp only [State.rolls, State.oneRoll_clock]; rfl
  | succ n ih =>
    rw [State.rolls, ih, State.oneRoll_clock]
    simp only [GateClock.mk.injEq, true_and, and_true]
    bv_omega

/-- The windows of an adoption: the clock's window is the frame's, and the share class changes where a window is crossed
(R13). -/
theorem State.carryWindows_clock {s : State} {w : Window} (h : 0 ≤ winDist s.clock.window w) :
    ∃ tenths, (s.carryWindows (winDist s.clock.window w) w).clock =
      { s.clock with window := w, tenths := tenths
                     curClass := if winDist s.clock.window w = 0 then s.clock.curClass else s.clock.nextClass } := by
  have hw := add_winDist h
  unfold State.carryWindows
  split
  · obtain ⟨n, hn⟩ : ∃ n, n = (winDist s.clock.window w).toNat := ⟨_, rfl⟩
    rw [← hn] at hw ⊢
    cases n with
    | zero =>
      have hzero : winDist s.clock.window w = 0 := by omega
      refine ⟨s.clock.tenths, ?_⟩
      have hsame : w = s.clock.window := by rw [← hw]; simp
      rw [hzero, hsame]
      rfl
    | succ n =>
      have hpos : winDist s.clock.window w ≠ 0 := by omega
      exact ⟨0, by rw [State.rolls_clock, hw, if_neg hpos]⟩
  · have hpos : winDist s.clock.window w ≠ 0 := by omega
    refine ⟨0, ?_⟩
    simp [State.setWindow, State.rolls_clock, if_neg hpos]

/-- An adoption sets the clock to the frame's point (R13). -/
theorem State.adoptTime_clock {s : State} {p : GatePoint} (cls : Nat) (h : 0 ≤ winDist s.clock.window p.window) :
    (s.adoptTime p cls).clock = ⟨s.clock.valid, false, p.window, p.tenths,
      if winDist s.clock.window p.window = 0 then s.clock.curClass else s.clock.nextClass, cls⟩ := by
  obtain ⟨tenths, hclock⟩ := State.carryWindows_clock (s := s.setClock { s.clock with paused := false }) h
  simp only [State.adoptTime, State.expireHolds_frame]
  rw [State.setClock_clock] at hclock
  simp only [State.setClock_clock, hclock]

/-- The first TIME frame sets the clock (R12). -/
theorem State.firstTime_clock (p : GatePoint) (cls : Nat) (s : State) :
    (s.firstTime p cls).clock = ⟨true, false, p.window, p.tenths, cls, cls⟩ := by simp [State.firstTime]

/-- What a TIME frame does to the clock: nothing where it is ignored, the first value, a pause, or an adoption (R12 to
R14). -/
theorem State.takeTime_clock (payload : List Byte) (s : State) :
    (s.takeTime payload).clock = s.clock ∨
    (s.takeTime payload).clock = { s.clock with paused := true } ∧ s.clock.valid = true ∨
    ∃ (p : GatePoint) (cls : Nat), s.start.config.isSome = true ∧ p.tenths < s.rollTenths ∧ cls ≤ 3 ∧
      (s.clock.valid = false ∧ (s.takeTime payload).clock = ⟨true, false, p.window, p.tenths, cls, cls⟩ ∨
        s.clock.valid = true ∧ 0 ≤ winDist s.clock.window p.window ∧
          (s.takeTime payload).clock = ⟨true, false, p.window, p.tenths,
            if winDist s.clock.window p.window = 0 then s.clock.curClass else s.clock.nextClass, cls⟩) := by
  unfold State.takeTime
  split
  · simp
  · rename_i p cls _
    split
    · simp
    · rename_i hform
      simp only [Bool.or_eq_true, decide_eq_true_eq, not_or, not_le, not_lt, Option.isNone_iff_eq_none] at hform
      obtain ⟨⟨hconfig, htenths⟩, hcls⟩ := hform
      have hsome : s.start.config.isSome = true := Option.isSome_iff_ne_none.2 hconfig
      cases hvalid : s.clock.valid with
      | false => exact .inr (.inr ⟨p, cls, hsome, htenths, hcls, .inl ⟨rfl, State.firstTime_clock p cls s⟩⟩)
      | true =>
        simp only [Bool.not_true, Bool.false_eq_true, if_false]
        split
        · exact .inr (.inl ⟨rfl, trivial⟩)
        · rename_i hearlier
          have hahead : 0 ≤ winDist s.clock.window p.window := by
            simp only [State.isEarlier, decide_eq_true_eq, not_or, not_lt] at hearlier
            exact hearlier.1
          exact .inr (.inr ⟨p, cls, hsome, htenths, hcls, .inr ⟨trivial, hahead, by
            rw [State.adoptTime_clock cls hahead, hvalid]⟩⟩)

/-! ### The window never moves back (R11) -/

theorem winDist_self (a : Window) : winDist a a = 0 := by simp [winDist]

theorem winDist_succ (a : Window) : winDist a (a + 1) = 1 := by
  have h : a + 1 - a = 1 := by bv_omega
  rw [winDist, h]
  rfl

/-- A reset leaves the clock not valid, and one that does not come about leaves the clock and the configuration (R11). -/
theorem exec_reset_clock {c : Instr} {s t : State} (h : exec c s = .next t)
    (hc : (∃ high p, c = .powerOn high p) ∨ c = .lineReset ∨ ∃ p, c = .resetReqFrame p) :
    (t.clock = s.clock ∧ t.start.config = s.start.config) ∨ t.clock = .initial := by
  rcases hc with ⟨high, p, rfl⟩ | rfl | ⟨p, rfl⟩ <;> injection h with h <;> subst h
  · right
    unfold State.powerUp
    dsimp only
    split <;> simp [State.enterReset]
  · unfold State.lineResetTaken
    split
    · exact .inr (by simp [State.enterReset])
    · exact .inl ⟨rfl, rfl⟩
  · refine State.onFrame_induct (fun t => (t.clock = s.clock ∧ t.start.config = s.start.config) ∨ t.clock = .initial)
      (.inl ⟨rfl, rfl⟩) fun f rest => ?_
    unfold State.takeResetReq
    repeat' split
    · exact .inl (by simp)
    · exact .inr (by simp [State.enterReset])
    · exact .inl (by simp [State.setResetPending])

/-- Settles O14: of the commands that move the clock, a roll and an adoption move it ahead, and a reset makes it not valid. -/
theorem windowNeverMovesBack : Obligations.WindowNeverMovesBack := by
  intro c s t h hs ht
  have hstay : t.clock.window = s.clock.window → 0 ≤ winDist s.clock.window t.clock.window := by
    intro hw
    rw [hw, winDist_self]
  by_cases hreset : (∃ high p, c = .powerOn high p) ∨ c = .lineReset ∨ ∃ p, c = .resetReqFrame p
  · rcases exec_reset_clock h hreset with ⟨hclock, -⟩ | hclock
    · exact hstay (by rw [hclock])
    · rw [hclock] at ht
      cases ht
  · simp only [not_or, not_exists] at hreset
    obtain ⟨hpower, hline, hreq⟩ := hreset
    by_cases htenth : c = .tenthsRise
    · subst htenth
      injection h with h
      subst h
      apply hstay
      unfold State.tenthPasses
      split <;> rfl
    · by_cases hroll : c = .windowRoll
      · subst hroll
        injection h with h
        subst h
        unfold State.rollDue
        split
        · rw [State.oneRoll_clock, winDist_succ]
          decide
        · rw [winDist_self]
      · by_cases htime : c = .timeFrame
        · subst htime
          injection h with h
          subst h
          refine State.onFrame_induct (fun t => 0 ≤ winDist s.clock.window t.clock.window) (by rw [winDist_self])
            fun f rest => ?_
          rcases State.takeTime_clock f.payload (s.handedOn f rest) with hc | ⟨hc, -⟩ |
            ⟨p, cls, -, -, -, ⟨hv, -⟩ | ⟨-, hahead, hc⟩⟩
          · rw [hc]
            exact (winDist_self _).ge
          · rw [hc]
            exact (winDist_self _).ge
          · exact absurd (hs.symm.trans hv) (by decide)
          · rw [hc]
            exact hahead
        · exact hstay (by rw [exec_clock h hpower hline hreq htenth hroll htime])

/-! ### The limits of the configuration (R111, R112, R132, R178) -/

/-- A part of the configuration within its limits. -/
def ConfigPart.withinLimits : ConfigPart → Prop
  | .general g => g.withinLimits
  | .zones zs => zonesWithinLimits zs
  | .profilesA ps | .profilesB ps => profilesWithinLimits 2 ps
  | .blocks bs => blocksWithinLimits bs

theorem clamp_le {lo hi : Nat} (h : lo ≤ hi) (n : Nat) : clamp lo hi n ≤ hi := by unfold clamp; omega

theorem le_clamp (lo hi n : Nat) : lo ≤ clamp lo hi n := by unfold clamp; omega

/-- Of many items read, there are as many as were asked for, and each has what every item read has. -/
theorem takeMany_forall {α : Type} {item : List Byte → Option (α × List Byte)} {P : α → Prop}
    (hitem : ∀ bs a rest, item bs = some (a, rest) → P a) {n : Nat} {bs rest : List Byte} {as : List α}
    (h : takeMany item n bs = some (as, rest)) : as.length = n ∧ ∀ a ∈ as, P a := by
  induction n generalizing bs as rest with
  | zero => cases h; exact ⟨rfl, by simp⟩
  | succ n ih =>
    unfold takeMany at h
    split at h
    · cases h
    · rename_i a rest' ha
      simp only [Option.map_eq_some_iff, Prod.exists, Prod.mk.injEq] at h
      obtain ⟨as', r, has, rfl, rfl⟩ := h
      obtain ⟨hlength, hall⟩ := ih has
      exact ⟨by simp [hlength], List.forall_mem_cons.2 ⟨hitem _ _ _ ha, hall⟩⟩

/-- A part read whole is what was read. -/
theorem wholePart_eq_some {α β : Type} {f : α → β} {o : Option (α × List Byte)} {b : β} (h : wholePart f o = some b) :
    ∃ a rest, o = some (a, rest) ∧ b = f a := by
  unfold wholePart at h
  split at h
  · rename_i a rest
    split at h
    · cases h; exact ⟨a, rest, rfl, rfl⟩
    · cases h
  · cases h

theorem generalForm_withinLimits {bs : List Byte} {g : General} (h : generalForm bs = some g) : g.withinLimits := by
  unfold generalForm at h
  split at h
  · split at h
    · cases h
    · dsimp only at h
      split at h
      · rename_i hmem
        rw [Bool.and_eq_true, decide_eq_true_eq, decide_eq_true_eq] at hmem
        cases h
        have h2 := clamp_le (by decide : 0 ≤ 15)
        refine ⟨hmem.1, clamp_le (by decide) _, clamp_le (by decide) _, rfl, ?_, h2 _, clamp_le (by decide) _,
          le_clamp _ _ _, clamp_le (by decide) _, clamp_le (by decide) _, hmem.2, le_max_right _ _,
          max_le (clamp_le (by decide) _) (clamp_le (by decide) _), le_clamp _ _ _, clamp_le (by decide) _⟩
        simp [h2]
      · cases h
  · cases h

theorem takeZone_withinLimits {bs rest : List Byte} {z : Zone} (h : takeZone bs = some (z, rest)) :
    z.offset ≤ 1023 ∧ z.tolerance ≤ 63 ∧ 1 ≤ z.weight ∧ z.weight ≤ 4 := by
  unfold takeZone at h
  split at h
  · split at h
    · cases h
      exact ⟨clamp_le (by decide) _, clamp_le (by decide) _, le_clamp _ _ _, clamp_le (by decide) _⟩
    · cases h
  · cases h

theorem takeDistance_le {bs rest : List Byte} {d : Nat} (h : takeDistance bs = some (d, rest)) : d ≤ 2047 := by
  unfold takeDistance at h
  simp only [Option.map_eq_some_iff, Prod.exists, Prod.mk.injEq] at h
  obtain ⟨n, r, -, rfl, -⟩ := h
  exact clamp_le (by decide) _

theorem takeProfiles_withinLimits {bs rest : List Byte} {ps : List (List Nat)}
    (h : takeMany (takeMany takeDistance 12) 2 bs = some (ps, rest)) : profilesWithinLimits 2 ps :=
  takeMany_forall (fun _ _ _ hp => takeMany_forall (fun _ _ _ hd => takeDistance_le hd) hp) h

theorem takeBlockEntry_withinLimits {bs rest : List Byte} {b : BlockEntry} (h : takeBlockEntry bs = some (b, rest)) :
    b.cap ≤ 255 ∧ b.count = 0 := by
  unfold takeBlockEntry at h
  split at h
  · simp only [Option.map_eq_some_iff, Prod.mk.injEq] at h
    obtain ⟨kind, -, rfl, -⟩ := h
    exact ⟨clamp_le (by decide) _, rfl⟩
  · cases h

/-- A part of sound form is within its limits (R177, R178). -/
theorem configForm_withinLimits {payload : List Byte} {part : ConfigPart} (h : configForm payload = some part) :
    part.withinLimits := by
  unfold configForm at h
  split at h
  · cases h
  · split at h
    · rw [Option.map_eq_some_iff] at h
      obtain ⟨g, hg, rfl⟩ := h
      exact generalForm_withinLimits hg
    · obtain ⟨zs, rest, hzs, rfl⟩ := wholePart_eq_some h
      exact takeMany_forall (fun _ _ _ => takeZone_withinLimits) hzs
    · obtain ⟨ps, rest, hps, rfl⟩ := wholePart_eq_some h
      exact takeProfiles_withinLimits hps
    · obtain ⟨ps, rest, hps, rfl⟩ := wholePart_eq_some h
      exact takeProfiles_withinLimits hps
    · split at h
      · rename_i n rest
        split at h
        · rename_i hn
          split at h
          · rename_i bs left hbs
            split at h
            · rename_i hsound
              cases h
              obtain ⟨hlength, hall⟩ := takeMany_forall (fun _ _ _ => takeBlockEntry_withinLimits) hbs
              simp only [Bool.and_eq_true, decide_eq_true_eq] at hn hsound
              exact ⟨hsound.2, by omega, by omega, hall⟩
            · cases h
          · cases h
        · cases h
      · cases h
    · cases h

/-! ### The configuration stays within its limits -/

/-- The parts of an assembly are within their limits. -/
def Assembly.withinLimits (a : Assembly) : Prop :=
  (∀ g, a.general = some g → g.withinLimits) ∧ (∀ zs, a.zones = some zs → zonesWithinLimits zs) ∧
    (∀ ps, a.profilesA = some ps → profilesWithinLimits 2 ps) ∧
    (∀ ps, a.profilesB = some ps → profilesWithinLimits 2 ps) ∧ ∀ bs, a.blocks = some bs → blocksWithinLimits bs

/-- A configuration is within its limits. -/
def LaneConfig.withinLimits (c : LaneConfig) : Prop :=
  c.general.withinLimits ∧ zonesWithinLimits c.zones ∧ profilesWithinLimits 4 c.profiles

theorem State.configSound_iff (s : State) : s.configSound ↔
    s.start.assembly.withinLimits ∧ ∀ c, s.start.config = some c → c.withinLimits := by
  simp only [State.configSound, Assembly.withinLimits, LaneConfig.withinLimits, and_assoc]

theorem Assembly.empty_withinLimits : Assembly.empty.withinLimits := by
  refine ⟨?_, ?_, ?_, ?_, ?_⟩ <;> intro _ h <;> cases h

/-- A part held keeps the assembly within its limits. -/
theorem Assembly.withinLimits.hold {a : Assembly} {part : ConfigPart} (ha : a.withinLimits) (hpart : part.withinLimits) :
    (a.hold part).withinLimits := by
  obtain ⟨hg, hz, hpa, hpb, hb⟩ := ha
  cases part with
  | general g => exact ⟨fun _ h => by cases h; exact hpart, hz, hpa, hpb, hb⟩
  | zones zs => exact ⟨hg, fun _ h => by cases h; exact hpart, hpa, hpb, hb⟩
  | profilesA ps => exact ⟨hg, hz, fun _ h => by cases h; exact hpart, hpb, hb⟩
  | profilesB ps => exact ⟨hg, hz, hpa, fun _ h => by cases h; exact hpart, hb⟩
  | blocks bs => exact ⟨hg, hz, hpa, hpb, fun _ h => by cases h; exact hpart⟩

/-- The two profile parts together. -/
theorem profilesWithinLimits_append {pa pb : List (List Nat)} (ha : profilesWithinLimits 2 pa)
    (hb : profilesWithinLimits 2 pb) : profilesWithinLimits 4 (pa ++ pb) :=
  ⟨by rw [List.length_append, ha.1, hb.1], List.forall_mem_append.2 ⟨ha.2, hb.2⟩⟩

/-- The fixing makes the configuration of the parts held (R177, R179). -/
theorem State.fixIfComplete_config (s : State) : s.fixIfComplete.start.assembly = s.start.assembly ∧
    (s.fixIfComplete = s ∨ ∃ g zs pa pb bs, s.start.assembly = ⟨some g, some zs, some pa, some pb, some bs⟩ ∧
      s.fixIfComplete.start.config = some ⟨g, zs, pa ++ pb⟩) := by
  unfold State.fixIfComplete
  split
  · rename_i g zs pa pb bs ha
    exact ⟨by simp [State.fixConfig], .inr ⟨g, zs, pa, pb, bs, ha, by simp [State.fixConfig]⟩⟩
  · exact ⟨rfl, .inl rfl⟩

theorem State.configSound.of_start {s t : State} (h : s.configSound) (hassembly : t.start.assembly = s.start.assembly)
    (hconfig : t.start.config = s.start.config) : t.configSound := by
  unfold State.configSound
  rwa [hassembly, hconfig]

/-- A CONFIG frame keeps what is held and fixed within the limits. -/
theorem State.configSound.takeConfig {s : State} (h : s.configSound) (payload : List Byte) :
    (s.takeConfig payload).configSound := by
  by_cases hignored : s.start.config.isSome = true ∨ configForm payload = none
  · rw [State.takeConfig_ignored hignored]
    exact h.of_start (by simp) (by simp)
  · simp only [not_or, Bool.not_eq_true, Option.isSome_eq_false_iff, Option.isNone_iff_eq_none] at hignored
    obtain ⟨hnone, hform⟩ := hignored
    obtain ⟨part, hpart⟩ := Option.ne_none_iff_exists'.1 hform
    rw [State.takeConfig_held hnone hpart, State.configSound_iff]
    have hheld := ((State.configSound_iff s).1 h).1.hold (configForm_withinLimits hpart)
    obtain ⟨hassembly, hsame | ⟨g, zs, pa, pb, bs, hall, hconfig⟩⟩ := State.fixIfComplete_config
      { s with start := { s.start with assembly := s.start.assembly.hold part } }
    · rw [hsame]
      exact ⟨hheld, fun c hc => by rw [hnone] at hc; cases hc⟩
    · rw [hassembly]
      refine ⟨hheld, fun c hc => ?_⟩
      dsimp only at hall
      rw [hall] at hheld
      obtain ⟨hg, hz, hpa, hpb, -⟩ := hheld
      rw [hconfig] at hc
      cases hc
      exact ⟨hg _ rfl, hz _ rfl, profilesWithinLimits_append (hpa _ rfl) (hpb _ rfl)⟩

/-- The device held in reset has no part and no configuration. -/
theorem State.configSound_of_reset {s : State} (hassembly : s.start.assembly = .empty) (hconfig : s.start.config = none) :
    s.configSound := by
  rw [State.configSound_iff, hassembly, hconfig]
  exact ⟨Assembly.empty_withinLimits, fun c hc => by cases hc⟩

/-- The end of a reset leaves the parts and the configuration. -/
theorem State.endReset_assembly_config (p : Straps) (s : State) :
    (s.endReset p).start.assembly = s.start.assembly ∧ (s.endReset p).start.config = s.start.config := by
  unfold State.endReset
  dsimp only
  split <;> simp [State.sampleStraps]

/-- Every command keeps the configuration within its limits. -/
theorem State.configSound.exec {c : Instr} {s t : State} (h : s.configSound) (hexec : exec c s = .next t) :
    t.configSound := by
  by_cases hstart : c.actsOnStart = false
  · obtain ⟨-, -, -, hassembly, hconfig⟩ := exec_sameStart hexec hstart
    exact h.of_start hassembly hconfig
  · cases c <;> try exact absurd rfl hstart
    case powerOn high p =>
      injection hexec with hexec
      subst hexec
      unfold State.powerUp
      dsimp only
      split
      · obtain ⟨hassembly, hconfig⟩ :=
          State.endReset_assembly_config p ((s.enterReset .power 0).setResetPin high .stopped)
        exact State.configSound_of_reset hassembly hconfig
      · exact State.configSound_of_reset rfl rfl
    case lineReset =>
      injection hexec with hexec
      subst hexec
      unfold State.lineResetTaken
      split
      · exact State.configSound_of_reset rfl rfl
      · exact h
    case resetReqFrame p =>
      injection hexec with hexec
      subst hexec
      refine State.onFrame_induct State.configSound h fun f rest => ?_
      obtain ⟨-, -, -, hassembly, hconfig⟩ := State.handedOn_start s f rest
      unfold State.takeResetReq
      repeat' split
      · exact h.of_start (by simp) (by simp)
      · obtain ⟨hassembly, hconfig⟩ := State.endReset_assembly_config p
          ((s.handedOn f rest).enterReset .request (s.handedOn f rest).placesUsed)
        exact State.configSound_of_reset hassembly hconfig
      · exact h.of_start hassembly hconfig
    case resetNRelease p =>
      injection hexec with hexec
      subst hexec
      unfold State.resetPinRises
      dsimp only
      repeat' split
      · exact h
      · obtain ⟨hassembly, hconfig⟩ := State.endReset_assembly_config p (s.setResetPin true .stopped)
        exact h.of_start hassembly hconfig
      · exact h
    case configFrame =>
      injection hexec with hexec
      subst hexec
      refine State.onFrame_induct State.configSound h fun f rest => ?_
      obtain ⟨-, -, -, hassembly, hconfig⟩ := State.handedOn_start s f rest
      exact (h.of_start hassembly hconfig).takeConfig f.payload

/-! ### The clock stays in its window -/

theorem State.general_of_config {s : State} {c : LaneConfig} (h : s.start.config = some c) : s.general = c.general := by
  rw [State.general, h]

/-- A configured window has tenths (R178). -/
theorem General.withinLimits.windowTenths_pos {g : General} (h : g.withinLimits) : 0 < windowTenths g.windowMinutes := by
  obtain ⟨hminutes, -⟩ := h
  simp only [List.mem_cons, List.not_mem_nil, or_false] at hminutes
  unfold windowTenths
  omega

theorem State.clockSound.of_same {s t : State} (h : s.clockSound) (hclock : t.clock = s.clock)
    (hconfig : ∀ c, s.start.config = some c → t.start.config = some c) : t.clockSound := by
  unfold State.clockSound
  rw [hclock]
  refine ⟨fun hv => ?_, h.2⟩
  obtain ⟨c, hc, hrange⟩ := h.1 hv
  exact ⟨c, hconfig c hc, hrange⟩

theorem State.clockSound_initial {s : State} (h : s.clock = .initial) : s.clockSound := by
  unfold State.clockSound
  rw [h]
  exact ⟨(nomatch ·), fun _ => rfl⟩

/-- A valid clock in its range under a configuration is sound. -/
theorem State.clockSound_valid {s : State} {c : LaneConfig} (hconfig : s.start.config = some c)
    (hvalid : s.clock.valid = true) (htenths : s.clock.tenths < windowTenths c.general.windowMinutes)
    (hcur : s.clock.curClass ≤ 3) (hnext : s.clock.nextClass ≤ 3) : s.clockSound :=
  ⟨fun _ => ⟨c, hconfig, htenths, hcur, hnext⟩, fun h => by rw [hvalid] at h; cases h⟩

theorem State.clockSound.tenthPasses {s : State} (h : s.clockSound) : s.tenthPasses.clockSound := by
  unfold State.tenthPasses
  split
  · rename_i hdue
    simp only [State.clockRuns, Bool.and_eq_true, decide_eq_true_eq] at hdue
    obtain ⟨⟨hvalid, -⟩, htenths⟩ := hdue
    obtain ⟨c, hc, -, hcur, hnext⟩ := h.1 hvalid
    rw [State.rollTenths, State.general_of_config hc] at htenths
    exact State.clockSound_valid (s := s.setClock { s.clock with tenths := s.clock.tenths + 1 }) hc hvalid htenths hcur
      hnext
  · exact h

theorem State.clockSound.rollDue {s : State} (hconfig : s.configSound) (h : s.clockSound) : s.rollDue.clockSound := by
  unfold State.rollDue
  split
  · rename_i hdue
    simp only [State.clockRuns, Bool.and_eq_true] at hdue
    obtain ⟨⟨hvalid, -⟩, -⟩ := hdue
    obtain ⟨c, hc, -, -, hnext⟩ := h.1 hvalid
    have hlimits := (((State.configSound_iff s).1 hconfig).2 c hc).1
    refine State.clockSound_valid (c := c) (by simpa using hc) ?_ ?_ ?_ ?_ <;> rw [State.oneRoll_clock]
    · exact hvalid
    · exact hlimits.windowTenths_pos
    · exact hnext
    · exact hnext
  · exact h

theorem State.clockSound.takeTime {s : State} (h : s.clockSound) (payload : List Byte) :
    (s.takeTime payload).clockSound := by
  have hstart := (State.takeTime_frame payload s).1
  rcases State.takeTime_clock payload s with hclock | ⟨hclock, hvalid⟩ | ⟨p, cls, hconfig, htenths, hcls, hclock⟩
  · exact h.of_same hclock fun c hc => by rw [hstart, hc]
  · obtain ⟨c, hc, hrange⟩ := h.1 hvalid
    refine State.clockSound_valid (c := c) (by rw [hstart, hc]) ?_ ?_ ?_ ?_ <;> rw [hclock]
    · exact hvalid
    · exact hrange.1
    · exact hrange.2.1
    · exact hrange.2.2
  · obtain ⟨c, hc⟩ := Option.isSome_iff_exists.1 hconfig
    rw [State.rollTenths, State.general_of_config hc] at htenths
    rcases hclock with ⟨-, hclock⟩ | ⟨hvalid, -, hclock⟩
    · refine State.clockSound_valid (c := c) (by rw [hstart, hc]) ?_ ?_ ?_ ?_ <;> rw [hclock]
      · exact htenths
      · exact hcls
      · exact hcls
    · obtain ⟨c', -, -, hcur, hnext⟩ := h.1 hvalid
      refine State.clockSound_valid (c := c) (by rw [hstart, hc]) ?_ ?_ ?_ ?_ <;> rw [hclock]
      · exact htenths
      · dsimp only
        split
        · exact hcur
        · exact hnext
      · exact hcls

/-- Every command keeps the clock in its window. -/
theorem State.clockSound.exec {c : Instr} {s t : State} (hconfig : s.configSound) (h : s.clockSound)
    (hexec : exec c s = .next t) : t.clockSound := by
  by_cases hreset : (∃ high p, c = .powerOn high p) ∨ c = .lineReset ∨ ∃ p, c = .resetReqFrame p
  · rcases exec_reset_clock hexec hreset with ⟨hclock, hsame⟩ | hclock
    · exact h.of_same hclock fun _ hc => hsame.trans hc
    · exact State.clockSound_initial hclock
  · simp only [not_or, not_exists] at hreset
    obtain ⟨hpower, hline, hreq⟩ := hreset
    by_cases hmoves : c = .tenthsRise ∨ c = .windowRoll ∨ c = .timeFrame
    · rcases hmoves with rfl | rfl | rfl <;> injection hexec with hexec <;> subst hexec
      · exact h.tenthPasses
      · exact h.rollDue hconfig
      · refine State.onFrame_induct State.clockSound h fun f rest => ?_
        exact (h.of_same (t := s.handedOn f rest) rfl fun c hc => by simp [hc]).takeTime f.payload
    · simp only [not_or] at hmoves
      obtain ⟨htenth, hroll, htime⟩ := hmoves
      exact h.of_same (exec_clock hexec hpower hline hreq htenth hroll htime)
        fun _ hc => exec_config hexec hpower hline hreq hc

/-- Settles O11: each part is clamped as it is read, and the clock moves only inside its window. -/
theorem configurationAndClockStayInRange : Obligations.ConfigurationAndClockStayInRange := by
  refine ⟨fun s t => step_keeps (fun _ _ h => h) (fun _ _ _ h hexec => h.exec hexec) s t, fun s t hconfig hclock h => ?_⟩
  exact (step_keeps (P := fun s => s.configSound ∧ s.clockSound) (fun _ _ h => h)
    (fun _ _ _ h hexec => ⟨h.1.exec hexec, h.2.exec h.1 hexec⟩) s t ⟨hconfig, hclock⟩ h).2

/-! ### The device held in reset (R6, R180) -/

/-- The commands that the device held in reset hears: those of the supply and of RESET_N, and a change of a pin. -/
def heardInReset : Instr → Bool
  | .powerOn _ _ | .resetNFall | .lineReset | .resetNRelease _ | .lineLevelChange _ _ => true
  | _ => false

/-- Held in reset, the device does nothing at any other command. -/
theorem exec_resetImage {c : Instr} (hc : heardInReset c = false) (s : State) (pin : Bool) (qual : Timer)
    (cause : ResetCause) (lost : Nat) :
    exec c (s.resetImage pin qual cause lost) = .next (s.resetImage pin qual cause lost) := by
  cases c
  case powerOn | resetNFall | lineReset | resetNRelease | lineLevelChange => cases hc
  case holdingBufferExpiry ch => cases ch <;> rfl
  case displayUnusableAnswer b =>
    show Host.Outcome.next ((s.resetImage pin qual cause lost).displayByte b) = _
    unfold State.displayByte
    split <;> rfl
  all_goals rfl

/-- A pin change of the held device. -/
theorem State.pinChange_resetImage (s : State) (l : Line) (high pin : Bool) (qual : Timer) (cause : ResetCause)
    (lost : Nat) : ∃ s' : State,
      (s.resetImage pin qual cause lost).pinChange l high = s'.resetImage pin qual cause lost := by
  unfold State.pinChange
  split
  · exact ⟨s, rfl⟩
  · exact ⟨{ s with line := { s.line with pins := s.line.pins.put l high } }, rfl⟩

/-- A reset image is held and sound. -/
theorem State.heldSound_resetImage (s : State) (pin : Bool) (qual : Timer) (cause : ResetCause) (lost : Nat) :
    (s.resetImage pin qual cause lost).heldSound := fun _ => rfl

theorem State.heldSound_of_running {s : State} (h : s.start.phase = .running) : s.heldSound := by
  intro hheld
  rw [h] at hheld
  cases hheld

/-- The end of a reset sets the device running. -/
theorem State.endReset_phase (p : Straps) (s : State) : (s.endReset p).start.phase = .running := by
  unfold State.endReset
  dsimp only
  split <;> simp [State.sampleStraps]

/-- The commands of the supply and of RESET_N, and those of Start Control, keep a held device at its reset values. -/
theorem State.heldSound.execStart {c : Instr} {s t : State} (h : s.heldSound) (hexec : exec c s = .next t)
    (hc : c.actsOnStart = true) (hrunning : s.start.phase = .running ∨ heardInReset c = true) : t.heldSound := by
  cases c <;> try (cases hc; done)
  case powerOn high p =>
    injection hexec with hexec
    subst hexec
    unfold State.powerUp
    dsimp only
    split
    · exact State.heldSound_of_running (State.endReset_phase _ _)
    · exact State.heldSound_resetImage s high .stopped .power 0
  case lineReset =>
    injection hexec with hexec
    subst hexec
    unfold State.lineResetTaken
    split
    · exact State.heldSound_resetImage s false .stopped .line s.placesUsed
    · exact h
  case resetNRelease p =>
    injection hexec with hexec
    subst hexec
    unfold State.resetPinRises
    dsimp only
    repeat' split
    · exact h
    · exact State.heldSound_of_running (State.endReset_phase _ _)
    · rename_i hphase
      exact fun hheld => absurd hheld hphase
  case configFrame =>
    have hrun : s.start.phase = .running := hrunning.resolve_right (by decide)
    injection hexec with hexec
    subst hexec
    refine State.onFrame_induct State.heldSound h fun f rest => State.heldSound_of_running ?_
    have hrun' : (s.handedOn f rest).start.phase = .running := by simp [hrun]
    unfold State.takeConfig State.fixIfComplete
    repeat' split
    all_goals simp [hrun, State.fixConfig]
  case resetReqFrame p =>
    have hrun : s.start.phase = .running := hrunning.resolve_right (by simp [heardInReset])
    injection hexec with hexec
    subst hexec
    refine State.onFrame_induct State.heldSound h fun f rest => State.heldSound_of_running ?_
    have hrun' : (s.handedOn f rest).start.phase = .running := by simp [hrun]
    unfold State.takeResetReq
    repeat' split
    · simp [hrun]
    · exact State.endReset_phase _ _
    · exact hrun'

/-- Every command keeps a held device at its reset values. -/
theorem State.heldSound.exec {c : Instr} {s t : State} (h : s.heldSound) (hexec : exec c s = .next t) : t.heldSound := by
  cases hphase : s.start.phase with
  | running =>
    cases hstart : c.actsOnStart with
    | false => exact State.heldSound_of_running ((exec_sameStart hexec hstart).1.trans hphase)
    | true => exact h.execStart hexec hstart (.inl hphase)
  | held =>
    cases hheard : heardInReset c with
    | false =>
      rw [h hphase, exec_resetImage hheard] at hexec
      cases hexec
      exact State.heldSound_resetImage _ _ _ _ _
    | true =>
      cases c <;> try (cases hheard; done)
      case powerOn | lineReset | resetNRelease => exact h.execStart hexec rfl (.inr rfl)
      case resetNFall =>
        rw [h hphase] at hexec
        injection hexec with hexec
        subst hexec
        unfold State.resetPinFalls
        split
        · exact State.heldSound_resetImage s false (.running 10) _ _
        · exact State.heldSound_resetImage _ _ _ _ _
      case lineLevelChange l high =>
        rw [h hphase] at hexec
        injection hexec with hexec
        obtain ⟨s', hs'⟩ := State.pinChange_resetImage s l high s.start.resetPin s.start.resetQual s.start.cause
          s.start.placesLost
        rw [← hexec, hs']
        exact State.heldSound_resetImage _ _ _ _ _

/-- Settles O12: held in reset, the device only hears the supply, RESET_N and its pins. -/
theorem heldDeviceStaysAtReset : Obligations.HeldDeviceStaysAtReset := by
  refine step_keeps (fun s cs h => ?_) (fun _ _ _ h hexec => h.exec hexec)
  intro hheld
  have hs := h hheld
  exact congrArg (fun u : State => { u with pending := cs }) hs

end Sys2Proof.Machine
end

section
/-! PROOFS. ALERT_N follows the unmasked flags and the strap fault (R5, R156): each operation that touches the alert flags keeps the
agreement, the chains of operations by the agreement of their links. -/

namespace Sys2Proof.Machine

/-! ### What the agreement rests on -/

section
variable {s t : State} {n : VisitNumber} {f : TxFrame} {k : Counter} {o : OutboxOwner} {c : LaneId} {w : Window} {b : Byte}

/-- The agreement rests on the strap fault, the mask, which flags are set, and ALERT_N. -/
theorem State.alertSound.of_same (h : s.alertSound) (hstart : t.start = s.start) (houtcome : t.outcome = s.outcome) :
    t.alertSound := by
  unfold State.alertSound State.alertDue State.flagWord State.flag State.alertMask
  rw [hstart, houtcome]
  exact h

/-- A flag's state put where it leaves set what was set leaves the flag set. -/
theorem State.putFlag_flagWord {f : AlertFlag} {st : FlagState} (h : st.isSet = (s.flag f).isSet) :
    (s.putFlag f st).flagWord = s.flagWord := by
  have hget : ∀ g, ((s.putFlag f st).flag g).isSet = (s.flag g).isSet := by
    intro g
    by_cases hg : g = f
    · subst hg
      rw [← h]
      cases g <;> rfl
    · cases f <;> cases g <;> first | rfl | exact absurd rfl hg
  unfold State.flagWord
  simp only [hget]
  rfl

theorem State.alertSound.putFlag {f : AlertFlag} {st : FlagState} (h : s.alertSound) (hst : st.isSet = (s.flag f).isSet) :
    (s.putFlag f st).alertSound := by
  unfold State.alertSound State.alertDue
  rw [State.putFlag_flagWord hst]
  exact h

theorem State.driveAlertN_alertSound (s : State) : s.driveAlertN.alertSound := rfl

theorem State.alertSound.handStatus (h : s.alertSound) : s.handStatus.alertSound := by
  unfold State.handStatus
  split <;> exact h

theorem State.alertSound.reportStatus (h : s.alertSound) : s.reportStatus.alertSound := by
  unfold State.reportStatus
  split
  · exact h
  · exact h.handStatus

/-- A change of the flag set drives ALERT_N afresh (R156). -/
theorem State.flagSetChanged_alertSound (s : State) : s.flagSetChanged.alertSound :=
  (State.driveAlertN_alertSound s).reportStatus

theorem State.alertSound.latch {f : AlertFlag} (h : s.alertSound) : (s.latch f).alertSound := by
  unfold State.latch
  split
  · rename_i hset
    exact h.putFlag hset.symm
  · exact State.flagSetChanged_alertSound _

theorem State.alertSound.endCondition {f : AlertFlag} (h : s.alertSound) : (s.endCondition f).alertSound := h.putFlag rfl

theorem State.alertSound.markCondition {f : AlertFlag} {b : Bool} (h : s.alertSound) :
    (s.markCondition f b).alertSound := by
  unfold State.markCondition
  split
  · rename_i hset
    exact h.putFlag hset.symm
  · exact h

theorem State.alertSound.setHoldWaiting {b : Bool} (h : s.alertSound) : (s.setHoldWaiting b).alertSound := by
  unfold State.setHoldWaiting
  split
  · exact h
  · exact State.flagSetChanged_alertSound _

theorem State.alertSound.reportHolds (h : s.alertSound) : s.reportHolds.alertSound := h.setHoldWaiting

/-! ### Counters, frames handed over, places -/

theorem State.alertSound.setCounters {c : Counters} (h : s.alertSound) : (s.setCounters c).alertSound := h

theorem State.alertSound.count (h : s.alertSound) : (s.count k).alertSound := by
  unfold State.count
  dsimp only
  split
  · exact h.setCounters.latch
  · exact h.setCounters

theorem State.alertSound.addBack {c : Counters} (h : s.alertSound) : (s.addBack c).alertSound := by
  unfold State.addBack
  dsimp only
  split
  · exact h.setCounters.latch
  · exact h.setCounters

theorem State.alertSound.overflowSense (h : s.alertSound) : s.overflowSense.alertSound := h.markCondition

theorem State.alertSound.arrivalLost (h : s.alertSound) : s.arrivalLost.alertSound := h.count.latch.overflowSense

theorem State.alertSound.displaced (h : s.alertSound) : (s.displaced f).alertSound := by
  cases f
  case counters => exact h.addBack
  all_goals exact h

theorem State.alertSound.setTxQueue {q : List TxEntry} (h : s.alertSound) : (s.setTxQueue q).alertSound := h

theorem State.alertSound.setOutboxes {os : List OutboxEntry} (h : s.alertSound) : (s.setOutboxes os).alertSound := h

theorem State.alertSound.enqueue (h : s.alertSound) : (s.enqueue f).alertSound := h

theorem State.alertSound.handClass0 (h : s.alertSound) : (s.handClass0 o f).alertSound := by
  unfold State.handClass0
  repeat' split
  · exact h.enqueue
  · exact h.setTxQueue.displaced
  · exact h.setTxQueue.setOutboxes.displaced
  · exact h.setOutboxes
  · exact h

theorem State.alertSound.handNote {x : Text} (h : s.alertSound) : (s.handNote x w).alertSound := by
  unfold State.handNote
  split
  · exact h.count
  · exact h.enqueue

theorem State.alertSound.handCounters {c : Counters} (h : s.alertSound) : (s.handCounters c).alertSound := by
  unfold State.handCounters
  split
  · exact h.addBack
  · exact h.enqueue

theorem State.alertSound.offerOutcome (h : s.alertSound) : s.offerOutcome.alertSound := by
  unfold State.offerOutcome
  repeat' split
  all_goals exact h

theorem State.alertSound.reservePlace (h : s.alertSound) : (s.reservePlace n).alertSound := by
  unfold State.reservePlace
  dsimp only
  split
  · exact State.alertSound.latch h
  · exact h

/-! ### Bookings and passes -/

theorem State.alertSound.updVisit {g : Visit → Visit} (h : s.alertSound) : (s.updVisit n g).alertSound := h

theorem State.alertSound.setTable {t : List (Option Booking)} (h : s.alertSound) : (s.setTable t).alertSound := h

theorem State.alertSound.takeBooking {f : BookingForm} (h : s.alertSound) : (s.takeBooking f).alertSound := by
  unfold State.takeBooking State.insertBooking State.replaceBooking
  repeat' split
  all_goals first | exact h.count | exact h.setTable.count | exact h

theorem State.alertSound.takeClaim {b : Booking} (h : s.alertSound) : (s.takeClaim n b).alertSound :=
  h.setTable.updVisit.handClass0

theorem State.alertSound.selectFor {v : Visit} (h : s.alertSound) : (s.selectFor v).2.alertSound := by
  have hconf : (if v.confidence < s.general.plateThreshold then s.updVisit v.number (Visit.addReason .plateLowConf)
      else s).alertSound := by split <;> exact h
  unfold State.selectFor
  dsimp only
  split
  · exact hconf.takeClaim
  · exact hconf.updVisit

theorem State.alertSound.endClaim {r : ClaimResult} (h : s.alertSound) : (s.endClaim n r).alertSound := by
  unfold State.endClaim
  repeat' split
  · exact h
  · exact h
  · exact h.setTable.updVisit.handClass0

theorem State.alertSound.settleDark {d : PassSummary} (h : s.alertSound) : (s.settleDark d).alertSound := by
  unfold State.settleDark
  dsimp only
  repeat' split
  · exact State.alertSound.latch h
  · exact State.alertSound.endCondition h
  · exact h

theorem State.alertSound.setPass {p : Option Pass} (h : s.alertSound) : (s.setPass p).alertSound := h

theorem State.alertSound.endPass (h : s.alertSound) : s.endPass.alertSound := by
  unfold State.endPass
  split
  · exact h
  · exact h.setPass.updVisit.settleDark

theorem State.alertSound.truncatePass (h : s.alertSound) : (s.truncatePass n).alertSound := by
  unfold State.truncatePass
  repeat' split
  · exact h.endPass.updVisit
  · exact h
  · exact h

theorem State.alertSound.scanOccupied (h : s.alertSound) : s.scanOccupied.alertSound := by
  unfold State.scanOccupied
  repeat' split
  · exact h.count
  · exact h
  · exact h
  · exact h

theorem State.alertSound.portalClose (h : s.alertSound) : (s.portalClose n).alertSound := by
  unfold State.portalClose
  dsimp only
  split
  · exact h.truncatePass
  · exact h.truncatePass.selectFor.updVisit

/-! ### Blocks, messages and the barrier -/

theorem State.alertSound.sendNote {x : Text} (h : s.alertSound) : (s.sendNote x).alertSound := by
  unfold State.sendNote
  split
  · exact h.handNote
  · exact h

theorem State.alertSound.setBlocks {bs : List BlockEntry} (h : s.alertSound) : (s.setBlocks bs).alertSound := h

theorem State.alertSound.routeDrop {m : Move} (h : s.alertSound) : (s.routeDrop m).2.alertSound := by
  unfold State.routeDrop
  repeat' split
  · exact h.setBlocks.sendNote
  · exact h.sendNote
  · exact h

theorem State.alertSound.routeDrops {ms : List Move} (h : s.alertSound) : (routeDrops ms s).2.alertSound := by
  induction ms generalizing s with
  | nil => exact h
  | cons m ms ih => exact ih h.routeDrop

theorem State.alertSound.routeVerdict {v : Visit} {vd : Verdict} (h : s.alertSound) :
    (s.routeVerdict v vd).2.alertSound := by
  cases vd
  case admitted => exact h.routeDrops
  all_goals exact h

theorem State.alertSound.placeVisitMessage {m : Message} (h : s.alertSound) : (s.placeVisitMessage m).alertSound :=
  h.of_same (by simp) (by simp)

theorem State.alertSound.barrierSense (h : s.alertSound) : s.barrierSense.alertSound := h.markCondition

theorem State.alertSound.driveRaise {b : Bool} (h : s.alertSound) : (s.driveRaise b).alertSound :=
  State.alertSound.barrierSense h

theorem State.alertSound.barrierSeenUp (h : s.alertSound) : s.barrierSeenUp.alertSound := h.of_same (by simp) (by simp)

theorem State.alertSound.raiseFor (h : s.alertSound) : (s.raiseFor n).alertSound := by
  unfold State.raiseFor
  dsimp only
  split
  · exact State.alertSound.barrierSeenUp (State.alertSound.driveRaise h)
  · exact State.alertSound.driveRaise h

theorem State.alertSound.testRaise (h : s.alertSound) : s.testRaise.alertSound := by
  unfold State.testRaise
  repeat' split
  · exact h
  · exact h.raiseFor
  · exact h

theorem State.alertSound.withdrawRaise (h : s.alertSound) : s.withdrawRaise.alertSound := by
  unfold State.withdrawRaise
  dsimp only
  split <;> exact h.driveRaise (b := false)

theorem State.alertSound.setBarrier {b : Barrier} (h : s.alertSound) : (s.setBarrier b).alertSound := h

theorem State.alertSound.raiseVisitLeaves (h : s.alertSound) : (s.raiseVisitLeaves n).alertSound := by
  unfold State.raiseVisitLeaves
  dsimp only
  repeat' split
  · exact h
  · exact State.alertSound.withdrawRaise h
  · exact h

theorem State.alertSound.yardLoopXVacated (h : s.alertSound) : s.yardLoopXVacated.alertSound := by
  unfold State.yardLoopXVacated
  split
  · exact h.withdrawRaise.testRaise
  · exact h

theorem State.alertSound.barUpUp (h : s.alertSound) : s.barUpUp.alertSound := by
  unfold State.barUpUp
  split
  · exact h.barrierSeenUp.barrierSense
  all_goals first | exact h.barrierSense | exact h.latch.barrierSense

theorem State.alertSound.barUpDown (h : s.alertSound) : s.barUpDown.alertSound := by
  unfold State.barUpDown
  split
  · exact State.alertSound.testRaise (State.alertSound.barrierSense h)
  all_goals first | exact h.barrierSense | exact h.latch.barrierSense

theorem State.alertSound.upCheckExpired (h : s.alertSound) : s.upCheckExpired.alertSound := by
  unfold State.upCheckExpired
  dsimp only
  repeat' split
  · exact State.alertSound.barrierSense (State.alertSound.latch h)
  all_goals exact h

theorem State.alertSound.settleExpired (h : s.alertSound) : s.settleExpired.alertSound := by
  unfold State.settleExpired
  dsimp only
  repeat' split
  · exact State.alertSound.testRaise (State.alertSound.barrierSense (State.alertSound.latch h))
  · exact State.alertSound.testRaise h
  all_goals exact h

theorem State.alertSound.pumpDisplay (h : s.alertSound) : s.pumpDisplay.alertSound := h.of_same (by simp) (by simp)

theorem State.alertSound.joinHeld (h : s.alertSound) : s.joinHeld.alertSound := h.of_same (by simp) (by simp)

theorem State.alertSound.settleDirection {m : Message} (h : s.alertSound) : (s.settleDirection m).alertSound :=
  h.of_same (by simp) (by simp)

theorem State.alertSound.setQueue {q : List Message} (h : s.alertSound) : (s.setQueue q).alertSound := h

theorem State.alertSound.setDisplay {d : DisplayChannel} (h : s.alertSound) : (s.setDisplay d).alertSound := h

theorem State.alertSound.endDelivery {m : Message} (h : s.alertSound) : (s.endDelivery m).alertSound :=
  h.setQueue.joinHeld.settleDirection.testRaise.setDisplay.pumpDisplay

theorem State.alertSound.deliveryAccepted (h : s.alertSound) : s.deliveryAccepted.alertSound := by
  unfold State.deliveryAccepted
  split
  · exact h
  · exact h.endDelivery.endCondition

theorem State.alertSound.deliveryGivenUp (h : s.alertSound) : s.deliveryGivenUp.alertSound := by
  unfold State.deliveryGivenUp
  repeat' split
  · exact h
  · exact h.latch.updVisit.endDelivery
  · exact h.latch.endDelivery

theorem State.alertSound.deliveryBusy (h : s.alertSound) : s.deliveryBusy.alertSound := by
  unfold State.deliveryBusy
  dsimp only
  split
  · exact h
  · exact h.deliveryGivenUp

theorem State.alertSound.displayAnswer {toggle : Bool} {a : Answer} (h : s.alertSound) :
    (s.displayAnswer toggle a).alertSound := by
  unfold State.displayAnswer
  repeat' split
  · exact h.deliveryAccepted
  · exact h.deliveryBusy
  · exact h.deliveryGivenUp
  · exact h

theorem State.alertSound.displayByte (h : s.alertSound) : (s.displayByte b).alertSound := by
  unfold State.displayByte
  split
  · exact h
  · exact h.of_same (by simp) (by simp)
  · exact h.displayAnswer

theorem State.alertSound.answerWaitExpired (h : s.alertSound) : s.answerWaitExpired.alertSound := by
  unfold State.answerWaitExpired
  split
  · exact h.deliveryBusy
  · exact h

/-! ### Visits -/

theorem State.alertSound.setPendingArrivals {m : Nat} (h : s.alertSound) : (s.setPendingArrivals m).alertSound :=
  State.alertSound.overflowSense h

theorem State.alertSound.setMode {m : LaneMode} (h : s.alertSound) : (s.setMode m).alertSound :=
  State.alertSound.reportStatus h

theorem State.alertSound.openVisit {st : SlotState} {rs : List Reason} (h : s.alertSound) :
    (s.openVisit st rs).alertSound := h

theorem State.alertSound.writeVerdict {vd : Verdict} (h : s.alertSound) : (s.writeVerdict n vd).alertSound := h

theorem State.alertSound.giveVerdict {vd : Verdict} (h : s.alertSound) : (s.giveVerdict n vd).alertSound := by
  unfold State.giveVerdict
  split
  · exact h
  · exact (State.alertSound.updVisit (h.writeVerdict.routeVerdict.updVisit.placeVisitMessage)).reportHolds

theorem State.alertSound.giveParkedAdmission {vd : Verdict} (h : s.alertSound) :
    (s.giveParkedAdmission n vd).alertSound := by
  unfold State.giveParkedAdmission
  split
  · exact h
  · exact h.writeVerdict.routeVerdict.updVisit

theorem State.alertSound.refuseVisit (h : s.alertSound) : (s.refuseVisit n).alertSound := by
  unfold State.refuseVisit
  dsimp only
  repeat' split
  · exact h
  · exact h.giveVerdict.endClaim
  · exact h.giveVerdict

theorem State.alertSound.admitWith {src : FlexSource} (h : s.alertSound) : (s.admitWith n src).alertSound := by
  unfold State.admitWith
  split
  · exact h
  · exact h.updVisit.giveVerdict

theorem State.alertSound.enterClerkHold (h : s.alertSound) : (s.enterClerkHold n).alertSound := by
  unfold State.enterClerkHold
  dsimp only
  repeat' split
  · exact h
  · exact h.updVisit.reportHolds
  · exact h.updVisit.placeVisitMessage.reportHolds

theorem State.alertSound.giveNoCapacity (h : s.alertSound) : (s.giveNoCapacity n).alertSound := h.updVisit.enterClerkHold

theorem State.alertSound.enterPlaceHold (h : s.alertSound) : (s.enterPlaceHold n).alertSound :=
  h.updVisit.placeVisitMessage.reportHolds

theorem State.alertSound.openPendingArrival (h : s.alertSound) : s.openPendingArrival.alertSound := by
  unfold State.openPendingArrival
  split
  · exact h.openVisit.setPendingArrivals
  · exact h

theorem State.alertSound.endDraining (h : s.alertSound) : s.endDraining.alertSound := by
  unfold State.endDraining
  split
  · exact h.setMode
  · exact h

theorem State.alertSound.dropMessages (h : s.alertSound) : (s.dropMessages n).alertSound := h.of_same (by simp) (by simp)

theorem State.alertSound.laneLeft (h : s.alertSound) : (s.laneLeft n).alertSound :=
  h.raiseVisitLeaves.dropMessages.openPendingArrival.endDraining.testRaise

theorem State.alertSound.fillPlace {v : Visit} (h : s.alertSound) : (s.fillPlace v).alertSound := by
  unfold State.fillPlace
  split
  · exact State.alertSound.offerOutcome h
  · exact h

theorem State.alertSound.endClaimAtClose {v : Visit} (h : s.alertSound) : (s.endClaimAtClose v).alertSound := by
  unfold State.endClaimAtClose
  split
  · exact h.endClaim
  · exact h

theorem State.alertSound.freeSlot (h : s.alertSound) : (s.freeSlot n).alertSound := h.of_same (by simp) (by simp)

theorem State.alertSound.closeVisit (h : s.alertSound) : (s.closeVisit n).alertSound := by
  unfold State.closeVisit
  dsimp only
  repeat' split
  · exact h
  · exact h.fillPlace.endClaimAtClose.freeSlot.laneLeft.reportHolds
  · exact h.fillPlace.endClaimAtClose.freeSlot.reportHolds

theorem State.alertSound.leaveOverExit {v : Visit} (h : s.alertSound) : (s.leaveOverExit v).alertSound := by
  unfold State.leaveOverExit
  split
  · exact State.alertSound.reportHolds (State.alertSound.laneLeft h)
  · exact h.closeVisit

/-! ### The Capacity Unit -/

theorem State.alertSound.openAsk (h : s.alertSound) : s.openAsk.alertSound := by
  unfold State.openAsk
  split
  · exact h
  · exact State.alertSound.handClass0 h

theorem State.alertSound.setWaitList {ns : List VisitNumber} (h : s.alertSound) : (s.setWaitList ns).alertSound := h

theorem State.alertSound.setAsk {a : Option Ask} (h : s.alertSound) : (s.setAsk a).alertSound := h

theorem State.alertSound.setTakes {ts : List Take} (h : s.alertSound) : (s.setTakes ts).alertSound := h

theorem State.alertSound.setOffers {os : List Offer} (h : s.alertSound) : (s.setOffers os).alertSound := h

theorem State.alertSound.updQuota {g : Quota → Quota} (h : s.alertSound) : (s.updQuota g).alertSound := h

theorem State.alertSound.serveWaiter {rest : List VisitNumber} {src : FlexSource} (h : s.alertSound) :
    (s.serveWaiter n rest src).alertSound := State.alertSound.admitWith h

theorem State.alertSound.nextAsk {src : FlexSource} {fuel : Nat} (h : s.alertSound) :
    (State.nextAsk src fuel s).alertSound := by
  induction fuel generalizing s with
  | zero => exact h
  | succ fuel ih =>
    unfold State.nextAsk
    repeat' split
    · exact h
    · exact ih h.serveWaiter
    · exact h.openAsk
    · exact ih h.setWaitList.giveNoCapacity

theorem State.alertSound.checkWaiters {src : FlexSource} (h : s.alertSound) : (s.checkWaiters src).alertSound := h.nextAsk

theorem State.alertSound.spareRose {src : FlexSource} (h : s.alertSound) : (s.spareRose src).alertSound := by
  unfold State.spareRose
  split
  · exact h
  · exact h.setAsk.checkWaiters

theorem State.alertSound.askFails (h : s.alertSound) : s.askFails.alertSound := by
  unfold State.askFails
  dsimp only
  split
  · exact h.setAsk
  · exact h.setAsk.setWaitList.giveNoCapacity.checkWaiters

theorem State.alertSound.removeWaiter (h : s.alertSound) : (s.removeWaiter n).alertSound := by
  unfold State.removeWaiter
  repeat' split
  · exact h
  · exact h.setWaitList.setAsk.checkWaiters
  · exact h.setWaitList

theorem State.alertSound.flexStep (h : s.alertSound) : (s.flexStep n).alertSound := by
  unfold State.flexStep
  dsimp only
  repeat' split
  · exact State.alertSound.admitWith h
  · exact h.updVisit.reportHolds.setWaitList.openAsk
  · exact h.updVisit.reportHolds.setWaitList
  · exact h.giveNoCapacity

theorem State.alertSound.takeOffer (h : s.alertSound) : (s.takeOffer c w b).alertSound := by
  unfold State.takeOffer
  repeat' split
  · exact h.setAsk.setTakes.handClass0
  · exact h.handClass0
  · exact h.handClass0

theorem State.alertSound.takeConfirm (h : s.alertSound) : (s.takeConfirm c w b).alertSound := by
  unfold State.takeConfirm
  dsimp only
  repeat' split
  · exact h.setTakes.updQuota.setAsk
  · exact h.setTakes.updQuota.setAsk.serveWaiter.checkWaiters
  · exact h.setTakes.count.askFails
  · exact h.setTakes.updQuota.spareRose
  · exact h.setTakes.count
  · exact h

theorem State.alertSound.takeVoid (h : s.alertSound) : (s.takeVoid c w b).alertSound := by
  unfold State.takeVoid
  dsimp only
  split
  · exact h.setTakes.askFails
  · exact h.setTakes

theorem State.alertSound.askDeadline (h : s.alertSound) : s.askDeadline.alertSound := by
  unfold State.askDeadline
  repeat' split
  · exact h.askFails
  · exact h
  · exact h

theorem State.alertSound.takeAsk (h : s.alertSound) : (s.takeAsk c w b).alertSound := by
  unfold State.takeAsk
  repeat' split
  · exact h
  · exact h.updQuota.setOffers.handClass0
  · exact h

theorem State.alertSound.takeTake (h : s.alertSound) : (s.takeTake c w b).alertSound := by
  unfold State.takeTake
  split
  · exact h.setOffers.handClass0
  · exact h.handClass0

theorem State.alertSound.offerReturned (h : s.alertSound) : s.offerReturned.alertSound := h.updQuota.spareRose

theorem State.alertSound.takeDecline (h : s.alertSound) : (s.takeDecline c w b).alertSound := by
  unfold State.takeDecline
  split
  · exact h.setOffers.offerReturned
  · exact h

theorem State.alertSound.offerExpired (h : s.alertSound) : s.offerExpired.alertSound := by
  unfold State.offerExpired
  split
  · exact h
  · exact h.setOffers.offerReturned

theorem State.alertSound.capacityRoll {cls : Nat} (h : s.alertSound) : (s.capacityRoll w cls).alertSound :=
  State.alertSound.checkWaiters h

/-! ### Evaluation and the claims of peers -/

theorem State.alertSound.combine (h : s.alertSound) : (s.combine n).alertSound := by
  unfold State.combine
  repeat' split
  · exact h
  · exact h.refuseVisit
  · exact h.enterClerkHold
  · exact h.flexStep
  · exact h.giveVerdict

theorem State.alertSound.reserveAndCombine (h : s.alertSound) : (s.reserveAndCombine n).alertSound :=
  h.reservePlace.updVisit.combine

theorem State.alertSound.evaluate (h : s.alertSound) : (s.evaluate n).alertSound := by
  unfold State.evaluate
  split
  · exact h.reserveAndCombine
  · exact h.enterPlaceHold

theorem State.alertSound.placeFreed (h : s.alertSound) : s.placeFreed.alertSound := by
  unfold State.placeFreed
  repeat' split
  · exact h.reserveAndCombine
  · exact h
  · exact h.endCondition

theorem State.alertSound.claimLost (h : s.alertSound) : (s.claimLost n).alertSound := by
  unfold State.claimLost
  dsimp only
  repeat' split
  case h_3 => exact h.updVisit.updVisit.enterClerkHold.removeWaiter
  all_goals exact h

theorem State.alertSound.takeClaimFrame {x : Text} {key : GatePoint} (h : s.alertSound) :
    (s.takeClaimFrame c x key).alertSound := by
  unfold State.takeClaimFrame
  repeat' split
  all_goals first | exact h | exact h.setTable.claimLost

/-! ### Events of the lane -/

theorem State.alertSound.takeReport {ch : Channel} {toggle : Bool} {r : Report} (h : s.alertSound) :
    (s.takeReport ch toggle r).alertSound := by
  have hplaced : (s.placeReport ch r).2.alertSound := by
    unfold State.placeReport
    repeat' split
    all_goals exact h
  unfold State.takeReport
  dsimp only
  repeat' split
  · exact h
  · exact hplaced
  · exact hplaced

theorem State.alertSound.readerMessage {ch : Channel} {m : Option ReaderMessage} (h : s.alertSound) :
    (s.readerMessage ch m).alertSound := by
  unfold State.readerMessage
  repeat' split
  · exact h
  · exact h
  · exact h.takeReport
  · exact h

theorem State.alertSound.bufferExpired {ch : Channel} (h : s.alertSound) : (s.bufferExpired ch).alertSound := by
  unfold State.bufferExpired
  split
  · exact State.alertSound.count h
  · exact h

theorem State.alertSound.placeLaneClosed (h : s.alertSound) : s.placeLaneClosed.alertSound :=
  h.of_same (by simp) (by simp)

theorem State.alertSound.loopAOccupied (h : s.alertSound) : s.loopAOccupied.alertSound := by
  unfold State.loopAOccupied
  repeat' split
  · exact h
  · exact h.openVisit
  · exact h.setPendingArrivals
  · exact h.arrivalLost
  · exact h.placeLaneClosed.count
  · exact h.placeLaneClosed.count

theorem State.alertSound.overrunPortal (h : s.alertSound) : s.overrunPortal.alertSound := by
  unfold State.overrunPortal
  split
  · exact h.portalClose.updVisit.updVisit
  · exact h

theorem State.alertSound.unseenAtPortal (h : s.alertSound) : s.unseenAtPortal.alertSound := by
  unfold State.unseenAtPortal
  repeat' split
  all_goals first | exact h | exact h.openVisit | exact h.setPendingArrivals.arrivalLost

theorem State.alertSound.attachAllHeld (h : s.alertSound) : s.attachAllHeld.alertSound := h.of_same (by simp) (by simp)

theorem State.alertSound.loopPOccupied (h : s.alertSound) : s.loopPOccupied.alertSound := by
  unfold State.loopPOccupied
  dsimp only
  repeat' split
  · exact h
  · exact h.overrunPortal.updVisit.attachAllHeld
  · exact h.overrunPortal.unseenAtPortal.attachAllHeld

theorem State.alertSound.loopPVacated (h : s.alertSound) : s.loopPVacated.alertSound := by
  unfold State.loopPVacated
  split
  · exact h.portalClose.updVisit
  · exact h

theorem State.alertSound.loopSOccupied (h : s.alertSound) : s.loopSOccupied.alertSound := by
  unfold State.loopSOccupied
  repeat' split
  · exact h.evaluate
  · exact h.portalClose.evaluate
  · exact h

theorem State.alertSound.loopXVacated (h : s.alertSound) : s.loopXVacated.alertSound := by
  unfold State.loopXVacated
  dsimp only
  split
  · exact h.leaveOverExit.yardLoopXVacated
  · exact h.yardLoopXVacated

theorem State.alertSound.exitCheckExpired (h : s.alertSound) : (s.exitCheckExpired n).alertSound := by
  unfold State.exitCheckExpired
  dsimp only
  repeat' split
  · exact h
  · exact h.updVisit.leaveOverExit
  · exact h.updVisit
  · exact h.updVisit

theorem State.alertSound.takeOpen (h : s.alertSound) : s.takeOpen.alertSound := by
  unfold State.takeOpen
  split
  · exact h.count
  · exact h.setMode
  · exact h.setMode
  · exact h

theorem State.alertSound.takeClose (h : s.alertSound) : s.takeClose.alertSound := by
  unfold State.takeClose
  split
  · exact h.count
  · exact h.setMode
  · exact h
  · exact h

theorem State.alertSound.checkReady (h : s.alertSound) : s.checkReady.alertSound := by
  unfold State.checkReady
  split
  · exact h.setMode
  · exact h

theorem State.alertSound.retakeDeferred (h : s.alertSound) : s.retakeDeferred.alertSound := by
  unfold State.retakeDeferred
  repeat' split
  · exact h.giveVerdict
  · exact h
  · exact h

theorem State.alertSound.overrideVisit {v : Visit} (h : s.alertSound) : (s.overrideVisit v).alertSound :=
  h.of_same (by simp) (by simp)

theorem State.alertSound.takeRelease (h : s.alertSound) : (s.takeRelease n).alertSound := by
  unfold State.takeRelease
  repeat' split
  · exact h.count
  · exact h.overrideVisit.giveVerdict
  · exact h.overrideVisit.giveParkedAdmission.closeVisit.retakeDeferred
  · exact h.count

theorem State.alertSound.takeRefuse (h : s.alertSound) : (s.takeRefuse n).alertSound := by
  unfold State.takeRefuse
  repeat' split
  · exact h.count
  · exact h.refuseVisit
  · exact h.writeVerdict.closeVisit.retakeDeferred
  · exact h.count

theorem State.alertSound.expireHold (h : s.alertSound) : (s.expireHold n).alertSound := by
  unfold State.expireHold
  repeat' split
  · exact h
  · exact h.refuseVisit
  · exact h.giveVerdict
  · exact h
  · exact h

theorem State.alertSound.holdTimeout (h : s.alertSound) : (s.holdTimeout n).alertSound := by
  unfold State.holdTimeout
  repeat' split
  · exact h
  · exact h.expireHold
  · exact h

theorem State.alertSound.lineEvent {l : Line} {up : Bool} (h : s.alertSound) : (s.lineEvent l up).alertSound := by
  unfold State.lineEvent
  repeat' split
  · exact h.loopAOccupied
  · exact h
  · exact h.loopPOccupied
  · exact h
  · exact h.loopPVacated
  · exact h
  · exact h.loopSOccupied
  · exact h
  · exact h
  · exact h.of_same (by simp) (by simp)
  · exact h.yardLoopXVacated
  · exact h.loopXVacated
  · exact h.scanOccupied
  · exact h.endPass
  · exact h.barUpUp
  · exact h.barUpDown

theorem State.alertSound.settleLine {l : Line} {ls : LineSet Bool} (h : s.alertSound) :
    (s.settleLine l ls).alertSound := State.alertSound.lineEvent h

theorem State.alertSound.pinChange {l : Line} {high : Bool} (h : s.alertSound) : (s.pinChange l high).alertSound := by
  unfold State.pinChange
  dsimp only
  repeat' split
  case h_2.isFalse.isTrue => exact State.alertSound.settleLine h
  all_goals exact h

theorem State.alertSound.debounceExpired {l : Line} (h : s.alertSound) : (s.debounceExpired l).alertSound := by
  unfold State.debounceExpired
  repeat' split
  · exact h
  · exact h.settleLine
  · exact h
  · exact h

/-! ### The bus -/

theorem State.alertSound.officeHeard (h : s.alertSound) : s.officeHeard.alertSound := by
  unfold State.officeHeard
  dsimp only
  split
  · exact State.alertSound.offerOutcome (State.alertSound.endCondition h)
  · exact h

theorem State.alertSound.stationHeard {source : LaneId} (h : s.alertSound) : (s.stationHeard source).alertSound := by
  unfold State.stationHeard
  split
  · exact h
  · split
    · exact h.officeHeard
    · exact h

theorem State.alertSound.bufferFrame {f : RawFrame} (h : s.alertSound) : (s.bufferFrame f).alertSound := by
  unfold State.bufferFrame
  split
  · exact h.count
  · split
    · exact h.count
    · split <;> exact h

theorem State.alertSound.receive {stop : Bool} {bs : List Byte} (h : s.alertSound) :
    (s.receive stop bs).alertSound := by
  unfold State.receive
  dsimp only
  split
  · split
    · exact h.count
    · split
      · exact State.alertSound.latch h
      · split
        · exact h.stationHeard.bufferFrame
        · exact h.stationHeard
  · exact h

theorem State.alertSound.dropOffered (h : s.alertSound) : s.dropOffered.alertSound := State.alertSound.placeFreed h

theorem State.alertSound.ownerTold (h : s.alertSound) : (s.ownerTold f).alertSound := by
  unfold State.ownerTold
  repeat' split
  · exact h.dropOffered
  · exact State.alertSound.handStatus h
  · exact h
  · exact h

theorem State.alertSound.drainOutbox (h : s.alertSound) : s.drainOutbox.alertSound := h.of_same (by simp) (by simp)

theorem State.alertSound.sent (h : s.alertSound) : s.sent.alertSound := by
  unfold State.sent
  dsimp only
  split
  · exact h
  · refine State.alertSound.offerOutcome (State.alertSound.ownerTold (State.alertSound.drainOutbox ?_))
    exact h

theorem State.alertSound.loseContention {stop : Bool} {bs : List Byte} (h : s.alertSound) :
    (s.loseContention stop bs).alertSound := by
  unfold State.loseContention
  split
  · exact h.setTxQueue.receive
  · exact h

theorem State.alertSound.officeSilent (h : s.alertSound) : s.officeSilent.alertSound := by
  unfold State.officeSilent
  split
  · exact State.alertSound.latch h
  · exact h

theorem State.alertSound.clashOver (h : s.alertSound) : s.clashOver.alertSound := by
  unfold State.clashOver
  split
  · exact State.alertSound.endCondition h
  · exact h

theorem State.alertSound.takeAlertClear {bs : List Byte} (h : s.alertSound) : (s.takeAlertClear bs).alertSound := by
  unfold State.takeAlertClear State.clearAlerts
  dsimp only
  repeat' split
  · exact h
  · exact State.flagSetChanged_alertSound _
  · exact h.count

theorem State.alertSound.fetchCounters (h : s.alertSound) : s.fetchCounters.alertSound :=
  h.setCounters.endCondition.handCounters

/-! ### The clock -/

theorem State.alertSound.rollNotice {cls : Nat} (h : s.alertSound) : (s.rollNotice w cls).alertSound := by
  unfold State.rollNotice
  dsimp only
  repeat' split
  all_goals exact State.alertSound.capacityRoll h

theorem State.alertSound.oneRoll (h : s.alertSound) : s.oneRoll.alertSound := State.alertSound.rollNotice h

theorem State.alertSound.rolls {m : Nat} (h : s.alertSound) : (State.rolls m s).alertSound := by
  induction m generalizing s with
  | zero => exact h
  | succ m ih => exact ih h.oneRoll

theorem State.alertSound.carryWindows {d : Int} (h : s.alertSound) : (s.carryWindows d w).alertSound := by
  unfold State.carryWindows
  split
  · exact h.rolls
  · exact State.alertSound.rollNotice h.rolls

theorem State.alertSound.expireHolds {ns : List VisitNumber} (h : s.alertSound) : (expireHolds ns s).alertSound := by
  induction ns generalizing s with
  | nil => exact h
  | cons n ns ih => exact ih h.expireHold

theorem State.alertSound.takeTime {bs : List Byte} (h : s.alertSound) : (s.takeTime bs).alertSound := by
  unfold State.takeTime
  repeat' split
  · exact h.count
  · exact h.count
  · exact State.alertSound.checkReady (State.alertSound.rollNotice h)
  · exact h
  · exact State.alertSound.expireHolds (State.alertSound.carryWindows h)

theorem State.alertSound.rollDue (h : s.alertSound) : s.rollDue.alertSound := by
  unfold State.rollDue
  split
  · exact h.oneRoll
  · exact h

theorem State.alertSound.tenthPasses (h : s.alertSound) : s.tenthPasses.alertSound := h.of_same (by simp) (by simp)

/-! ### Start Control -/

/-- At the fixing ALERT_N is driven afresh with the configured mask (R156, R179). -/
theorem State.alertSound.takeConfig {bs : List Byte} (h : s.alertSound) : (s.takeConfig bs).alertSound := by
  unfold State.takeConfig State.fixIfComplete State.fixConfig
  repeat' split
  · exact h.count
  · exact h.count
  · exact (State.driveAlertN_alertSound _).checkReady
  · exact h

theorem State.enterReset_alertSound (s : State) (cause : ResetCause) (lost : Nat) :
    (s.enterReset cause lost).alertSound := by
  have hflags : (s.enterReset cause lost).flagWord = 0 := rfl
  show false = (false || (s.enterReset cause lost).flagWord &&& _ != 0)
  rw [hflags]
  simp

/-- At the end of a reset ALERT_N is driven afresh (R174). -/
theorem State.endReset_alertSound (s : State) (p : Straps) : (s.endReset p).alertSound := by
  unfold State.endReset State.announceStart
  dsimp only
  repeat' split
  all_goals exact State.driveAlertN_alertSound _

theorem State.alertSound.handedOn {f : RxFrame} {rest : List RxFrame} (h : s.alertSound) :
    (s.handedOn f rest).alertSound := by
  obtain ⟨-, -, hstrap, -, hconfig⟩ := State.handedOn_start s f rest
  unfold State.alertSound State.alertDue State.alertMask
  rw [hstrap, hconfig]
  exact h

end

/-! ### Every command keeps the agreement -/

/-- A frame command keeps the agreement where its owner does. -/
theorem State.alertSound.onFrame {s : State} {k : FrameKind} {act : RxFrame → State → State} (h : s.alertSound)
    (hact : ∀ f u, u.alertSound → (act f u).alertSound) : (s.onFrame k act).alertSound :=
  State.onFrame_induct State.alertSound h fun f _ => hact f _ h.handedOn

theorem State.alertSound.loanFrame {s : State} {act : Window → Byte → State → State} {payload : List Byte}
    (h : s.alertSound) (hact : ∀ w b, (act w b s).alertSound) : (s.loanFrame act payload).alertSound :=
  State.loanFrame_induct State.alertSound h hact

theorem State.alertSound.clerkFrame {s : State} {act : VisitNumber → State → State} {payload : List Byte}
    (h : s.alertSound) (hact : ∀ n, (act n s).alertSound) : (s.clerkFrame act payload).alertSound :=
  State.clerkFrame_induct State.alertSound h.count hact

theorem State.alertSound.exec {c : Instr} {s t : State} (h : s.alertSound) (hexec : exec c s = .next t) :
    t.alertSound := by
  cases c <;> injection hexec with hexec <;> subst hexec
  case powerOn high p =>
    unfold State.powerUp
    dsimp only
    split
    · exact State.endReset_alertSound _ _
    · exact State.enterReset_alertSound s .power 0
  case resetNFall =>
    unfold State.resetPinFalls
    split <;> exact h
  case lineReset =>
    unfold State.lineResetTaken
    split
    · exact State.enterReset_alertSound s .line s.placesUsed
    · exact h
  case resetNRelease p =>
    unfold State.resetPinRises
    dsimp only
    repeat' split
    · exact h
    · exact State.endReset_alertSound _ _
    · exact h
  case lineLevelChange => exact h.pinChange
  case debounceExpiry => exact h.debounceExpired
  case windowRoll => exact h.rollDue
  case timeFrame => exact h.onFrame fun _ _ hu => hu.takeTime
  case openFrame => exact h.onFrame fun _ _ hu => hu.takeOpen
  case closeFrame => exact h.onFrame fun _ _ hu => hu.takeClose
  case holdTimeoutExpiry => exact h.holdTimeout
  case releaseFrame => exact h.onFrame fun _ _ hu => hu.clerkFrame fun _ => hu.takeRelease
  case refuseFrame => exact h.onFrame fun _ _ hu => hu.clerkFrame fun _ => hu.takeRefuse
  case exitCheckExpiry => exact h.exitCheckExpired
  case plateReport | codeReport | sealReport | helloReport | malformedReport => exact h.readerMessage
  case holdingBufferExpiry => exact h.bufferExpired
  case displayAccept | displayBusy | displayReject => exact h.displayAnswer
  case displayUnusableAnswer => exact h.displayByte
  case answerWaitExpiry => exact h.answerWaitExpired
  case retryWaitExpiry | displayHello => exact h.of_same (by simp) (by simp)
  case blockNoteFrame => exact h.onFrame fun _ _ hu => hu.of_same (by simp) (by simp)
  case upCheckExpiry => exact h.upCheckExpired
  case settleTimeExpiry => exact h.settleExpired
  case bookingFrame =>
    refine h.onFrame fun _ _ hu => ?_
    unfold State.bookingPayload
    split
    · exact hu.takeBooking
    · exact hu.count
  case bookingCancelFrame =>
    refine h.onFrame fun _ _ hu => ?_
    unfold State.cancelPayload
    split
    · exact hu.of_same (by simp) (by simp)
    · exact hu.count
  case claimFrame =>
    refine h.onFrame fun _ _ hu => ?_
    unfold State.claimPayload
    split
    · exact hu.takeClaimFrame
    · exact hu
  case claimEndFrame =>
    refine h.onFrame fun _ _ hu => ?_
    unfold State.claimEndPayload
    split
    · exact hu.setTable
    · exact hu.count
  case loanAskFrame => exact h.onFrame fun _ _ hu => hu.loanFrame fun _ _ => hu.takeAsk
  case loanOfferFrame => exact h.onFrame fun _ _ hu => hu.loanFrame fun _ _ => hu.takeOffer
  case loanTakeFrame => exact h.onFrame fun _ _ hu => hu.loanFrame fun _ _ => hu.takeTake
  case loanConfirmFrame => exact h.onFrame fun _ _ hu => hu.loanFrame fun _ _ => hu.takeConfirm
  case loanVoidFrame => exact h.onFrame fun _ _ hu => hu.loanFrame fun _ _ => hu.takeVoid
  case loanDeclineFrame => exact h.onFrame fun _ _ hu => hu.loanFrame fun _ _ => hu.takeDecline
  case askDeadlineExpiry => exact h.askDeadline
  case offerExpiry => exact h.offerExpired
  case peerSilenceExpiry => exact h
  case converterSample => exact h.of_same (by simp) (by simp)
  case alertClearFrame => exact h.onFrame fun _ _ hu => hu.takeAlertClear
  case countersFetchFrame => exact h.onFrame fun _ _ hu => hu.fetchCounters
  case idClashTimerExpiry => exact h.clashOver
  case frameReceived => exact h.receive
  case officeSilenceExpiry => exact h.officeSilent
  case txStart => exact h.of_same (by simp) (by simp)
  case contentionLost => exact h.loseContention
  case frameSent => exact h.sent
  case configFrame => exact h.onFrame fun _ _ hu => hu.takeConfig
  case resetReqFrame p =>
    refine h.onFrame fun _ _ hu => ?_
    unfold State.takeResetReq
    repeat' split
    · exact hu.count
    · exact State.endReset_alertSound _ _
    · exact hu
  case resetReqTimerExpiry =>
    unfold State.resetReqExpired
    split <;> exact h
  case tenthsRise => exact h.tenthPasses

/-- Settles O7. -/
theorem alertLineFollowsFlags : Obligations.AlertLineFollowsFlags :=
  step_keeps (fun _ _ h => h) fun _ _ _ h hexec => h.exec hexec

end Sys2Proof.Machine
end

section
/-! The roster: the lane mode, the visits that stand in the lane and in the parked set by their numbers, the pending
arrivals and the visit counter. A visit's record may change as it will; the roster changes only where a visit is opened,
leaves the lane or closes. -/

namespace Sys2Proof.Machine

/-- Who stands where, and what the lane is in. -/
def VisitEngine.roster (v : VisitEngine) : LaneMode × List VisitNumber × List VisitNumber × Nat × VisitNumber :=
  (v.mode, v.laneQueue.map (·.number), v.parked.map (·.number), v.pendingArrivals, v.nextNumber)

/-! ### A changed record keeps its number -/

@[simp] theorem Visit.addReason_number (r : Reason) (v : Visit) : (v.addReason r).number = v.number := by
  unfold Visit.addReason
  split <;> rfl

@[simp] theorem Visit.addReasons_number (rs : List Reason) (v : Visit) : (v.addReasons rs).number = v.number := by
  unfold Visit.addReasons
  induction rs generalizing v with
  | nil => rfl
  | cons r rs ih => simp [ih]

@[simp] theorem Visit.addOutcomeNote_number (r : Reason) (v : Visit) : (v.addOutcomeNote r).number = v.number := by rfl

@[simp] theorem Visit.overrideHolds_number (v : Visit) : v.overrideHolds.number = v.number := by rfl

@[simp] theorem Visit.updSlot_number (p : Position) (f : ContainerSlot → ContainerSlot) (v : Visit) :
    (v.updSlot p f).number = v.number := by
  cases p <;> rfl

@[simp] theorem Visit.checkSlot_number (g : General) (zs : List Zone) (ps : List (List Nat)) (p : Position) (v : Visit) :
    (v.checkSlot g zs ps p).number = v.number := by
  unfold Visit.checkSlot
  split <;> simp

@[simp] theorem Visit.mergeRear_number (v : Visit) : v.mergeRear.number = v.number := by
  unfold Visit.mergeRear
  split <;> rfl

@[simp] theorem Visit.discardPasses_number (v : Visit) : v.discardPasses.number = v.number := by
  unfold Visit.discardPasses
  split <;> rfl

@[simp] theorem Visit.finishPortal_number (g : General) (zs : List Zone) (ps : List (List Nat)) (w : Option Window)
    (p : GatePoint) (v : Visit) : (v.finishPortal g zs ps w p).number = v.number := by
  simp [Visit.finishPortal]

/-- A report written into a record leaves its number and its state (R50). -/
@[simp] theorem Visit.attach_keeps (r : Report) (v : Visit) :
    ((v.attach r).getD v).number = v.number ∧ ((v.attach r).getD v).state = v.state := by
  cases r with
  | plate t c =>
    show (v.takePlate t c).number = v.number ∧ (v.takePlate t c).state = v.state
    unfold Visit.takePlate
    split <;> exact ⟨rfl, rfl⟩
  | code p t z ok => cases p <;> exact ⟨rfl, rfl⟩
  | sealRead p e =>
    show ((((v.slot p).takeSeal e).map fun c => v.updSlot p fun _ => c).getD v).number = v.number ∧
      ((((v.slot p).takeSeal e).map fun c => v.updSlot p fun _ => c).getD v).state = v.state
    cases (v.slot p).takeSeal e with
    | none => exact ⟨rfl, rfl⟩
    | some c => cases p <;> exact ⟨rfl, rfl⟩

theorem map_number_updNumbered {n : VisitNumber} {f : Visit → Visit} {vs : List Visit}
    (hf : ∀ v, (f v).number = v.number) : (updNumbered n f vs).map (·.number) = vs.map (·.number) := by
  unfold updNumbered
  rw [List.map_map]
  refine List.map_congr_left fun v _ => ?_
  show (if v.number = n then f v else v).number = v.number
  split
  · exact hf v
  · rfl

/-! ### Operations that keep the roster -/

@[simp] theorem State.updVisit_roster {n : VisitNumber} {f : Visit → Visit} {s : State}
    (hf : ∀ v, (f v).number = v.number) : (s.updVisit n f).visits.roster = s.visits.roster := by
  simp [VisitEngine.roster, map_number_updNumbered hf]

@[simp] theorem State.setVisitState_roster (n : VisitNumber) (st : SlotState) (s : State) :
    (s.setVisitState n st).visits.roster = s.visits.roster :=
  State.updVisit_roster fun _ => rfl

@[simp] theorem State.takeClaim_roster (n : VisitNumber) (b : Booking) (s : State) :
    (s.takeClaim n b).visits.roster = s.visits.roster := by
  unfold State.takeClaim
  dsimp only
  simp [-State.updVisit_visits]

@[simp] theorem State.selectFor_roster (v : Visit) (s : State) :
    (s.selectFor v).2.visits.roster = s.visits.roster := by
  unfold State.selectFor
  dsimp only
  repeat' split
  all_goals simp [-State.updVisit_visits]

@[simp] theorem State.endClaim_roster (n : VisitNumber) (r : ClaimResult) (s : State) :
    (s.endClaim n r).visits.roster = s.visits.roster := by
  unfold State.endClaim
  dsimp only
  repeat' split
  all_goals simp [-State.updVisit_visits]

@[simp] theorem State.endPass_roster (s : State) :
    s.endPass.visits.roster = s.visits.roster := by
  unfold State.endPass
  split <;> simp [-State.updVisit_visits]

@[simp] theorem State.truncatePass_roster (n : VisitNumber) (s : State) :
    (s.truncatePass n).visits.roster = s.visits.roster := by
  unfold State.truncatePass
  repeat' split
  all_goals simp [-State.updVisit_visits]

@[simp] theorem State.scanOccupied_roster (s : State) :
    s.scanOccupied.visits.roster = s.visits.roster := by
  unfold State.scanOccupied
  repeat' split
  all_goals simp [-State.updVisit_visits]

@[simp] theorem State.barrierSeenUp_roster (s : State) :
    s.barrierSeenUp.visits.roster = s.visits.roster := by
  unfold State.barrierSeenUp
  dsimp only
  split <;> simp [-State.updVisit_visits]

@[simp] theorem State.raiseFor_roster (n : VisitNumber) (s : State) :
    (s.raiseFor n).visits.roster = s.visits.roster := by
  unfold State.raiseFor
  dsimp only
  split <;> simp [-State.updVisit_visits]

@[simp] theorem State.testRaise_roster (s : State) :
    s.testRaise.visits.roster = s.visits.roster := by
  unfold State.testRaise
  repeat' split
  all_goals simp [-State.updVisit_visits]

@[simp] theorem State.yardLoopXVacated_roster (s : State) :
    s.yardLoopXVacated.visits.roster = s.visits.roster := by
  unfold State.yardLoopXVacated
  split <;> simp [-State.updVisit_visits]

@[simp] theorem State.barUpUp_roster (s : State) :
    s.barUpUp.visits.roster = s.visits.roster := by
  unfold State.barUpUp
  split <;> simp [-State.updVisit_visits]

@[simp] theorem State.barUpDown_roster (s : State) :
    s.barUpDown.visits.roster = s.visits.roster := by
  unfold State.barUpDown
  split <;> simp [-State.updVisit_visits]

@[simp] theorem State.settleExpired_roster (s : State) :
    s.settleExpired.visits.roster = s.visits.roster := by
  unfold State.settleExpired
  dsimp only
  repeat' split
  all_goals simp [-State.updVisit_visits]

@[simp] theorem State.settleDirection_roster (m : Message) (s : State) :
    (s.settleDirection m).visits.roster = s.visits.roster := by
  unfold State.settleDirection
  split
  · split
    · exact congrArg (fun q => (s.visits.mode, q, _)) (map_number_updNumbered fun _ => rfl)
    · rfl
  · rfl

@[simp] theorem State.endDelivery_roster (m : Message) (s : State) :
    (s.endDelivery m).visits.roster = s.visits.roster := by
  unfold State.endDelivery
  dsimp only
  simp [-State.updVisit_visits]

@[simp] theorem State.deliveryAccepted_roster (s : State) :
    s.deliveryAccepted.visits.roster = s.visits.roster := by
  unfold State.deliveryAccepted
  split <;> simp [-State.updVisit_visits]

@[simp] theorem State.deliveryGivenUp_roster (s : State) :
    s.deliveryGivenUp.visits.roster = s.visits.roster := by
  unfold State.deliveryGivenUp
  dsimp only
  repeat' split
  all_goals simp [-State.updVisit_visits]

@[simp] theorem State.deliveryBusy_roster (s : State) :
    s.deliveryBusy.visits.roster = s.visits.roster := by
  unfold State.deliveryBusy
  dsimp only
  split <;> simp [-State.updVisit_visits]

@[simp] theorem State.displayAnswer_roster (toggle : Bool) (a : Answer) (s : State) :
    (s.displayAnswer toggle a).visits.roster = s.visits.roster := by
  unfold State.displayAnswer
  repeat' split
  all_goals simp [-State.updVisit_visits]

@[simp] theorem State.displayByte_roster (b : Byte) (s : State) :
    (s.displayByte b).visits.roster = s.visits.roster := by
  unfold State.displayByte
  split <;> simp [-State.updVisit_visits]

@[simp] theorem State.answerWaitExpired_roster (s : State) :
    s.answerWaitExpired.visits.roster = s.visits.roster := by
  unfold State.answerWaitExpired
  split <;> simp [-State.updVisit_visits]

@[simp] theorem State.writeVerdict_roster (n : VisitNumber) (vd : Verdict) (s : State) :
    (s.writeVerdict n vd).visits.roster = s.visits.roster := by
  simp [State.writeVerdict, -State.updVisit_visits]

@[simp] theorem State.giveVerdict_roster (n : VisitNumber) (vd : Verdict) (s : State) :
    (s.giveVerdict n vd).visits.roster = s.visits.roster := by
  unfold State.giveVerdict
  dsimp only
  split <;> simp [-State.updVisit_visits]

@[simp] theorem State.giveParkedAdmission_roster (n : VisitNumber) (vd : Verdict) (s : State) :
    (s.giveParkedAdmission n vd).visits.roster = s.visits.roster := by
  unfold State.giveParkedAdmission
  dsimp only
  split <;> simp [-State.updVisit_visits]

@[simp] theorem State.refuseVisit_roster (n : VisitNumber) (s : State) :
    (s.refuseVisit n).visits.roster = s.visits.roster := by
  unfold State.refuseVisit
  dsimp only
  repeat' split
  all_goals simp [-State.updVisit_visits]

@[simp] theorem State.admitWith_roster (n : VisitNumber) (f : FlexSource) (s : State) :
    (s.admitWith n f).visits.roster = s.visits.roster := by
  unfold State.admitWith
  split <;> simp [-State.updVisit_visits]

@[simp] theorem State.enterClerkHold_roster (n : VisitNumber) (s : State) :
    (s.enterClerkHold n).visits.roster = s.visits.roster := by
  unfold State.enterClerkHold
  dsimp only
  repeat' split
  all_goals simp [-State.updVisit_visits]

@[simp] theorem State.giveNoCapacity_roster (n : VisitNumber) (s : State) :
    (s.giveNoCapacity n).visits.roster = s.visits.roster := by
  simp [State.giveNoCapacity, -State.updVisit_visits]

@[simp] theorem State.enterPlaceHold_roster (n : VisitNumber) (s : State) :
    (s.enterPlaceHold n).visits.roster = s.visits.roster := by
  simp [State.enterPlaceHold, -State.updVisit_visits]

@[simp] theorem State.endClaimAtClose_roster (v : Visit) (s : State) :
    (s.endClaimAtClose v).visits.roster = s.visits.roster := by
  unfold State.endClaimAtClose
  repeat' split
  all_goals simp [-State.updVisit_visits]

@[simp] theorem State.serveWaiter_roster (n : VisitNumber) (r : List VisitNumber) (f : FlexSource) (s : State) :
    (s.serveWaiter n r f).visits.roster = s.visits.roster := by
  simp [State.serveWaiter, -State.updVisit_visits]

@[simp] theorem State.nextAsk_roster (f : FlexSource) (k : Nat) (s : State) :
    (s.nextAsk f k).visits.roster = s.visits.roster := by
  induction k generalizing s with
  | zero => rfl
  | succ k ih =>
    unfold State.nextAsk
    split
    · rfl
    · split
      · simp [ih]
      · split
        · simp
        · simp [ih]

@[simp] theorem State.checkWaiters_roster (f : FlexSource) (s : State) :
    (s.checkWaiters f).visits.roster = s.visits.roster := by
  simp [State.checkWaiters, -State.updVisit_visits]

@[simp] theorem State.spareRose_roster (f : FlexSource) (s : State) :
    (s.spareRose f).visits.roster = s.visits.roster := by
  unfold State.spareRose
  split <;> simp [-State.updVisit_visits]

@[simp] theorem State.askFails_roster (s : State) :
    s.askFails.visits.roster = s.visits.roster := by
  unfold State.askFails
  dsimp only
  split <;> simp [-State.updVisit_visits]

@[simp] theorem State.removeWaiter_roster (n : VisitNumber) (s : State) :
    (s.removeWaiter n).visits.roster = s.visits.roster := by
  unfold State.removeWaiter
  repeat' split
  all_goals simp [-State.updVisit_visits]

@[simp] theorem State.flexStep_roster (n : VisitNumber) (s : State) :
    (s.flexStep n).visits.roster = s.visits.roster := by
  unfold State.flexStep
  dsimp only
  repeat' split
  all_goals simp [-State.updVisit_visits]

@[simp] theorem State.forcedGrant_roster (n : VisitNumber) (s : State) :
    (s.forcedGrant n).visits.roster = s.visits.roster := by
  unfold State.forcedGrant
  split <;> simp [-State.updVisit_visits]

@[simp] theorem State.takeConfirm_roster (c : LaneId) (w : Window) (k : Byte) (s : State) :
    (s.takeConfirm c w k).visits.roster = s.visits.roster := by
  unfold State.takeConfirm
  dsimp only
  repeat' split
  all_goals simp [-State.updVisit_visits]

@[simp] theorem State.takeVoid_roster (c : LaneId) (w : Window) (k : Byte) (s : State) :
    (s.takeVoid c w k).visits.roster = s.visits.roster := by
  unfold State.takeVoid
  dsimp only
  split <;> simp [-State.updVisit_visits]

@[simp] theorem State.askDeadline_roster (s : State) :
    s.askDeadline.visits.roster = s.visits.roster := by
  unfold State.askDeadline
  repeat' split
  all_goals simp [-State.updVisit_visits]

@[simp] theorem State.offerReturned_roster (s : State) :
    s.offerReturned.visits.roster = s.visits.roster := by
  simp [State.offerReturned, -State.updVisit_visits]

@[simp] theorem State.takeDecline_roster (c : LaneId) (w : Window) (k : Byte) (s : State) :
    (s.takeDecline c w k).visits.roster = s.visits.roster := by
  unfold State.takeDecline
  split <;> simp [-State.updVisit_visits]

@[simp] theorem State.offerExpired_roster (s : State) :
    s.offerExpired.visits.roster = s.visits.roster := by
  unfold State.offerExpired
  split <;> simp [-State.updVisit_visits]

@[simp] theorem State.capacityRoll_roster (w : Window) (cls : Nat) (s : State) :
    (s.capacityRoll w cls).visits.roster = s.visits.roster := by
  simp [State.capacityRoll, -State.updVisit_visits]

@[simp] theorem State.portalClose_roster (n : VisitNumber) (s : State) :
    (s.portalClose n).visits.roster = s.visits.roster := by
  unfold State.portalClose
  dsimp only
  split <;> simp [-State.updVisit_visits]

@[simp] theorem State.combine_roster (n : VisitNumber) (s : State) :
    (s.combine n).visits.roster = s.visits.roster := by
  unfold State.combine
  repeat' split
  all_goals simp [-State.updVisit_visits]

@[simp] theorem State.reserveAndCombine_roster (n : VisitNumber) (s : State) :
    (s.reserveAndCombine n).visits.roster = s.visits.roster := by
  simp [State.reserveAndCombine, -State.updVisit_visits]

@[simp] theorem State.evaluate_roster (n : VisitNumber) (s : State) :
    (s.evaluate n).visits.roster = s.visits.roster := by
  unfold State.evaluate
  split <;> simp [-State.updVisit_visits]

@[simp] theorem State.placeFreed_roster (s : State) :
    s.placeFreed.visits.roster = s.visits.roster := by
  unfold State.placeFreed
  repeat' split
  all_goals simp [-State.updVisit_visits]

@[simp] theorem State.claimLost_roster (n : VisitNumber) (s : State) :
    (s.claimLost n).visits.roster = s.visits.roster := by
  unfold State.claimLost
  dsimp only
  repeat' split
  all_goals simp [-State.updVisit_visits]

@[simp] theorem State.claimCancelled_roster (n : VisitNumber) (s : State) :
    (s.claimCancelled n).visits.roster = s.visits.roster := by
  unfold State.claimCancelled
  dsimp only
  repeat' split
  all_goals simp [-State.updVisit_visits]

@[simp] theorem State.takeCancel_roster (ref : Text) (s : State) :
    (s.takeCancel ref).visits.roster = s.visits.roster := by
  unfold State.takeCancel
  dsimp only
  repeat' split
  all_goals simp [-State.updVisit_visits]

@[simp] theorem State.takeClaimFrame_roster (c : LaneId) (ref : Text) (key : GatePoint) (s : State) :
    (s.takeClaimFrame c ref key).visits.roster = s.visits.roster := by
  unfold State.takeClaimFrame
  dsimp only
  repeat' split
  all_goals simp [-State.updVisit_visits]

@[simp] theorem State.attachReport_roster (n : VisitNumber) (r : Report) (s : State) :
    (s.attachReport n r).visits.roster = s.visits.roster := by
  exact State.updVisit_roster fun v => (Visit.attach_keeps r v).1

@[simp] theorem State.placeReport_roster (ch : Channel) (r : Report) (s : State) :
    (s.placeReport ch r).2.visits.roster = s.visits.roster := by
  unfold State.placeReport
  repeat' split
  all_goals simp [-State.updVisit_visits]

@[simp] theorem State.takeReport_roster (ch : Channel) (t : Bool) (r : Report) (s : State) :
    (s.takeReport ch t r).visits.roster = s.visits.roster := by
  unfold State.takeReport
  dsimp only
  repeat' split
  all_goals simp [-State.updVisit_visits]

@[simp] theorem State.readerMessage_roster (ch : Channel) (m : Option ReaderMessage) (s : State) :
    (s.readerMessage ch m).visits.roster = s.visits.roster := by
  unfold State.readerMessage
  repeat' split
  all_goals simp [-State.updVisit_visits]

@[simp] theorem State.attachHeld_roster (n : VisitNumber) (ch : Channel) (s : State) :
    (s.attachHeld n ch).visits.roster = s.visits.roster := by
  unfold State.attachHeld
  split <;> simp [-State.updVisit_visits]

@[simp] theorem State.attachAllHeld_roster (s : State) :
    s.attachAllHeld.visits.roster = s.visits.roster := by
  unfold State.attachAllHeld
  split <;> simp [-State.updVisit_visits]

@[simp] theorem State.overrunPortal_roster (s : State) :
    s.overrunPortal.visits.roster = s.visits.roster := by
  unfold State.overrunPortal
  split <;> simp [-State.updVisit_visits]

@[simp] theorem State.loopPVacated_roster (s : State) :
    s.loopPVacated.visits.roster = s.visits.roster := by
  unfold State.loopPVacated
  split <;> simp [-State.updVisit_visits]

@[simp] theorem State.loopSOccupied_roster (s : State) :
    s.loopSOccupied.visits.roster = s.visits.roster := by
  unfold State.loopSOccupied
  repeat' split
  all_goals simp [-State.updVisit_visits]

@[simp] theorem State.loopXOccupied_roster (s : State) :
    s.loopXOccupied.visits.roster = s.visits.roster := by
  unfold State.loopXOccupied
  split <;> simp [-State.updVisit_visits]

@[simp] theorem State.retakeDeferred_roster (s : State) :
    s.retakeDeferred.visits.roster = s.visits.roster := by
  unfold State.retakeDeferred
  repeat' split
  all_goals simp [-State.updVisit_visits]

@[simp] theorem State.overrideVisit_roster (v : Visit) (s : State) :
    (s.overrideVisit v).visits.roster = s.visits.roster := by
  unfold State.overrideVisit
  dsimp only
  split <;> simp [-State.updVisit_visits]

@[simp] theorem State.expireHold_roster (n : VisitNumber) (s : State) :
    (s.expireHold n).visits.roster = s.visits.roster := by
  unfold State.expireHold
  repeat' split
  all_goals simp [-State.updVisit_visits]

@[simp] theorem State.holdTimeout_roster (n : VisitNumber) (s : State) :
    (s.holdTimeout n).visits.roster = s.visits.roster := by
  unfold State.holdTimeout
  repeat' split
  all_goals simp [-State.updVisit_visits]

@[simp] theorem State.rollNotice_roster (w : Window) (cls : Nat) (s : State) :
    (s.rollNotice w cls).visits.roster = s.visits.roster := by
  unfold State.rollNotice
  dsimp only
  repeat' split
  all_goals simp [-State.updVisit_visits]

@[simp] theorem State.dropOffered_roster (s : State) :
    s.dropOffered.visits.roster = s.visits.roster := by
  simp [State.dropOffered, -State.updVisit_visits]

@[simp] theorem State.ownerTold_roster (f : TxFrame) (s : State) :
    (s.ownerTold f).visits.roster = s.visits.roster := by
  unfold State.ownerTold
  repeat' split
  all_goals simp [-State.updVisit_visits]

@[simp] theorem State.sent_roster (s : State) :
    s.sent.visits.roster = s.visits.roster := by
  unfold State.sent
  dsimp only
  split <;> simp [-State.updVisit_visits]

@[simp] theorem State.oneRoll_roster (s : State) :
    s.oneRoll.visits.roster = s.visits.roster := by
  simp [State.oneRoll, -State.updVisit_visits]

@[simp] theorem State.rolls_roster (k : Nat) (s : State) :
    (s.rolls k).visits.roster = s.visits.roster := by
  induction k generalizing s with
  | zero => rfl
  | succ k ih => exact (ih s.oneRoll).trans s.oneRoll_roster

@[simp] theorem State.setWindow_roster (w : Window) (s : State) :
    (s.setWindow w).visits.roster = s.visits.roster := by
  simp [State.setWindow, -State.updVisit_visits]

@[simp] theorem State.carryWindows_roster (k : Int) (w : Window) (s : State) :
    (s.carryWindows k w).visits.roster = s.visits.roster := by
  unfold State.carryWindows
  split <;> simp [-State.updVisit_visits]

@[simp] theorem State.expireHolds_roster (ns : List VisitNumber) (s : State) :
    (expireHolds ns s).visits.roster = s.visits.roster := by
  induction ns generalizing s with
  | nil => rfl
  | cons n ns ih => exact (ih (s.expireHold n)).trans (s.expireHold_roster n)

@[simp] theorem State.adoptTime_roster (p : GatePoint) (cls : Nat) (s : State) :
    (s.adoptTime p cls).visits.roster = s.visits.roster := by
  unfold State.adoptTime
  dsimp only
  simp [-State.updVisit_visits]

@[simp] theorem State.rollDue_roster (s : State) :
    s.rollDue.visits.roster = s.visits.roster := by
  unfold State.rollDue
  split <;> simp [-State.updVisit_visits]

@[simp] theorem State.cancelPayload_roster (bs : List Byte) (s : State) :
    (s.cancelPayload bs).visits.roster = s.visits.roster := by
  unfold State.cancelPayload
  split <;> simp [-State.updVisit_visits]

@[simp] theorem State.claimPayload_roster (c : LaneId) (bs : List Byte) (s : State) :
    (s.claimPayload c bs).visits.roster = s.visits.roster := by
  unfold State.claimPayload
  split <;> simp [-State.updVisit_visits]

end Sys2Proof.Machine
end

section
/-! O8: the lane queue, the pending arrivals and the lane mode stay in agreement. What the agreement asks depends on the
roster alone, and on it only through the mode and three lengths. -/

namespace Sys2Proof.Machine

/-- What is asked of a lane in mode `m` with `q` visits in the lane queue, `p` parked and `a` pending arrivals. -/
def laneCounts (m : LaneMode) (q p a : Nat) : Prop :=
  q ≤ 4 ∧ a ≤ 3 ∧ (0 < a → q = 4) ∧ ((m = .starting ∨ m = .laneClosed) → q = 0) ∧ (m = .draining → q ≠ 0) ∧
    (m = .starting → p = 0)

theorem State.laneSound_iff (s : State) :
    s.laneSound ↔
      laneCounts s.visits.mode s.visits.laneQueue.length s.visits.parked.length s.visits.pendingArrivals := by
  simp [State.laneSound, laneCounts]

/-- The agreement is a matter of the roster. -/
theorem State.laneSound.of_roster {s t : State} (h : s.laneSound) (hr : t.visits.roster = s.visits.roster) :
    t.laneSound := by
  simp only [VisitEngine.roster, Prod.mk.injEq] at hr
  obtain ⟨hmode, hqueue, hparked, hpending, -⟩ := hr
  have hqueue' : t.visits.laneQueue.length = s.visits.laneQueue.length := by simpa using congrArg List.length hqueue
  have hparked' : t.visits.parked.length = s.visits.parked.length := by simpa using congrArg List.length hparked
  rw [State.laneSound_iff] at h ⊢
  rwa [hmode, hqueue', hparked', hpending]

theorem State.laneSound.of_visits {s t : State} (h : s.laneSound) (hv : t.visits = s.visits) : t.laneSound :=
  h.of_roster (by rw [hv])

/-! ### What the operations do to the Visit Engine -/

@[simp] theorem State.setPendingArrivals_visits (n : Nat) (s : State) :
    (s.setPendingArrivals n).visits = { s.visits with pendingArrivals := n } := by
  simp [State.setPendingArrivals]

@[simp] theorem State.setMode_visits (m : LaneMode) (s : State) :
    (s.setMode m).visits = { s.visits with mode := m } := by
  simp [State.setMode]

theorem State.openVisit_length (st : SlotState) (notes : List Reason) (s : State) :
    (s.openVisit st notes).visits.laneQueue.length = s.visits.laneQueue.length + 1 := by
  simp [State.openVisit]

section
variable {s : State} {n : VisitNumber}

/-! ### Opening, and a change of the pending count -/

theorem State.laneSound.openVisit {st : SlotState} {notes : List Reason} (h : s.laneSound)
    (hopen : s.visits.mode = .laneOpen) (hroom : s.visits.laneQueue.length < 4) :
    (s.openVisit st notes).laneSound := by
  rw [State.laneSound_iff] at h ⊢
  rw [State.openVisit_length]
  show laneCounts s.visits.mode _ _ s.visits.pendingArrivals
  obtain ⟨-, hpending, hfull, -⟩ := h
  rw [hopen]
  refine ⟨by omega, hpending, by omega, by simp, by simp, by simp⟩

/-- An arrival pends where the lane queue is full. -/
theorem State.laneSound.setPendingArrivals {k : Nat} (h : s.laneSound) (hk : k ≤ 3)
    (hfull : 0 < k → s.visits.laneQueue.length = 4) : (s.setPendingArrivals k).laneSound := by
  rw [State.laneSound_iff] at h ⊢
  rw [State.setPendingArrivals_visits]
  obtain ⟨hq, -, -, hrest⟩ := h
  exact ⟨hq, hk, hfull, hrest⟩

theorem State.laneSound.pendingFalls (h : s.laneSound) :
    (s.setPendingArrivals (s.visits.pendingArrivals - 1)).laneSound := by
  obtain ⟨-, hpending, hfull, -⟩ := (State.laneSound_iff s).mp h
  exact h.setPendingArrivals (by omega) (by omega)

/-! ### A visit leaves the lane -/

/-- What holds once a visit has left a sound lane, before a pending arrival is opened and a DRAINING lane ends. -/
def State.laneOneFree (s : State) : Prop :=
  s.visits.laneQueue.length ≤ 3 ∧ s.visits.pendingArrivals ≤ 3 ∧
    (0 < s.visits.pendingArrivals → s.visits.laneQueue.length = 3) ∧
    (s.visits.mode = .laneOpen ∨ s.visits.mode = .draining)

theorem State.laneOneFree.of_roster {t : State} (h : s.laneOneFree) (hr : t.visits.roster = s.visits.roster) :
    t.laneOneFree := by
  simp only [VisitEngine.roster, Prod.mk.injEq] at hr
  obtain ⟨hmode, hqueue, -, hpending, -⟩ := hr
  have hqueue' : t.visits.laneQueue.length = s.visits.laneQueue.length := by simpa using congrArg List.length hqueue
  unfold State.laneOneFree at h ⊢
  rwa [hmode, hqueue', hpending]

/-- A sound lane with a visit in it is OPEN or DRAINING, and stands ready for what follows when a visit has left. -/
theorem State.laneSound.oneFree {t : State} (h : s.laneSound)
    (hlength : t.visits.laneQueue.length + 1 = s.visits.laneQueue.length) (hmode : t.visits.mode = s.visits.mode)
    (hpending : t.visits.pendingArrivals = s.visits.pendingArrivals) : t.laneOneFree := by
  obtain ⟨hfour, hthree, hfull, hempty, -, -⟩ := (State.laneSound_iff s).mp h
  refine ⟨by omega, by omega, by omega, ?_⟩
  rw [hmode]
  cases hm : s.visits.mode with
  | laneOpen => exact .inl rfl
  | draining => exact .inr rfl
  | starting => have := hempty (.inl hm); omega
  | laneClosed => have := hempty (.inr hm); omega

theorem State.endDraining_laneSound (hq : s.visits.laneQueue.length ≤ 4) (ha : s.visits.pendingArrivals ≤ 3)
    (hfull : 0 < s.visits.pendingArrivals → s.visits.laneQueue.length = 4)
    (hmode : s.visits.mode = .laneOpen ∨ s.visits.mode = .draining) : s.endDraining.laneSound := by
  unfold State.endDraining
  rw [State.laneSound_iff]
  split
  next hend =>
    obtain ⟨-, hnone⟩ := by simpa using hend
    rw [State.setMode_visits]
    simp only [hnone, List.length_nil] at hfull ⊢
    exact ⟨by omega, ha, hfull, by simp, by simp, by simp⟩
  next hstays =>
    refine ⟨hq, ha, hfull, ?_, ?_, ?_⟩
    · rcases hmode with hm | hm <;> simp [hm]
    · intro hm
      simpa [hm] using hstays
    · rcases hmode with hm | hm <;> simp [hm]

/-- A pending arrival takes the freed place, or a DRAINING lane left empty becomes CLOSED (R9, R23). -/
theorem State.laneOneFree.laneLeft (h : s.laneOneFree) : (s.laneLeft n).laneSound := by
  have hu : ((s.raiseVisitLeaves n).dropMessages n).laneOneFree := h.of_roster (by simp)
  generalize hu' : (s.raiseVisitLeaves n).dropMessages n = u at hu
  obtain ⟨hthree, hpending, hfull, hmode⟩ := hu
  have hended : u.openPendingArrival.endDraining.laneSound := by
    unfold State.openPendingArrival
    split
    next hopens =>
      obtain ⟨hsome, -⟩ := hopens
      have hlength := State.openVisit_length .approach [] u
      refine State.endDraining_laneSound ?_ ?_ ?_ ?_
      · rw [State.setPendingArrivals_visits]; dsimp only; omega
      · rw [State.setPendingArrivals_visits]; dsimp only; omega
      · rw [State.setPendingArrivals_visits]; dsimp only; omega
      · rw [State.setPendingArrivals_visits]; exact hmode
    next hstays =>
      have hnone : u.visits.pendingArrivals = 0 := by omega
      exact State.endDraining_laneSound (by omega) (by omega) (by omega) hmode
  unfold State.laneLeft
  rw [hu']
  exact hended.of_roster (by simp)

/-- Whether a visit of a number stands in the lane is a matter of the roster. -/
theorem any_number_of_roster {t : State} (hr : t.visits.roster = s.visits.roster) (n : VisitNumber) :
    t.visits.laneQueue.any (fun v => v.number == n) = s.visits.laneQueue.any (fun v => v.number == n) := by
  simp only [VisitEngine.roster, Prod.mk.injEq] at hr
  simpa [List.any_map, Function.comp_def] using congrArg (fun l => l.any (· == n)) hr.2.1

theorem State.visit?_number {v : Visit} (hv : s.visit? n = some v) : v.number = n := by
  simpa using List.find?_some hv

theorem length_eraseP_of_any {p : Visit → Bool} {vs : List Visit} (h : vs.any p = true) :
    (vs.eraseP p).length + 1 = vs.length := by
  obtain ⟨v, hv, hp⟩ := List.any_eq_true.mp h
  have hlength := List.length_eraseP_of_mem hv hp
  have hpos := List.length_pos_of_mem hv
  omega

theorem State.laneSound.reportHolds (h : s.laneSound) : s.reportHolds.laneSound := h.of_visits (by simp)

theorem State.laneSound.closeVisit (h : s.laneSound) : (s.closeVisit n).laneSound := by
  unfold State.closeVisit
  split
  · exact h
  next v _ =>
    dsimp only
    have hbefore : ((s.fillPlace { v with closeStamp := some s.point }).endClaimAtClose
        { v with closeStamp := some s.point }).visits.roster = s.visits.roster := by simp
    generalize (s.fillPlace { v with closeStamp := some s.point }).endClaimAtClose
        { v with closeStamp := some s.point } = u at hbefore ⊢
    have hu : u.laneSound := h.of_roster hbefore
    have hany := any_number_of_roster hbefore n
    rw [← hany]
    unfold State.freeSlot
    split
    next hin =>
      refine State.laneSound.reportHolds (State.laneOneFree.laneLeft ?_)
      exact hu.oneFree (length_eraseP_of_any hin) rfl rfl
    next =>
      refine State.laneSound.reportHolds ?_
      obtain ⟨hq, ha, hfull, hempty, hdraining, hparked⟩ := hu
      refine ⟨hq, ha, hfull, hempty, hdraining, fun hm => ?_⟩
      show u.visits.parked.eraseP _ = []
      rw [hparked hm]
      rfl

theorem State.laneSound.moveToParked {v : Visit} (h : s.laneSound)
    (hv : s.visits.laneQueue.any (fun w => w.number == v.number) = true) :
    (s.moveToParked v).laneSound := by
  refine State.laneSound.reportHolds (State.laneOneFree.laneLeft ?_)
  exact h.oneFree (length_eraseP_of_any hv) rfl rfl

theorem State.laneSound.leaveOverExit {v : Visit} (h : s.laneSound)
    (hv : s.visits.laneQueue.any (fun w => w.number == v.number) = true) :
    (s.leaveOverExit v).laneSound := by
  unfold State.leaveOverExit
  split
  · exact h.moveToParked hv
  · exact h.closeVisit

theorem State.laneSound.exitCheckExpired (h : s.laneSound) : (s.exitCheckExpired n).laneSound := by
  have hkept (f : Visit → Visit) (hf : ∀ v, (f v).number = v.number) : (s.updVisit n f).laneSound :=
    h.of_roster (State.updVisit_roster hf)
  unfold State.exitCheckExpired
  split
  · exact h
  next v hv =>
    split
    · dsimp only
      split
      next w hw =>
        refine (hkept _ (by simp)).leaveOverExit ?_
        rw [any_number_of_roster (State.updVisit_roster (by simp)), State.visit?_number hw]
        have hnumber : v.number = n := by
          have := List.find?_some hv
          simp_all
        exact List.any_eq_true.mpr ⟨v, List.mem_of_find?_eq_some hv, by simp [hnumber]⟩
      next => exact hkept _ (by simp)
    · exact hkept _ fun _ => rfl

/-! ### Events of the lane -/

theorem State.laneSound.loopAOccupied (h : s.laneSound) : s.loopAOccupied.laneSound := by
  unfold State.loopAOccupied
  split
  · exact h
  next hopen =>
    split
    next hroom => exact h.openVisit hopen hroom
    next hfull =>
      split
      next hpends =>
        obtain ⟨hfour, -⟩ := (State.laneSound_iff s).mp h
        exact h.setPendingArrivals (by omega) fun _ => by omega
      next => exact h.of_visits (by simp)
  · exact h.of_visits (by simp)
  · exact h.of_visits (by simp)

theorem State.laneSound.unseenAtPortal (h : s.laneSound) : s.unseenAtPortal.laneSound := by
  unfold State.unseenAtPortal
  split
  · exact h
  next hopen =>
    split
    next hroom => exact h.openVisit hopen hroom
    next => exact h.pendingFalls.of_visits (by simp)
  all_goals
    split
    · exact h.pendingFalls.of_visits (by simp)
    · exact h

theorem State.laneSound.loopPOccupied (h : s.laneSound) : s.loopPOccupied.laneSound := by
  have hoverrun : s.overrunPortal.laneSound := h.of_roster (by simp)
  unfold State.loopPOccupied
  dsimp only
  split
  · exact h
  · refine State.laneSound.of_roster ?_ (State.attachAllHeld_roster _)
    split
    · exact hoverrun.of_roster (by simp)
    · exact hoverrun.unseenAtPortal

theorem State.laneSound.loopXVacated (h : s.laneSound) : s.loopXVacated.laneSound := by
  unfold State.loopXVacated
  dsimp only
  refine State.laneSound.of_roster ?_ (State.yardLoopXVacated_roster _)
  split
  next v hv =>
    exact h.leaveOverExit (List.any_eq_true.mpr ⟨v, List.mem_of_find?_eq_some hv, by simp⟩)
  next => exact h

theorem State.laneSound.lineEvent {l : Line} {up : Bool} (h : s.laneSound) : (s.lineEvent l up).laneSound := by
  unfold State.lineEvent
  split
  case h_1 => exact h.loopAOccupied
  case h_3 => exact h.loopPOccupied
  case h_8 =>
    split
    · exact h.of_roster (by simp)
    · exact h.loopXVacated
  case h_4 | h_5 | h_7 =>
    split
    · exact h
    · exact h.of_roster (by simp)
  all_goals exact h.of_roster (by simp)

theorem State.laneSound.settleLine {l : Line} {ls : LineSet Bool} (h : s.laneSound) :
    (s.settleLine l ls).laneSound := State.laneSound.lineEvent h

theorem State.laneSound.pinChange {l : Line} {high : Bool} (h : s.laneSound) : (s.pinChange l high).laneSound := by
  unfold State.pinChange
  dsimp only
  repeat' split
  case h_2.isFalse.isTrue => exact State.laneSound.settleLine h
  all_goals exact h

theorem State.laneSound.debounceExpired {l : Line} (h : s.laneSound) : (s.debounceExpired l).laneSound := by
  unfold State.debounceExpired
  repeat' split
  · exact h
  · exact h.settleLine
  · exact h
  · exact h

/-! ### Commands of the office station -/

theorem State.laneSound.takeOpen (h : s.laneSound) : s.takeOpen.laneSound := by
  have hopens : s.visits.mode ≠ .starting → (s.setMode .laneOpen).laneSound := fun _ => by
    rw [State.laneSound_iff] at h ⊢
    rw [State.setMode_visits]
    obtain ⟨hq, ha, hfull, -⟩ := h
    exact ⟨hq, ha, hfull, by simp, by simp, by simp⟩
  unfold State.takeOpen
  split
  · exact h.of_visits (by simp)
  · exact hopens (by simp [*])
  · exact hopens (by simp [*])
  · exact h

theorem State.laneSound.takeClose (h : s.laneSound) : s.takeClose.laneSound := by
  unfold State.takeClose
  split
  · exact h.of_visits (by simp)
  · rw [State.laneSound_iff] at h ⊢
    rw [State.setMode_visits]
    obtain ⟨hq, ha, hfull, -⟩ := h
    split
    next hnone => exact ⟨hq, ha, hfull, by simpa using hnone, by simp, by simp⟩
    next hsome => exact ⟨hq, ha, hfull, by simp, by simpa using hsome, by simp⟩
  · exact h
  · exact h

theorem State.laneSound.checkReady (h : s.laneSound) : s.checkReady.laneSound := by
  unfold State.checkReady
  split
  next hready =>
    rw [State.laneSound_iff] at h ⊢
    rw [State.setMode_visits]
    obtain ⟨hq, ha, hfull, hempty, -⟩ := h
    have hstarting : s.visits.mode = .starting := by simp_all
    exact ⟨hq, ha, hfull, fun _ => hempty (.inl hstarting), by simp, by simp⟩
  next => exact h

theorem State.laneSound.retakeDeferred (h : s.laneSound) : s.retakeDeferred.laneSound := h.of_roster (by simp)

theorem State.laneSound.takeRelease (h : s.laneSound) : (s.takeRelease n).laneSound := by
  unfold State.takeRelease
  repeat' split
  · exact h.of_visits (by simp)
  · exact h.of_roster (by simp)
  · exact (State.laneSound.closeVisit (h.of_roster (by simp))).retakeDeferred
  · exact h.of_visits (by simp)

theorem State.laneSound.takeRefuse (h : s.laneSound) : (s.takeRefuse n).laneSound := by
  unfold State.takeRefuse
  repeat' split
  · exact h.of_visits (by simp)
  · exact h.of_roster (by simp)
  · exact (State.laneSound.closeVisit (h.of_roster (by simp))).retakeDeferred
  · exact h.of_visits (by simp)

theorem State.laneSound.takeTime {bs : List Byte} (h : s.laneSound) : (s.takeTime bs).laneSound := by
  unfold State.takeTime
  repeat' split
  · exact h.of_visits (by simp)
  · exact h.of_visits (by simp)
  · exact State.laneSound.checkReady (h.of_roster (by simp))
  · exact h
  · exact h.of_roster (by simp)

theorem State.laneSound.takeConfig {bs : List Byte} (h : s.laneSound) : (s.takeConfig bs).laneSound := by
  unfold State.takeConfig State.fixIfComplete State.fixConfig
  repeat' split
  · exact h.of_visits (by simp)
  · exact h.of_visits (by simp)
  · exact State.laneSound.checkReady (h.of_visits (by simp))
  · exact h

/-! ### Resets -/

theorem State.enterReset_laneSound (s : State) (cause : ResetCause) (lost : Nat) : (s.enterReset cause lost).laneSound := by
  simp [State.laneSound, State.enterReset_eq, State.resetImage, State.reset, VisitEngine.initial]

theorem State.laneSound.endReset {p : Straps} (h : s.laneSound) : (s.endReset p).laneSound := by
  unfold State.endReset State.announceStart
  dsimp only
  repeat' split
  all_goals exact h.of_visits (by simp)

theorem State.laneSound.handedOn {f : RxFrame} {rest : List RxFrame} (h : s.laneSound) :
    (s.handedOn f rest).laneSound := h.of_visits (by simp)

end

/-! ### Every command keeps the agreement -/

theorem State.laneSound.onFrame {s : State} {k : FrameKind} {act : RxFrame → State → State} (h : s.laneSound)
    (hact : ∀ f u, u.laneSound → (act f u).laneSound) : (s.onFrame k act).laneSound :=
  State.onFrame_induct State.laneSound h fun f _ => hact f _ h.handedOn

/-- A frame whose owner keeps the roster keeps the agreement. -/
theorem State.laneSound.onFrame_roster {s : State} {k : FrameKind} {act : RxFrame → State → State} (h : s.laneSound)
    (hact : ∀ f u, (act f u).visits.roster = u.visits.roster) : (s.onFrame k act).laneSound :=
  h.onFrame fun f u hu => hu.of_roster (hact f u)

theorem State.laneSound.onLoanFrame {s : State} {k : FrameKind} {act : LaneId → Window → Byte → State → State}
    (h : s.laneSound) (hact : ∀ c w b u, (act c w b u).visits.roster = u.visits.roster) :
    (s.onFrame k fun f => State.loanFrame (act f.source) f.payload).laneSound :=
  h.onFrame fun f u hu => State.loanFrame_induct State.laneSound hu fun w b => hu.of_roster (hact f.source w b u)

theorem State.laneSound.onClerkFrame {s : State} {k : FrameKind} {act : VisitNumber → State → State}
    (h : s.laneSound) (hact : ∀ n u, u.laneSound → (act n u).laneSound) :
    (s.onFrame k fun f => State.clerkFrame act f.payload).laneSound :=
  h.onFrame fun _ u hu => State.clerkFrame_induct State.laneSound (hu.of_visits (by simp)) fun n => hact n u hu

theorem State.laneSound.exec {c : Instr} {s t : State} (h : s.laneSound) (hexec : exec c s = .next t) :
    t.laneSound := by
  cases c <;> injection hexec with hexec <;> subst hexec
  case powerOn high p =>
    unfold State.powerUp
    dsimp only
    split
    · exact State.laneSound.endReset (State.enterReset_laneSound s .power 0)
    · exact State.enterReset_laneSound s .power 0
  case resetNFall =>
    unfold State.resetPinFalls
    split <;> exact h
  case lineReset =>
    unfold State.lineResetTaken
    split
    · exact State.enterReset_laneSound s .line s.placesUsed
    · exact h
  case resetNRelease p =>
    unfold State.resetPinRises
    dsimp only
    repeat' split
    · exact h
    · exact State.laneSound.endReset h
    · exact h
  case lineLevelChange => exact h.pinChange
  case debounceExpiry => exact h.debounceExpired
  case timeFrame => exact h.onFrame fun _ _ hu => hu.takeTime
  case openFrame => exact h.onFrame fun _ _ hu => hu.takeOpen
  case closeFrame => exact h.onFrame fun _ _ hu => hu.takeClose
  case releaseFrame => exact h.onClerkFrame fun _ _ hu => hu.takeRelease
  case refuseFrame => exact h.onClerkFrame fun _ _ hu => hu.takeRefuse
  case exitCheckExpiry => exact h.exitCheckExpired
  case configFrame => exact h.onFrame fun _ _ hu => hu.takeConfig
  case resetReqFrame p =>
    refine h.onFrame fun _ _ hu => ?_
    unfold State.takeResetReq
    repeat' split
    · exact hu.of_visits (by simp)
    · exact State.laneSound.endReset (State.enterReset_laneSound _ _ _)
    · exact hu
  case loanAskFrame | loanOfferFrame | loanTakeFrame | loanConfirmFrame | loanVoidFrame | loanDeclineFrame =>
    exact h.onLoanFrame fun _ _ _ _ => by simp
  case blockNoteFrame | bookingFrame | bookingCancelFrame | claimFrame | claimEndFrame | alertClearFrame
      | countersFetchFrame =>
    exact h.onFrame_roster fun _ _ => by simp
  all_goals exact h.of_roster (by simp)

/-- Settles O8. -/
theorem laneQueueAgreesWithMode : Obligations.LaneQueueAgreesWithMode :=
  step_keeps (fun _ _ h => h) fun _ _ _ h hexec => h.exec hexec

end Sys2Proof.Machine
end

section
/-! Rules about the flags, the counters and a debounced line, and the arrivals at LOOP_A (O25). -/

namespace Sys2Proof.Machine

/-- Two states that agree in every block are one. -/
theorem State.eq_of_blocks {s t : State}
    (h : s.start = t.start ∧ s.line = t.line ∧ s.clock = t.clock ∧ s.visits = t.visits ∧ s.reader = t.reader ∧
      s.booking = t.booking ∧ s.capacity = t.capacity ∧ s.survey = t.survey ∧ s.yard = t.yard ∧
      s.outcome = t.outcome ∧ s.bus = t.bus ∧ s.out = t.out ∧ s.freeIndex = t.freeIndex ∧ s.pending = t.pending) :
    s = t := by
  cases s
  cases t
  simpa using h

@[simp] theorem State.debouncedTo_frame (l : Line) (up : Bool) (s : State) :
    (s.debouncedTo l up).start = s.start ∧ (s.debouncedTo l up).clock = s.clock ∧
    (s.debouncedTo l up).visits = s.visits ∧ (s.debouncedTo l up).reader = s.reader ∧
    (s.debouncedTo l up).booking = s.booking ∧ (s.debouncedTo l up).capacity = s.capacity ∧
    (s.debouncedTo l up).survey = s.survey ∧ (s.debouncedTo l up).yard = s.yard ∧
    (s.debouncedTo l up).outcome = s.outcome ∧ (s.debouncedTo l up).bus = s.bus ∧ (s.debouncedTo l up).out = s.out ∧
    (s.debouncedTo l up).freeIndex = s.freeIndex ∧ (s.debouncedTo l up).pending = s.pending :=
  ⟨rfl, rfl, rfl, rfl, rfl, rfl, rfl, rfl, rfl, rfl, rfl, rfl, rfl⟩

/-! ### Flags and counters -/

theorem State.flag_putFlag_same (f : AlertFlag) (st : FlagState) (s : State) : (s.putFlag f st).flag f = st := by
  cases f <;> rfl

theorem State.flag_putFlag_ne {f g : AlertFlag} (h : g ≠ f) (st : FlagState) (s : State) :
    (s.putFlag f st).flag g = s.flag g := by
  cases f <;> cases g <;> first | rfl | exact absurd rfl h

/-- A change of a condition mark leaves every flag as set as it was. -/
theorem State.isSet_markCondition (f : AlertFlag) (b : Bool) (s : State) (g : AlertFlag) :
    ((s.markCondition f b).flag g).isSet = (s.flag g).isSet := by
  unfold State.markCondition
  split
  next hset =>
    by_cases hg : g = f
    · rw [hg, State.flag_putFlag_same, hset]
    · rw [State.flag_putFlag_ne hg]
  next => rfl

theorem State.flag_markCondition_ne {f g : AlertFlag} (h : g ≠ f) (b : Bool) (s : State) :
    (s.markCondition f b).flag g = s.flag g := by
  unfold State.markCondition
  split
  · exact State.flag_putFlag_ne h _ s
  · rfl

theorem State.markCondition_eq (f : AlertFlag) (b : Bool) (s : State) :
    s.markCondition f b = { s with outcome := { s.outcome with flags := (s.markCondition f b).outcome.flags } } := by
  unfold State.markCondition
  split <;> rfl

@[simp] theorem State.reportStatus_flags (s : State) : s.reportStatus.outcome.flags = s.outcome.flags := by
  unfold State.reportStatus State.handStatus
  repeat' split
  all_goals rfl

@[simp] theorem State.reportStatus_counters (s : State) : s.reportStatus.outcome.counters = s.outcome.counters := by
  unfold State.reportStatus State.handStatus
  repeat' split
  all_goals rfl

/-- A latched flag is set and its condition stands (R155). -/
theorem State.flag_latch (f : AlertFlag) (s : State) : (s.latch f).flag f = ⟨true, true⟩ := by
  unfold State.latch
  split
  · exact State.flag_putFlag_same f _ s
  · refine Eq.trans ?_ (State.flag_putFlag_same f ⟨true, true⟩ s)
    unfold State.flag State.flagSetChanged
    rw [State.reportStatus_flags]
    rfl

theorem State.latch_counters (f : AlertFlag) (s : State) : (s.latch f).outcome.counters = s.outcome.counters := by
  unfold State.latch
  split
  · rfl
  · unfold State.flagSetChanged
    rw [State.reportStatus_counters]
    rfl

/-- A counter other than CRC_ERRORS rises by one and nothing else changes (R159). -/
theorem State.count_eq {k : Counter} (hk : k ≠ .crcErrors) (s : State) :
    s.count k = s.setCounters (s.outcome.counters.put k (satAdd 255 (s.outcome.counters.get k) 1)) := by
  simp [State.count, hk]

/-- A lost arrival is counted, and LANE_OVERFLOW is set with the mark of the pending count (R22). -/
theorem State.arrivalLost_spec (s : State) :
    s.arrivalLost.outcome.counters.arrivalsLost = min 255 (s.outcome.counters.arrivalsLost + 1) ∧
      s.arrivalLost.flag .laneOverflow = ⟨true, decide (3 ≤ s.visits.pendingArrivals)⟩ := by
  have hset : (((s.count .arrivalsLost).latch .laneOverflow).flag .laneOverflow).isSet = true := by
    rw [State.flag_latch]
  have hmark : s.arrivalLost = ((s.count .arrivalsLost).latch .laneOverflow).putFlag .laneOverflow
      ⟨true, decide (3 ≤ s.visits.pendingArrivals)⟩ := by
    unfold State.arrivalLost State.overflowSense State.markCondition
    rw [if_pos hset]
    simp
  rw [hmark]
  refine ⟨?_, State.flag_putFlag_same _ _ _⟩
  show ((s.count .arrivalsLost).latch .laneOverflow).outcome.counters.arrivalsLost = _
  rw [State.latch_counters, State.count_eq (by decide)]
  rfl

/-! ### Arrivals at LOOP_A -/

/-- An arrival at a lane that is not open is counted, and LANE_CLOSED joins the Direction Queue where it has a place
(R10). -/
theorem State.closedArrival_spec {s t : State} (ht : t = s.placeLaneClosed.count .closedArrivals) :
    t = { s with outcome := { s.outcome with counters := t.outcome.counters }
                 yard := { s.yard with queue := t.yard.queue }, reader := t.reader, out := t.out } ∧
      t.outcome.counters.closedArrivals = min 255 (s.outcome.counters.closedArrivals + 1) ∧
      t.yard.queue = (if s.yard.queue.length < 4 then s.yard.queue ++ [⟨.laneClosed, none, []⟩] else s.yard.queue) := by
  have hyard : s.placeLaneClosed.yard = { s.yard with
      queue := if s.yard.queue.length < 4 then s.yard.queue ++ [⟨.laneClosed, none, []⟩] else s.yard.queue } := by
    unfold State.placeLaneClosed
    split
    · rw [State.joinQueue_yard]
    · rfl
  rw [State.count_eq (by decide)] at ht
  subst ht
  refine ⟨State.eq_of_blocks ?_, ?_, ?_⟩
  · simp [hyard]
  · simp [Counters.put, Counters.get, satAdd]
  · simp [hyard]

theorem State.loopAOccupied_laneOpen {s : State} (h : s.visits.mode = .laneOpen) :
    s.loopAOccupied =
      if s.visits.laneQueue.length < 4 then s.openVisit .approach []
      else if s.visits.pendingArrivals < 3 then s.setPendingArrivals (s.visits.pendingArrivals + 1)
      else s.arrivalLost := by
  unfold State.loopAOccupied
  rw [h]

theorem State.loopAOccupied_notOpen {s : State} (h : s.visits.mode = .laneClosed ∨ s.visits.mode = .draining) :
    s.loopAOccupied = s.placeLaneClosed.count .closedArrivals := by
  unfold State.loopAOccupied
  rcases h with h | h <;> rw [h]

/-- Settles O25, by the lane mode, the room in the lane queue and the pending count. -/
theorem loopAOccupiedIsAnArrival : Obligations.LoopAOccupiedIsAnArrival := by
  refine ⟨fun s u h hu => ?_, fun s u h hu => ?_⟩
  · rw [hu]
    exact State.exec_debounceExpiry_edge h
  · have hexec : exec (.debounceExpiry .loopA) s = .next u.loopAOccupied := by
      rw [hu]
      exact State.exec_debounceExpiry_edge h
    have hvisits : s.visits = u.visits := by simp [hu]
    have houtcome : s.outcome = u.outcome := by simp [hu]
    have hclock : s.clock = u.clock := by simp [hu]
    have hyard : s.yard = u.yard := by simp [hu]
    rw [hexec, hvisits, houtcome, hclock, hyard]
    refine ⟨fun hmode => ?_, fun hmode hroom => ?_, fun hmode hfull hpends => ⟨_, rfl, ?_, ?_, ?_⟩,
      fun hmode hfull hlost => ⟨_, rfl, ?_, ?_⟩, fun hmode => ⟨_, rfl, ?_⟩⟩
    · unfold State.loopAOccupied
      rw [hmode]
    · rw [State.loopAOccupied_laneOpen hmode, if_pos hroom]
      rfl
    · rw [State.loopAOccupied_laneOpen hmode, if_neg (by omega), if_pos hpends]
      exact State.markCondition_eq _ _ _
    · intro f
      rw [State.loopAOccupied_laneOpen hmode, if_neg (by omega), if_pos hpends]
      refine (State.isSet_markCondition _ _ _ f).trans ?_
      rw [State.flag, State.flag, houtcome]
    · intro f hf
      rw [State.loopAOccupied_laneOpen hmode, if_neg (by omega), if_pos hpends]
      refine (State.flag_markCondition_ne hf _ _).trans ?_
      rw [State.flag, State.flag, houtcome]
    · rw [State.loopAOccupied_laneOpen hmode, if_neg (by omega), if_neg (by omega)]
      exact State.eq_of_blocks (by simp)
    · rw [State.loopAOccupied_laneOpen hmode, if_neg (by omega), if_neg (by omega)]
      obtain ⟨hcount, hflag⟩ := u.arrivalLost_spec
      exact ⟨hcount, hflag.trans (by simp [hlost])⟩
    · exact State.closedArrival_spec (State.loopAOccupied_notOpen hmode)

end Sys2Proof.Machine
end

section
/-! Rules about visit records: what a changed record shows when it is looked up. -/

namespace Sys2Proof.Machine

section
variable {n : VisitNumber} {f g : Visit → Visit} {vs : List Visit} {s : State}

theorem updNumbered_id (n : VisitNumber) (vs : List Visit) : updNumbered n (fun v => v) vs = vs := by
  simp [updNumbered]

theorem updNumbered_updNumbered (hf : ∀ v, (f v).number = v.number) :
    updNumbered n g (updNumbered n f vs) = updNumbered n (fun v => g (f v)) vs := by
  unfold updNumbered
  rw [List.map_map]
  refine List.map_congr_left fun v _ => ?_
  show (if (if v.number = n then f v else v).number = n then g (if v.number = n then f v else v) else _) = _
  by_cases h : v.number = n
  · simp only [if_pos h, hf]
  · simp only [if_neg h]

theorem updNumbered_append (us : List Visit) :
    updNumbered n f (us ++ vs) = updNumbered n f us ++ updNumbered n f vs := List.map_append

theorem find?_updNumbered_same (hf : ∀ v, (f v).number = v.number) :
    (updNumbered n f vs).find? (fun v => v.number == n) = (vs.find? (fun v => v.number == n)).map f := by
  induction vs with
  | nil => rfl
  | cons v vs ih =>
    show List.find? _ ((if v.number = n then f v else v) :: updNumbered n f vs) = _
    by_cases h : v.number = n
    · simp [h, hf]
    · simp [h, ih]

theorem find?_updNumbered_ne {m : VisitNumber} (hm : m ≠ n) (hf : ∀ v, (f v).number = v.number) :
    (updNumbered n f vs).find? (fun v => v.number == m) = vs.find? (fun v => v.number == m) := by
  induction vs with
  | nil => rfl
  | cons v vs ih =>
    show List.find? _ ((if v.number = n then f v else v) :: updNumbered n f vs) = _
    by_cases h : v.number = n
    · have hne : ¬ n = m := fun e => hm e.symm
      simp [h, hf, hne, ih]
    · by_cases hv : v.number = m
      · simp [hv, hm]
      · simp [h, hv, ih]

theorem State.updVisit_id (n : VisitNumber) (s : State) : s.updVisit n (fun v => v) = s := by
  simp [State.updVisit, updNumbered_id]

theorem State.updVisit_updVisit (hf : ∀ v, (f v).number = v.number) :
    (s.updVisit n f).updVisit n g = s.updVisit n fun v => g (f v) := by
  simp [State.updVisit, updNumbered_updNumbered hf]

theorem State.visit?_updVisit_same (hf : ∀ v, (f v).number = v.number) :
    (s.updVisit n f).visit? n = (s.visit? n).map f := by
  unfold State.visit? State.allVisits
  rw [State.updVisit_visits, ← updNumbered_append, find?_updNumbered_same hf]

theorem State.visit?_updVisit_ne {m : VisitNumber} (hm : m ≠ n) (hf : ∀ v, (f v).number = v.number) :
    (s.updVisit n f).visit? m = s.visit? m := by
  unfold State.visit? State.allVisits
  rw [State.updVisit_visits, ← updNumbered_append, find?_updNumbered_ne hm hf]

theorem State.visit?_of_visits {t : State} (h : t.visits = s.visits) (n : VisitNumber) : t.visit? n = s.visit? n := by
  unfold State.visit? State.allVisits
  rw [h]

end

end Sys2Proof.Machine
end

section
/-! O26: LOOP_P occupied. -/

namespace Sys2Proof.Machine

/-! ### Held reports (R51) -/

theorem ReaderPort.get_put_same (r : ReaderPort) (ch : Channel) (c : ReaderChannel) : (r.put ch c).get ch = c := by
  cases ch <;> rfl

theorem ReaderPort.get_put_ne {ch ch' : Channel} (h : ch' ≠ ch) (r : ReaderPort) (c : ReaderChannel) :
    (r.put ch c).get ch' = r.get ch' := by
  cases ch <;> cases ch' <;> first | rfl | exact absurd rfl h

theorem ReaderPort.put_get (r : ReaderPort) (ch : Channel) : r.put ch (r.get ch) = r := by
  cases ch <;> rfl

/-- A report buffer emptied. -/
def ReaderChannel.emptied (c : ReaderChannel) : ReaderChannel :=
  if c.buffer = none then c else { c with buffer := none, expiry := .stopped }

/-- A held report written into a record; with no report the record stays. -/
def Visit.attachHeld (v : Visit) : Option Report → Visit
  | some r => (v.attach r).getD v
  | none => v

@[simp] theorem Visit.attachHeld_number (v : Visit) (r : Option Report) : (v.attachHeld r).number = v.number := by
  cases r with
  | none => rfl
  | some r => exact (Visit.attach_keeps r v).1

@[simp] theorem Visit.attachHeld_state (v : Visit) (r : Option Report) : (v.attachHeld r).state = v.state := by
  cases r with
  | none => rfl
  | some r => exact (Visit.attach_keeps r v).2

theorem State.attachHeld_eq (n : VisitNumber) (ch : Channel) (s : State) :
    s.attachHeld n ch = (s.setChannel ch (s.channel ch).emptied).updVisit n (·.attachHeld (s.channel ch).buffer) := by
  unfold State.attachHeld ReaderChannel.emptied
  cases h : (s.channel ch).buffer with
  | none =>
    rw [if_pos rfl]
    refine Eq.trans ?_ (State.updVisit_id n _).symm
    exact congrArg (fun r => { s with reader := r }) (ReaderPort.put_get s.reader ch).symm
  | some r =>
    rw [if_neg (by simp)]
    rfl

theorem State.channel_attachHeld_same (n : VisitNumber) (ch : Channel) (s : State) :
    (s.attachHeld n ch).channel ch = (s.channel ch).emptied := by
  rw [State.attachHeld_eq]
  exact ReaderPort.get_put_same s.reader ch _

theorem State.channel_attachHeld_ne {ch ch' : Channel} (h : ch' ≠ ch) (n : VisitNumber) (s : State) :
    (s.attachHeld n ch).channel ch' = s.channel ch' := by
  rw [State.attachHeld_eq]
  exact ReaderPort.get_put_ne h s.reader _

/-- The held reports of the three channels written into a record in channel order (R24). -/
def State.heldAttached (s : State) (v : Visit) : Visit :=
  ((v.attachHeld (s.channel .plateReader).buffer).attachHeld (s.channel .codeReader).buffer).attachHeld
    (s.channel .sealReader).buffer

@[simp] theorem State.heldAttached_state (s : State) (v : Visit) : (s.heldAttached v).state = v.state := by
  simp [State.heldAttached]

theorem State.heldAttached_eq_foldl (s : State) (v : Visit) : s.heldAttached v =
    ([.plateReader, .codeReader, .sealReader].filterMap fun ch => (s.channel ch).buffer).foldl
      (fun (x : Visit) r => (x.attach r).getD x) v := by
  unfold State.heldAttached
  cases hp : (s.channel .plateReader).buffer <;> cases hc : (s.channel .codeReader).buffer <;>
    cases hs : (s.channel .sealReader).buffer <;> simp [hp, hc, hs, Visit.attachHeld]

/-- With a visit in the portal its record takes the held reports and every buffer empties. -/
theorem State.attachAllHeld_spec {s : State} {v : Visit} (h : s.portal? = some v) :
    s.attachAllHeld.visits = (s.updVisit v.number s.heldAttached).visits ∧
      s.attachAllHeld.reader.display = s.reader.display ∧
      ∀ ch, s.attachAllHeld.channel ch = (s.channel ch).emptied := by
  have heq : s.attachAllHeld =
      ((s.attachHeld v.number .plateReader).attachHeld v.number .codeReader).attachHeld v.number .sealReader := by
    unfold State.attachAllHeld
    rw [h]
  have hcode : (s.attachHeld v.number .plateReader).channel .codeReader = s.channel .codeReader :=
    State.channel_attachHeld_ne (by decide) _ _
  have hseal : ((s.attachHeld v.number .plateReader).attachHeld v.number .codeReader).channel .sealReader =
      s.channel .sealReader :=
    (State.channel_attachHeld_ne (by decide) _ _).trans (State.channel_attachHeld_ne (by decide) _ _)
  rw [heq]
  refine ⟨?_, ?_, ?_⟩
  · rw [State.attachHeld_eq, hseal, State.attachHeld_eq, hcode, State.attachHeld_eq]
    simp only [State.updVisit_visits, State.setChannel_visits]
    simp only [updNumbered_updNumbered (Visit.attachHeld_number · _),
      updNumbered_updNumbered (fun v => (Visit.attachHeld_number _ _).trans (Visit.attachHeld_number v _))]
    rfl
  · simp only [State.attachHeld_eq]
    rfl
  · intro ch
    cases ch with
    | plateReader =>
      rw [State.channel_attachHeld_ne (by decide), State.channel_attachHeld_ne (by decide), State.channel_attachHeld_same]
    | codeReader => rw [State.channel_attachHeld_ne (by decide), State.channel_attachHeld_same, hcode]
    | sealReader => rw [State.channel_attachHeld_same, hseal]

/-- The visit in the portal stays there while it takes the held reports. -/
theorem State.portal?_attachAllHeld {s : State} {v : Visit} (h : s.portal? = some v) :
    s.attachAllHeld.portal?.isSome = true := by
  have hqueue : s.attachAllHeld.visits.laneQueue = updNumbered v.number s.heldAttached s.visits.laneQueue := by
    rw [(State.attachAllHeld_spec h).1, State.updVisit_visits]
  unfold State.portal? State.oldest? at h ⊢
  rw [hqueue, List.find?_isSome]
  refine ⟨s.heldAttached v, List.mem_map.mpr ⟨v, List.mem_of_find?_eq_some h, if_pos rfl⟩, ?_⟩
  rw [State.heldAttached_state]
  exact List.find?_some (p := fun v : Visit => v.state == .atPortal) h

/-- With every buffer empty no record and no channel changes. -/
theorem State.attachAllHeld_of_empty {s : State} (h : ∀ ch, (s.channel ch).buffer = none) : s.attachAllHeld = s := by
  have hnone (n : VisitNumber) (ch : Channel) : s.attachHeld n ch = s := by
    unfold State.attachHeld
    rw [h ch]
  unfold State.attachAllHeld
  split
  · rw [hnone, hnone, hnone]
  · rfl

/-! ### A truck comes to the portal -/

/-- The visit brought to the portal is the one in it, where none was. -/
theorem State.portal?_toPortal {s : State} {v : Visit} (hnone : s.portal? = none) (hv : v ∈ s.visits.laneQueue) :
    ∃ w, (s.setVisitState v.number .atPortal).portal? = some w ∧ w.number = v.number := by
  have hqueue : (s.setVisitState v.number .atPortal).visits.laneQueue =
      updNumbered v.number (fun w => { w with state := .atPortal }) s.visits.laneQueue := rfl
  unfold State.portal? State.oldest? at hnone ⊢
  rw [hqueue]
  cases hfind : (updNumbered v.number (fun w => { w with state := .atPortal }) s.visits.laneQueue).find?
      (fun w => w.state == .atPortal) with
  | none =>
    have hmem : ({ v with state := .atPortal } : Visit) ∈
        updNumbered v.number (fun w => { w with state := .atPortal }) s.visits.laneQueue :=
      List.mem_map.mpr ⟨v, hv, if_pos rfl⟩
    exact absurd (List.find?_eq_none.mp hfind _ hmem) (by simp)
  | some w =>
    obtain ⟨x, hx, hxw⟩ := List.mem_map.mp (List.mem_of_find?_eq_some hfind)
    refine ⟨w, rfl, ?_⟩
    by_cases hnumber : x.number = v.number
    · rw [← hxw, if_pos hnumber]
      exact hnumber
    · rw [if_neg hnumber] at hxw
      have hat := List.find?_some hfind
      rw [← hxw] at hat
      exact absurd hat (List.find?_eq_none.mp hnone x hx)

/-- The truck at the portal once that is clear: the oldest APPROACH visit, or one not seen at LOOP_A (R24). -/
def State.truckToPortal (s : State) : State :=
  match s.oldest? (fun v => v.state == .approach) with
  | some v => s.setVisitState v.number .atPortal
  | none => s.unseenAtPortal

theorem State.truckToPortal_some {s : State} {v : Visit} (h : s.oldest? (fun v => v.state == .approach) = some v) :
    s.truckToPortal = s.setVisitState v.number .atPortal := by
  unfold State.truckToPortal
  rw [h]

theorem State.truckToPortal_none {s : State} (h : s.oldest? (fun v => v.state == .approach) = none) :
    s.truckToPortal = s.unseenAtPortal := by
  unfold State.truckToPortal
  rw [h]

theorem State.truckToPortal_reader (s : State) : s.truckToPortal.reader = s.reader := by
  unfold State.truckToPortal
  split
  · rfl
  · simp

theorem State.loopPOccupied_eq {s : State} (h : s.visits.mode ≠ .starting) :
    s.loopPOccupied = s.overrunPortal.truckToPortal.attachAllHeld := by
  unfold State.loopPOccupied
  exact if_neg h

/-- With no report held, LOOP_P occupied is the clearing of the portal and the truck that comes to it. -/
theorem State.loopPOccupied_of_empty {s : State} (h : s.visits.mode ≠ .starting)
    (hempty : ∀ ch, (s.channel ch).buffer = none) : s.loopPOccupied = s.overrunPortal.truckToPortal := by
  rw [State.loopPOccupied_eq h]
  apply State.attachAllHeld_of_empty
  intro ch
  have hreader : s.overrunPortal.truckToPortal.reader = s.reader := by
    rw [State.truckToPortal_reader]
    simp
  unfold State.channel
  rw [hreader]
  exact hempty ch

theorem State.overrunPortal_none {s : State} (h : s.portal? = none) : s.overrunPortal = s := by
  unfold State.overrunPortal
  rw [h]

theorem State.overrunPortal_some {s : State} {v : Visit} (h : s.portal? = some v) :
    s.overrunPortal = (s.portalClose v.number).updVisit v.number
      fun w => { w.addReason .portalOverrun with state := .toStop } := by
  unfold State.overrunPortal
  rw [h]
  exact State.updVisit_updVisit (Visit.addReason_number _)

/-- A truck not seen at LOOP_A opens a visit at the portal, or is lost (R24). -/
theorem State.unseenAtPortal_opens {s : State} (h : s.visits.mode = .laneOpen) (hroom : s.visits.laneQueue.length < 4) :
    s.unseenAtPortal = { s with visits := { s.visits with
      laneQueue := s.visits.laneQueue ++ [{ Visit.fresh s.visits.nextNumber .atPortal s.point with
        active := [.approachUnseen] }]
      nextNumber := s.visits.nextNumber + 1 } } := by
  unfold State.unseenAtPortal
  rw [h]
  exact if_pos hroom

theorem State.unseenAtPortal_loses {s : State}
    (h : (s.visits.mode = .laneOpen ∧ 4 ≤ s.visits.laneQueue.length) ∨
      ((s.visits.mode = .laneClosed ∨ s.visits.mode = .draining) ∧ 0 < s.visits.pendingArrivals)) :
    s.unseenAtPortal = (s.setPendingArrivals (s.visits.pendingArrivals - 1)).arrivalLost := by
  unfold State.unseenAtPortal
  rcases h with ⟨hmode, hfull⟩ | ⟨hmode | hmode, hpending⟩
  · rw [hmode]
    exact if_neg (by omega)
  · rw [hmode]
    exact if_pos hpending
  · rw [hmode]
    exact if_pos hpending

theorem State.unseenAtPortal_none {s : State} (h : s.visits.mode = .laneClosed ∨ s.visits.mode = .draining)
    (hnone : s.visits.pendingArrivals = 0) : s.unseenAtPortal = s := by
  unfold State.unseenAtPortal
  rcases h with hmode | hmode
  · rw [hmode]
    exact if_neg (by omega)
  · rw [hmode]
    exact if_neg (by omega)

/-- What stands of a lost truck beside the pending count (R22, R24). -/
theorem State.pendingLost_spec {s t : State} (k : Nat) (ht : t = (s.setPendingArrivals k).arrivalLost) :
    t = { s with visits := { s.visits with pendingArrivals := k }, outcome := t.outcome, bus := t.bus } ∧
      t.outcome.counters.arrivalsLost = min 255 (s.outcome.counters.arrivalsLost + 1) ∧
      t.flag .laneOverflow = ⟨true, decide (3 ≤ k)⟩ := by
  obtain ⟨hcount, hflag⟩ := (s.setPendingArrivals k).arrivalLost_spec
  have hcounters : (s.setPendingArrivals k).outcome.counters = s.outcome.counters :=
    by
    unfold State.setPendingArrivals State.overflowSense
    rw [State.markCondition_eq]
  subst ht
  refine ⟨State.eq_of_blocks (by simp [State.setPendingArrivals]), ?_, ?_⟩
  · rw [hcount, hcounters]
  · rw [hflag]
    simp

/-- What the truck does at a portal that is clear, told by the mode, room and pending count of a state with the same
roster. -/
theorem State.truckToPortal_spec {s x : State} (hr : x.visits.roster = s.visits.roster) (hc : x.clock = s.clock)
    (hunseen : x.oldest? (fun v => v.state == .approach) = none) :
    (s.visits.mode = .laneOpen → s.visits.laneQueue.length < 4 →
      x.truckToPortal = { x with visits := { x.visits with
        laneQueue := x.visits.laneQueue ++ [{ Visit.fresh s.visits.nextNumber .atPortal ⟨s.clock.window, s.clock.tenths⟩
          with active := [.approachUnseen] }]
        nextNumber := s.visits.nextNumber + 1 } }) ∧
    ((s.visits.mode = .laneOpen ∧ 4 ≤ s.visits.laneQueue.length) ∨
        ((s.visits.mode = .laneClosed ∨ s.visits.mode = .draining) ∧ 0 < s.visits.pendingArrivals) →
      x.truckToPortal = (x.setPendingArrivals (s.visits.pendingArrivals - 1)).arrivalLost) ∧
    (s.visits.mode = .laneClosed ∨ s.visits.mode = .draining → s.visits.pendingArrivals = 0 → x.truckToPortal = x) := by
  rw [State.truckToPortal_none hunseen]
  simp only [VisitEngine.roster, Prod.mk.injEq] at hr
  obtain ⟨hmode, hqueue, -, hpending, hnext⟩ := hr
  have hlength : x.visits.laneQueue.length = s.visits.laneQueue.length := by simpa using congrArg List.length hqueue
  rw [← hmode, ← hlength, ← hpending, ← hnext, ← hc]
  exact ⟨State.unseenAtPortal_opens, State.unseenAtPortal_loses, State.unseenAtPortal_none⟩

/-- Settles O26. -/
theorem loopPOccupiedFillsThePortal : Obligations.LoopPOccupiedFillsThePortal := by
  intro s u h hu
  have hexec : exec (.debounceExpiry .loopP) s = .next u.loopPOccupied := by
    rw [hu]
    exact State.exec_debounceExpiry_edge h
  have hvisits : u.visits = s.visits := by simp [hu]
  have hclock : u.clock = s.clock := by simp [hu]
  have hreader : u.reader = s.reader := by simp [hu]
  have hportal : u.portal? = s.portal? := by unfold State.portal? State.oldest?; rw [hvisits]
  have holdest : u.oldest? (fun v => v.state == .approach) = s.oldest? (fun v => v.state == .approach) := by
    unfold State.oldest?; rw [hvisits]
  have hchannel (ch : Channel) : u.channel ch = s.channel ch := by unfold State.channel; rw [hreader]
  have hempty' (hempty : ∀ ch, (s.channel ch).buffer = none) (ch) : (u.channel ch).buffer = none := by
    rw [hchannel, hempty]
  rw [hexec]
  refine ⟨fun hmode => congrArg _ (if_pos (hvisits ▸ hmode)), fun hmode hnone hempty => ⟨fun v hv => ?_, fun hunseen => ?_⟩,
    fun hmode hnone v hv => ⟨_, rfl, ?_⟩, fun x hmode hempty hx => ?_⟩
  · rw [State.loopPOccupied_of_empty (hvisits ▸ hmode) (hempty' hempty), State.overrunPortal_none (hportal.trans hnone),
      State.truckToPortal_some (holdest.trans hv)]
    rfl
  · obtain ⟨hopens, -⟩ := State.truckToPortal_spec (congrArg _ hvisits) hclock (holdest.trans hunseen)
    intro hopen hroom
    rw [State.loopPOccupied_of_empty (hvisits ▸ hmode) (hempty' hempty), State.overrunPortal_none (hportal.trans hnone),
      hopens hopen hroom]
  · have heq : u.loopPOccupied = (u.setVisitState v.number .atPortal).attachAllHeld := by
      rw [State.loopPOccupied_eq (hvisits ▸ hmode), State.overrunPortal_none (hportal.trans hnone),
        State.truckToPortal_some (holdest.trans hv)]
    have hmem : v ∈ u.visits.laneQueue := List.mem_of_find?_eq_some (holdest.trans hv)
    obtain ⟨w, hw, hnumber⟩ := State.portal?_toPortal (hportal.trans hnone) hmem
    obtain ⟨hrecords, hdisplay, hchannels⟩ := State.attachAllHeld_spec hw
    rw [heq]
    refine ⟨State.eq_of_blocks (by simp [State.setVisitState]), ?_, ?_, ?_, ?_⟩
    · rw [hrecords, hnumber]
      have hheld : (u.setVisitState v.number .atPortal).heldAttached = u.heldAttached := rfl
      rw [hheld, State.setVisitState, State.updVisit_updVisit (f := fun w => { w with state := .atPortal }) fun _ => rfl]
      simp only [State.heldAttached_eq_foldl, hchannel]
    · exact State.portal?_attachAllHeld hw
    · rw [hdisplay]
      exact congrArg _ hreader
    · intro ch
      rw [hchannels ch, ← hchannel ch]
      rfl
  · have hx' : x = u.overrunPortal := by
      rcases hx with ⟨hnone, hx⟩ | ⟨v, hv, hx⟩
      · rw [hx, State.overrunPortal_none (hportal.trans hnone)]
      · rw [hx, State.overrunPortal_some (hportal.trans hv)]
    have hloop : u.loopPOccupied = x.truckToPortal := by
      rw [State.loopPOccupied_of_empty (hvisits ▸ hmode) (hempty' hempty), hx']
    have hroster : x.visits.roster = s.visits.roster := by rw [hx', State.overrunPortal_roster, hvisits]
    have hxclock : x.clock = s.clock := by rw [hx', ← hclock]; simp
    rw [hloop]
    refine ⟨fun a ha => congrArg _ (State.truckToPortal_some ha), fun hunseen hopen hroom => ?_,
      fun hunseen hlost => ⟨_, rfl, ?_⟩, fun hunseen hclosed hpending => ?_⟩
    · exact congrArg _ ((State.truckToPortal_spec hroster hxclock hunseen).1 hopen hroom)
    · exact State.pendingLost_spec _ ((State.truckToPortal_spec hroster hxclock hunseen).2.1 hlost)
    · exact congrArg _ ((State.truckToPortal_spec hroster hxclock hunseen).2.2 hclosed hpending)

end Sys2Proof.Machine
end

section
/-! Rules about the frames handed to the Peer Bus Interface and about the places of the Outcome Queue: what an operation
that only reports (flags, modes, block notes) leaves, and what the hand-over of a class-0 frame leaves. -/

namespace Sys2Proof.Machine

/-! ### Operations that only report -/

/-- From `r` to `s` the Transmit Queue has only gained frames, and the rest of the bus unit and the places of the Outcome
Queue are as they were. -/
def State.onlyReports (r s : State) : Prop :=
  s.bus = { r.bus with txQueue := s.bus.txQueue } ∧ (∀ e ∈ r.bus.txQueue, e ∈ s.bus.txQueue) ∧
    s.outcome.reserved = r.outcome.reserved ∧ s.outcome.filled = r.outcome.filled

theorem State.onlyReports.refl (s : State) : s.onlyReports s := ⟨rfl, fun _ h => h, rfl, rfl⟩

theorem mem_insertFrame (e x : TxEntry) (q : List TxEntry) : x ∈ insertFrame e q ↔ x = e ∨ x ∈ q := by
  induction q with
  | nil => simp [insertFrame]
  | cons y ys ih =>
    unfold insertFrame
    split
    · simp [ih, or_left_comm]
    · simp

theorem length_insertFrame (e : TxEntry) (q : List TxEntry) : (insertFrame e q).length = q.length + 1 := by
  induction q with
  | nil => rfl
  | cons y ys ih =>
    unfold insertFrame
    split
    · simp [ih]
    · simp

section
variable {r s t : State}

theorem State.onlyReports.of_same (h : r.onlyReports s) (hbus : t.bus = s.bus)
    (hreserved : t.outcome.reserved = s.outcome.reserved) (hfilled : t.outcome.filled = s.outcome.filled) :
    r.onlyReports t := by
  unfold State.onlyReports at h ⊢
  rwa [hbus, hreserved, hfilled]

theorem State.onlyReports.trans (h : r.onlyReports s) (h' : s.onlyReports t) : r.onlyReports t := by
  obtain ⟨hbus, hqueue, hreserved, hfilled⟩ := h
  obtain ⟨hbus', hqueue', hreserved', hfilled'⟩ := h'
  refine ⟨hbus'.trans ?_, fun e he => hqueue' e (hqueue e he), hreserved'.trans hreserved, hfilled'.trans hfilled⟩
  rw [hbus]

theorem State.onlyReports.degraded (h : r.onlyReports s) : s.bus.degraded = r.bus.degraded := by
  rw [h.1]

theorem State.onlyReports.outbox? (h : r.onlyReports s) (o : OutboxOwner) : s.outbox? o = r.outbox? o := by
  unfold State.outbox?
  rw [h.1]

theorem State.onlyReports.holdsFrame {f : TxFrame} (h : r.onlyReports s) (hf : r.holdsFrame f) : s.holdsFrame f := by
  obtain ⟨hbus, hqueue, -⟩ := h
  rcases hf with ⟨e, he, hef⟩ | ⟨e, he, hef⟩
  · exact .inl ⟨e, hqueue e he, hef⟩
  · refine .inr ⟨e, ?_, hef⟩
    rw [hbus]
    exact he

theorem State.onlyReports.enqueue {f : TxFrame} (h : r.onlyReports s) : r.onlyReports (s.enqueue f) :=
  h.trans ⟨rfl, fun e he => (mem_insertFrame ⟨f, false⟩ e _).mpr (.inr he), rfl, rfl⟩

theorem State.onlyReports.reportStatus (h : r.onlyReports s) : r.onlyReports s.reportStatus := by
  unfold State.reportStatus State.handStatus
  repeat' split
  · exact h
  · exact h
  · exact h.enqueue

theorem State.onlyReports.flagSetChanged (h : r.onlyReports s) : r.onlyReports s.flagSetChanged :=
  State.onlyReports.reportStatus h

theorem State.onlyReports.latch {f : AlertFlag} (h : r.onlyReports s) : r.onlyReports (s.latch f) := by
  unfold State.latch
  split
  · exact h
  · exact State.onlyReports.flagSetChanged h

theorem State.onlyReports.markCondition {f : AlertFlag} {b : Bool} (h : r.onlyReports s) :
    r.onlyReports (s.markCondition f b) := by
  unfold State.markCondition
  split <;> exact h

theorem State.onlyReports.reportHolds (h : r.onlyReports s) : r.onlyReports s.reportHolds := by
  unfold State.reportHolds State.setHoldWaiting
  split
  · exact h
  · exact State.onlyReports.flagSetChanged h

theorem State.onlyReports.setMode {m : LaneMode} (h : r.onlyReports s) : r.onlyReports (s.setMode m) :=
  State.onlyReports.reportStatus h

theorem State.onlyReports.updVisit {n : VisitNumber} {f : Visit → Visit} (h : r.onlyReports s) :
    r.onlyReports (s.updVisit n f) := h

theorem State.onlyReports.count {k : Counter} (h : r.onlyReports s) : r.onlyReports (s.count k) := by
  unfold State.count
  dsimp only
  split
  · exact State.onlyReports.latch h
  · exact h

theorem State.onlyReports.sendNote {block : Text} (h : r.onlyReports s) : r.onlyReports (s.sendNote block) := by
  unfold State.sendNote State.handNote
  repeat' split
  · exact h.count
  · exact h.enqueue
  · exact h

theorem State.onlyReports.routeDrops {ms : List Move} (h : r.onlyReports s) : r.onlyReports (routeDrops ms s).2 := by
  induction ms generalizing s with
  | nil => exact h
  | cons m ms ih =>
    refine ih (s := (s.routeDrop m).2) ?_
    unfold State.routeDrop
    repeat' split
    · exact State.onlyReports.sendNote h
    · exact h.sendNote
    · exact h

theorem State.onlyReports.routeVerdict {v : Visit} {vd : Verdict} (h : r.onlyReports s) :
    r.onlyReports (s.routeVerdict v vd).2 := by
  unfold State.routeVerdict
  split
  · exact h.routeDrops
  all_goals exact h

theorem State.onlyReports.placeVisitMessage {m : Message} (h : r.onlyReports s) :
    r.onlyReports (s.placeVisitMessage m) := h.of_same (by simp) (by simp) (by simp)

theorem State.onlyReports.giveVerdict {n : VisitNumber} {vd : Verdict} (h : r.onlyReports s) :
    r.onlyReports (s.giveVerdict n vd) := by
  unfold State.giveVerdict
  split
  · exact h
  next v _ =>
    have hrouted : r.onlyReports ((s.writeVerdict n vd).routeVerdict v vd).2 := State.onlyReports.routeVerdict h
    exact State.onlyReports.reportHolds hrouted.updVisit.placeVisitMessage.updVisit

theorem State.onlyReports.admitWith {n : VisitNumber} {src : FlexSource} (h : r.onlyReports s) :
    r.onlyReports (s.admitWith n src) := by
  unfold State.admitWith
  split
  · exact h
  · exact h.updVisit.giveVerdict

theorem State.onlyReports.enterClerkHold {n : VisitNumber} (h : r.onlyReports s) :
    r.onlyReports (s.enterClerkHold n) := by
  unfold State.enterClerkHold
  split
  · exact h
  · refine State.onlyReports.reportHolds ?_
    split
    · exact h
    · exact h.updVisit.placeVisitMessage

theorem State.onlyReports.giveNoCapacity {n : VisitNumber} (h : r.onlyReports s) :
    r.onlyReports (s.giveNoCapacity n) := h.updVisit.enterClerkHold

theorem State.onlyReports.enterPlaceHold {n : VisitNumber} (h : r.onlyReports s) :
    r.onlyReports (s.enterPlaceHold n) := h.updVisit.placeVisitMessage.reportHolds

theorem State.onlyReports.serveWaiter {n : VisitNumber} {rest : List VisitNumber} {src : FlexSource}
    (h : r.onlyReports s) : r.onlyReports (s.serveWaiter n rest src) := State.onlyReports.admitWith h

theorem State.onlyReports.offerOutcome (h : r.onlyReports s) : r.onlyReports s.offerOutcome := by
  unfold State.offerOutcome
  repeat' split
  · exact h
  · exact h.enqueue
  · exact h

/-! ### A class-0 frame handed over -/

theorem State.onlyReports.displaced {f : TxFrame} (h : r.onlyReports s) : r.onlyReports (s.displaced f) := by
  unfold State.displaced State.addBack
  dsimp only
  repeat' split
  · exact h
  · exact h
  · exact State.onlyReports.latch h
  · exact h
  · exact h

/-- A class-0 frame whose owner's outbox is empty finds a place (R166, R167). -/
theorem State.handClass0_holds {o : OutboxOwner} {f : TxFrame} (h : s.outbox? o = none) :
    (s.handClass0 o f).holdsFrame f := by
  unfold State.handClass0
  rw [h]
  have hin (q : List TxEntry) : (⟨f, false⟩ : TxEntry) ∈ withFrame f q := (mem_insertFrame _ _ q).mpr (.inl rfl)
  split
  · exact .inl ⟨_, hin s.bus.txQueue, rfl⟩
  · split
    next g q hdisplace _ =>
      exact (State.onlyReports.displaced (State.onlyReports.refl _)).holdsFrame (.inl ⟨_, hin q, rfl⟩)
    next hnone => cases hnone
    next => exact .inr ⟨⟨o, f⟩, List.mem_append_right _ (List.mem_singleton.mpr rfl), rfl⟩
    next hnone => cases hnone

/-- The hand-over of a class-0 frame leaves the places of the Outcome Queue and degraded mode. -/
theorem State.handClass0_leaves (o : OutboxOwner) (f : TxFrame) (s : State) :
    (s.handClass0 o f).outcome.reserved = s.outcome.reserved ∧ (s.handClass0 o f).outcome.filled = s.outcome.filled ∧
      (s.handClass0 o f).bus.degraded = s.bus.degraded := by
  have hdisplaced (g : TxFrame) (u : State) : (u.displaced g).outcome.reserved = u.outcome.reserved ∧
      (u.displaced g).outcome.filled = u.outcome.filled ∧ (u.displaced g).bus.degraded = u.bus.degraded := by
    have h := State.onlyReports.displaced (f := g) (State.onlyReports.refl u)
    exact ⟨h.2.2.1, h.2.2.2, h.degraded⟩
  unfold State.handClass0
  split
  · exact ⟨rfl, rfl, rfl⟩
  · split
    · exact hdisplaced _ _
    · exact hdisplaced _ _
    · exact ⟨rfl, rfl, rfl⟩
    · exact ⟨rfl, rfl, rfl⟩

end

end Sys2Proof.Machine
end

section
/-! Rules about verdicts: what a verdict writes into the record, where it routes the visit, the message it places, and how
a claim ends. -/

namespace Sys2Proof.Machine

/-! ### Routing (R134 to R137) -/

/-- The stops of a verdict and the Block Table after it. -/
def routeOf (v : Visit) (vd : Verdict) (bs : List BlockEntry) : List Text × List BlockEntry :=
  match vd with
  | .admitted => ((routeByTable v.drops bs).1 ++ pickStops v.moves, (routeByTable v.drops bs).2)
  | .admitInspect => (((bs.find? (fun e => e.kind == .inspection)).map (·.ident)).toList ++ pickStops v.moves, bs)
  | .park => (((bs.find? (fun e => e.kind == .buffer)).map (·.ident)).toList, bs)
  | _ => ([], bs)

@[simp] theorem State.sendNote_yard (block : Text) (s : State) : (s.sendNote block).yard = s.yard := by
  unfold State.sendNote
  split <;> simp

/-- One drop move is routed as the table says (R134, R135). -/
theorem State.routeDrop_cases (m : Move) (s : State) :
    (∃ x, m.blocks.find? (fun x => s.yard.blocks.any fun e => decide (e.ident = x ∧ e.kind = .stack ∧ e.count < e.cap)) =
        some x ∧ s.routeDrop m = ([x], (s.setBlocks (bumpBlock x s.yard.blocks)).sendNote x)) ∨
    (m.blocks.find? (fun x => s.yard.blocks.any fun e => decide (e.ident = x ∧ e.kind = .stack ∧ e.count < e.cap)) =
        none ∧ (s.routeDrop m).1 = ((s.yard.blocks.find? fun e => e.kind = .overflow).map (·.ident)).toList ∧
        ((∃ x, (s.routeDrop m).1 = [x] ∧ (s.routeDrop m).2 = s.sendNote x) ∨
          ((s.routeDrop m).1 = [] ∧ (s.routeDrop m).2 = s))) := by
  have hqualifies : blockQualifies s.yard.blocks =
      fun x => s.yard.blocks.any fun e => decide (e.ident = x ∧ e.kind = .stack ∧ e.count < e.cap) := by
    funext x
    simp [blockQualifies, Bool.and_assoc, beq_eq_decide]
  have hoverflow : s.firstBlock? .overflow = (s.yard.blocks.find? fun e => e.kind = .overflow).map (·.ident) := by
    simp [State.firstBlock?, beq_eq_decide]
  unfold State.routeDrop
  rw [hqualifies, ← hoverflow]
  split
  next x hx => exact .inl ⟨x, hx, rfl⟩
  next hnone =>
    refine .inr ⟨hnone, ?_⟩
    split
    next x hx => exact ⟨by simp [hx], .inl ⟨x, rfl, rfl⟩⟩
    next hno => exact ⟨by simp [hno], .inr ⟨rfl, rfl⟩⟩

theorem routeByTable_some {m : Move} {ms : List Move} {bs : List BlockEntry} {x : Text}
    (h : m.blocks.find? (fun x => bs.any fun e => decide (e.ident = x ∧ e.kind = .stack ∧ e.count < e.cap)) = some x) :
    routeByTable (m :: ms) bs = (x :: (routeByTable ms (bumpBlock x bs)).1, (routeByTable ms (bumpBlock x bs)).2) := by
  rw [routeByTable, h]
  rfl

theorem routeByTable_none {m : Move} {ms : List Move} {bs : List BlockEntry}
    (h : m.blocks.find? (fun x => bs.any fun e => decide (e.ident = x ∧ e.kind = .stack ∧ e.count < e.cap)) = none) :
    routeByTable (m :: ms) bs =
      (((bs.find? fun e => e.kind = .overflow).map (·.ident)).toList ++ (routeByTable ms bs).1, (routeByTable ms bs).2) := by
  rw [routeByTable, h]

/-- Drop moves are routed as the table says, and no other part of the yard changes (R134, R135). -/
theorem routeDrops_table (ms : List Move) (s : State) :
    (routeDrops ms s).1 = (routeByTable ms s.yard.blocks).1 ∧
      (routeDrops ms s).2.yard = { s.yard with blocks := (routeByTable ms s.yard.blocks).2 } := by
  induction ms generalizing s with
  | nil => exact ⟨rfl, rfl⟩
  | cons m ms ih =>
    obtain ⟨hstops, hyard⟩ := ih (s.routeDrop m).2
    have hfst : (routeDrops (m :: ms) s).1 = (s.routeDrop m).1 ++ (routeDrops ms (s.routeDrop m).2).1 := rfl
    have hsnd : (routeDrops (m :: ms) s).2 = (routeDrops ms (s.routeDrop m).2).2 := rfl
    rw [hfst, hsnd, hstops, hyard]
    rcases s.routeDrop_cases m with ⟨x, hx, hdrop⟩ | ⟨hnone, hstop, hdrop⟩
    · rw [routeByTable_some hx, hdrop, State.sendNote_yard]
      exact ⟨rfl, rfl⟩
    · have hsame : (s.routeDrop m).2.yard = s.yard := by
        rcases hdrop with ⟨x, -, hdrop⟩ | ⟨-, hdrop⟩
        · rw [hdrop, State.sendNote_yard]
        · rw [hdrop]
      rw [routeByTable_none hnone, hstop, hsame]
      exact ⟨rfl, rfl⟩

theorem State.routeVerdict_table (v : Visit) (vd : Verdict) (s : State) :
    (s.routeVerdict v vd).1 = (routeOf v vd s.yard.blocks).1 ∧
      (s.routeVerdict v vd).2.yard = { s.yard with blocks := (routeOf v vd s.yard.blocks).2 } := by
  obtain ⟨hstops, hyard⟩ := routeDrops_table v.drops s
  cases vd with
  | admitted => exact ⟨congrArg (· ++ _) hstops, hyard⟩
  | _ => exact ⟨rfl, rfl⟩

/-! ### A verdict given in the lane (R32) -/

/-- The record of a visit with the verdict `vd` given at `p`. -/
def Visit.judged (vd : Verdict) (p : GatePoint) (stops : List Text) (v : Visit) : Visit :=
  { v with verdict := vd, verdictStamp := some p, timeoutRun := false, stops := stops, state := .exiting }

theorem verdictMessage_visit (n : VisitNumber) (vd : Verdict) (stops : List Text) :
    (verdictMessage n vd stops).visit = some n := by
  cases vd <;> rfl

/-- A message placed for a visit leaves the Block Table and the window. -/
theorem State.placeVisitMessage_leaves (m : Message) (s : State) :
    (s.placeVisitMessage m).yard = { s.yard with queue := (s.placeVisitMessage m).yard.queue
                                                 held := (s.placeVisitMessage m).yard.held } := by
  unfold State.placeVisitMessage
  repeat' split
  all_goals first | rfl | rw [State.joinQueue_yard]

section
variable {s : State} {n : VisitNumber} {v : Visit} {vd : Verdict}

theorem State.giveVerdict_eq (hv : s.visit? n = some v) :
    s.giveVerdict n vd = (((((s.writeVerdict n vd).routeVerdict v vd).2.updVisit n
      (fun w => { w with stops := ((s.writeVerdict n vd).routeVerdict v vd).1 })).placeVisitMessage
        (verdictMessage n vd ((s.writeVerdict n vd).routeVerdict v vd).1)).updVisit n
          (fun w => { w with state := .exiting })).reportHolds := by
  unfold State.giveVerdict
  rw [hv]

theorem State.giveVerdict_visits (hv : s.visit? n = some v) :
    (s.giveVerdict n vd).visits =
      (s.updVisit n (Visit.judged vd s.point (routeOf v vd s.yard.blocks).1)).visits := by
  rw [State.giveVerdict_eq hv, (State.routeVerdict_table v vd (s.writeVerdict n vd)).1]
  simp only [State.reportHolds_frame, State.updVisit_visits, State.placeVisitMessage_frame, State.routeVerdict_frame,
    State.writeVerdict]
  rw [updNumbered_updNumbered, updNumbered_updNumbered, updNumbered_updNumbered, updNumbered_updNumbered]
  · rfl
  all_goals exact fun _ => rfl

theorem State.giveVerdict_visit (hv : s.visit? n = some v) :
    (s.giveVerdict n vd).visit? n = some (v.judged vd s.point (routeOf v vd s.yard.blocks).1) := by
  rw [State.visit?_of_visits (State.giveVerdict_visits hv), State.visit?_updVisit_same (f := Visit.judged _ _ _) fun _ => rfl, hv]
  rfl

theorem State.giveVerdict_other {m : VisitNumber} (hm : m ≠ n) (vd : Verdict) (s : State) :
    (s.giveVerdict n vd).visit? m = s.visit? m := by
  cases hv : s.visit? n with
  | none =>
    unfold State.giveVerdict
    rw [hv]
  | some v =>
    rw [State.visit?_of_visits (State.giveVerdict_visits hv)]
    exact State.visit?_updVisit_ne hm fun _ => rfl

theorem State.giveVerdict_blocks (hv : s.visit? n = some v) :
    (s.giveVerdict n vd).yard.blocks = (routeOf v vd s.yard.blocks).2 ∧
      (s.giveVerdict n vd).yard.window = s.yard.window := by
  rw [State.giveVerdict_eq hv]
  simp only [State.reportHolds_frame, State.updVisit_yard]
  rw [State.placeVisitMessage_leaves]
  dsimp only
  rw [State.updVisit_yard, (State.routeVerdict_table v vd (s.writeVerdict n vd)).2]
  exact ⟨rfl, rfl⟩

/-- The message of the verdict joins the Direction Queue where nothing is held, nothing stands for the visit, and there is
room (R141). -/
theorem State.giveVerdict_joins (hv : s.visit? n = some v) (hheld : s.yard.held = []) (hroom : s.yard.queue.length < 4)
    (hnone : ∀ x ∈ s.yard.queue, x.visit ≠ some n) :
    (s.giveVerdict n vd).yard.queue = s.yard.queue ++ [verdictMessage n vd (routeOf v vd s.yard.blocks).1] := by
  obtain ⟨hstops, hyard⟩ := State.routeVerdict_table v vd (s.writeVerdict n vd)
  have hkept : ((s.writeVerdict n vd).routeVerdict v vd).2.yard.queue = s.yard.queue ∧
      ((s.writeVerdict n vd).routeVerdict v vd).2.yard.held = s.yard.held := by
    rw [hyard]
    exact ⟨rfl, rfl⟩
  obtain ⟨hqueue, hheld'⟩ := hkept
  rw [State.giveVerdict_eq hv]
  simp only [State.reportHolds_frame, State.updVisit_yard]
  rw [State.placeVisitMessage_joins _ n _ (verdictMessage_visit n vd _)]
  · simp only [State.updVisit_yard, hqueue, hstops]
    rfl
  · simpa using hheld'.trans hheld
  · simpa [hqueue] using hroom
  · simpa [hqueue] using hnone

/-! ### The end of a claim (R79) -/

/-- The HERE record of a visit whose claim ends, as the table has it. -/
theorem updRecord_claimEnded (n : VisitNumber) (ref : Text) (st : BookingState) (s : State) :
    updRecord ref (fun b => match b.state with
      | .here _ h => if h = n then s.keepUnlessExpired { b with state := st } else some b
      | _ => some b) s.booking.table = s.claimEnded n ref st := by
  unfold updRecord State.claimEnded
  refine List.map_congr_left fun o _ => ?_
  cases o with
  | none => rfl
  | some b =>
    show (if b.ref = ref then _ else some b) = _
    obtain ⟨bref, bplate, bwindow, bmoves, bstate⟩ := b
    cases bstate <;> simp only [Option.bind_some, ite_self]
    next h _ =>
      by_cases href : bref = ref
      · by_cases hn : h = n
        · rw [if_pos href, if_pos hn, if_pos ⟨href, hn⟩]
          rfl
        · rw [if_neg hn, ite_self, if_neg fun hc => hn hc.2]
      · rw [if_neg href, if_neg fun hc => href hc.1]

theorem State.endClaim_eq {ref : Text} {r : ClaimResult} (hv : s.visit? n = some v) (href : v.ref = some ref) :
    s.endClaim n r = ((s.setTable (s.claimEnded n ref r.state)).updVisit n
      (fun w => { w with claimHeld := false })).handClass0 .bookingStore (.claimEnd ref r) := by
  unfold State.endClaim
  rw [hv]
  dsimp only
  rw [href]
  exact congrArg (fun table => ((s.setTable table).updVisit n (fun w => { w with claimHeld := false })).handClass0
    .bookingStore (.claimEnd ref r)) (updRecord_claimEnded n ref r.state s)

theorem State.endClaim_none {r : ClaimResult} (hv : s.visit? n = some v) (href : v.ref = none) : s.endClaim n r = s := by
  unfold State.endClaim
  rw [hv]
  dsimp only
  rw [href]

theorem State.claimEnded_congr {t : State} (hbooking : t.booking = s.booking) (hstart : t.start = s.start)
    (n : VisitNumber) (ref : Text) (st : BookingState) : t.claimEnded n ref st = s.claimEnded n ref st := by
  have hgeneral : t.general = s.general := by
    unfold State.general
    rw [hstart]
  unfold State.claimEnded
  rw [hbooking, hgeneral]

/-- A claim ends: the record's claim-held flag clears, the HERE record goes on as the result says, and CLAIM_END finds a
place. -/
theorem State.endClaim_spec {ref : Text} {r : ClaimResult} (hv : s.visit? n = some v) (href : v.ref = some ref) :
    (s.endClaim n r).visits = (s.updVisit n fun w => { w with claimHeld := false }).visits ∧
      (s.endClaim n r).booking = { s.booking with table := s.claimEnded n ref r.state } ∧
      (s.outbox? .bookingStore = none → (s.endClaim n r).holdsFrame (.claimEnd ref r)) := by
  rw [State.endClaim_eq hv href]
  refine ⟨by simp, ?_, fun h => State.handClass0_holds h⟩
  simp only [State.handClass0_frame, State.updVisit_booking]
  rfl

theorem State.endClaim_other {m : VisitNumber} {r : ClaimResult} (hm : m ≠ n) :
    (s.endClaim n r).visit? m = s.visit? m := by
  cases hv : s.visit? n with
  | none =>
    unfold State.endClaim
    rw [hv]
  | some v =>
    cases href : v.ref with
    | none => rw [State.endClaim_none hv href]
    | some ref =>
      rw [State.visit?_of_visits (State.endClaim_spec hv href).1]
      exact State.visit?_updVisit_ne hm fun _ => rfl

theorem State.endClaim_records (n : VisitNumber) (r : ClaimResult) (s : State) :
    (s.endClaim n r).outcome.reserved = s.outcome.reserved ∧ (s.endClaim n r).outcome.filled = s.outcome.filled ∧
      (s.endClaim n r).bus.degraded = s.bus.degraded := by
  unfold State.endClaim
  repeat' split
  · exact ⟨rfl, rfl, rfl⟩
  · exact ⟨rfl, rfl, rfl⟩
  · exact State.handClass0_leaves _ _ _

/-! ### A refusal (R30, R40) -/

theorem State.refuseVisit_eq (hv : s.visit? n = some v) : s.refuseVisit n =
    if v.claimHeld then (s.giveVerdict n .refuse).endClaim n .released else s.giveVerdict n .refuse := by
  unfold State.refuseVisit
  rw [hv]

theorem State.refuseVisit_yard (hv : s.visit? n = some v) : (s.refuseVisit n).yard = (s.giveVerdict n .refuse).yard := by
  rw [State.refuseVisit_eq hv]
  split
  · simp
  · rfl

theorem State.refuseVisit_other {m : VisitNumber} (hm : m ≠ n) (hv : s.visit? n = some v) :
    (s.refuseVisit n).visit? m = s.visit? m := by
  rw [State.refuseVisit_eq hv]
  split
  · rw [State.endClaim_other hm, State.giveVerdict_other hm]
  · exact State.giveVerdict_other hm .refuse s

theorem State.refuseVisit_records (hv : s.visit? n = some v) :
    (s.refuseVisit n).outcome.reserved = s.outcome.reserved ∧ (s.refuseVisit n).outcome.filled = s.outcome.filled ∧
      (s.refuseVisit n).bus.degraded = s.bus.degraded := by
  have hgiven : s.onlyReports (s.giveVerdict n .refuse) := (State.onlyReports.refl s).giveVerdict
  have hdegraded := hgiven.degraded
  obtain ⟨-, -, hreserved, hfilled⟩ := hgiven
  rw [State.refuseVisit_eq hv]
  split
  · obtain ⟨hreserved', hfilled', hdegraded'⟩ := State.endClaim_records n .released (s.giveVerdict n .refuse)
    exact ⟨hreserved'.trans hreserved, hfilled'.trans hfilled, hdegraded'.trans hdegraded⟩
  · exact ⟨hreserved, hfilled, hdegraded⟩

/-- A refused visit is EXITING with REFUSE and no stop, and its claim has ended as RELEASED. -/
theorem State.refuseVisit_spec (hv : s.visit? n = some v) :
    ∃ w, (s.refuseVisit n).visit? n = some w ∧ w.state = .exiting ∧ w.verdict = .refuse ∧ w.stops = [] ∧
      w.verdictStamp = some s.point ∧ w.placeReserved = v.placeReserved ∧ (v.ref ≠ none → w.claimHeld = false) ∧
      (v.claimHeld = false → (s.refuseVisit n).booking = s.booking) ∧
      ∀ ref, v.claimHeld = true → v.ref = some ref →
        (s.refuseVisit n).booking = { s.booking with table := s.claimEnded n ref .available } ∧
          (s.outbox? .bookingStore = none → (s.refuseVisit n).holdsFrame (.claimEnd ref .released)) := by
  have hgiven : (s.giveVerdict n .refuse).visit? n = some (v.judged .refuse s.point []) := State.giveVerdict_visit hv
  have heq := State.refuseVisit_eq hv
  cases hclaim : v.claimHeld with
  | false =>
    rw [hclaim, if_neg (by simp)] at heq
    rw [heq]
    exact ⟨_, hgiven, rfl, rfl, rfl, rfl, rfl, fun _ => hclaim, fun _ => by simp, fun _ h => by simp at h⟩
  | true =>
    rw [hclaim, if_pos rfl] at heq
    rw [heq]
    cases href : v.ref with
    | none =>
      rw [State.endClaim_none hgiven href]
      exact ⟨_, hgiven, rfl, rfl, rfl, rfl, rfl, fun h => absurd rfl h, fun h => by simp at h, fun _ _ h => by simp at h⟩
    | some ref =>
      obtain ⟨hvisits, hbooking, hframe⟩ := State.endClaim_spec (r := .released) hgiven href
      refine ⟨{ v.judged .refuse s.point [] with claimHeld := false }, ?_, rfl, rfl, rfl, rfl, rfl, fun _ => rfl,
        fun h => by simp at h, fun ref' _ href' => ?_⟩
      · rw [State.visit?_of_visits hvisits, State.visit?_updVisit_same (f := fun w => { w with claimHeld := false })
          fun _ => rfl, hgiven]
        rfl
      · cases href'
        refine ⟨?_, fun h => hframe ?_⟩
        · rw [hbooking, State.claimEnded_congr (s := s) (by simp) (by simp)]
          simp [ClaimResult.state]
        · rw [((State.onlyReports.refl s).giveVerdict).outbox?]
          exact h

end

end Sys2Proof.Machine
end

section
/-! O39: the hold timeout. -/

namespace Sys2Proof.Machine

section
variable {s : State} {n : VisitNumber} {v : Visit}

theorem State.holdDue_iff {p h : GatePoint} (hhold : v.isClerkHold = true) (hrun : v.timeoutRun = false)
    (hstart : v.holdStart = some h) :
    s.holdDue p v = true ↔ s.general.holdMinutes * 600 ≤ gateElapsed s.general.windowMinutes h p := by
  unfold State.holdDue State.holdTenths
  rw [hhold, hrun, hstart]
  exact decide_eq_true_iff

theorem State.holdTimeout_eq (hv : s.visit? n = some v) :
    s.holdTimeout n = if s.holdDue s.point v then s.expireHold n else s := by
  unfold State.holdTimeout
  rw [hv]

theorem State.expireHold_eq (hv : s.visit? n = some v) (hhold : v.isClerkHold = true) (hrun : v.timeoutRun = false) :
    s.expireHold n =
      if s.bus.degraded then s.refuseVisit n
      else if s.parkedRoom then s.giveVerdict n .park
      else s.updVisit n (fun v => { v with timeoutRun := true }) := by
  unfold State.expireHold
  rw [hv]
  simp [hhold, hrun]

/-- A visit in no clerk hold, or whose timeout is deferred, has no timeout running (log 2). -/
theorem State.holdTimeout_stopped (h : ∀ v, s.visit? n = some v → v.isClerkHold = false ∨ v.timeoutRun = true) :
    s.holdTimeout n = s := by
  cases hv : s.visit? n with
  | none =>
    unfold State.holdTimeout
    rw [hv]
  | some v =>
    have hdue : s.holdDue s.point v = false := by
      rcases h v hv with h | h <;> simp [State.holdDue, h]
    rw [State.holdTimeout_eq hv, hdue]
    rfl

end

/-- Settles O39. -/
theorem holdTimeoutDecidesAClerkHold : Obligations.HoldTimeoutDecidesAClerkHold := by
  refine ⟨fun s n h => congrArg _ (State.holdTimeout_stopped h), fun s n v h hv hhold hrun hstart =>
    ⟨fun hearly => ?_, fun hdue => ?_⟩⟩
  · refine congrArg _ ((State.holdTimeout_eq hv).trans (if_neg ?_))
    rw [State.holdDue_iff hhold hrun hstart]
    exact Int.not_le.mpr hearly
  have hexpires : exec (.holdTimeoutExpiry n) s = .next (s.expireHold n) :=
    congrArg _ ((State.holdTimeout_eq hv).trans (if_pos ((State.holdDue_iff hhold hrun hstart).mpr hdue)))
  rw [hexpires, State.expireHold_eq hv hhold hrun]
  refine ⟨fun hdegraded => ?_, fun hdegraded hroom => ?_, fun hdegraded hfull => ?_⟩
  · rw [if_pos hdegraded]
    obtain ⟨w, hw, hstate, hverdict, hstops, -, -, hclaim, hkept, hended⟩ := State.refuseVisit_spec hv
    refine ⟨_, w, rfl, hw, hstate, hverdict, hclaim, hstops, fun hheld hlength hnone => ?_, hkept, hended⟩
    rw [State.refuseVisit_yard hv]
    exact State.giveVerdict_joins hv hheld hlength hnone
  · rw [if_neg (by simp [hdegraded]), if_pos (by simpa [State.parkedRoom] using hroom)]
    exact ⟨_, _, rfl, State.giveVerdict_visit hv, rfl, rfl, rfl, rfl, by simp, by simp, (State.giveVerdict_blocks hv).1, rfl,
      State.giveVerdict_joins hv⟩
  · rw [if_neg (by simp [hdegraded]), if_neg (by simpa [State.parkedRoom] using hfull)]

end Sys2Proof.Machine
end

section
/-! Rules about the barrier: RAISE driven, asserted and withdrawn, and what a visit that leaves makes of it (R145, R147). -/

namespace Sys2Proof.Machine

section
variable {s t : State} {n : VisitNumber} {v : Visit}

theorem State.level_of_debounced (h : t.line.debounced = s.line.debounced) (l : Line) : t.level l = s.level l := by
  unfold State.level
  rw [h]

@[simp] theorem State.driveRaise_line (b : Bool) (s : State) :
    (s.driveRaise b).line = { s.line with raiseOut := b } := by
  simp [State.driveRaise]

/-- From `s` to `t` of the Line Unit only RAISE may have changed. -/
def State.onlyRaises (s t : State) : Prop := t.line = { s.line with raiseOut := t.line.raiseOut }

theorem State.onlyRaises.refl (s : State) : s.onlyRaises s := rfl

theorem State.onlyRaises.trans {u : State} (h : s.onlyRaises t) (h' : t.onlyRaises u) : s.onlyRaises u := by
  unfold State.onlyRaises at h h' ⊢
  rw [h', h]

theorem State.onlyRaises.of_line (h : s.onlyRaises t) {u : State} (hu : u.line = t.line) : s.onlyRaises u := by
  unfold State.onlyRaises at h ⊢
  rwa [hu]

theorem State.onlyRaises.level (h : s.onlyRaises t) (l : Line) : t.level l = s.level l := by
  refine State.level_of_debounced ?_ l
  rw [h]

theorem State.onlyRaises.driveRaise (s : State) (b : Bool) : s.onlyRaises (s.driveRaise b) := by
  simp [State.onlyRaises]

/-! ### RAISE asserted (R145) -/

theorem State.onlyRaises.raiseFor (s : State) (n : VisitNumber) : s.onlyRaises (s.raiseFor n) := by
  unfold State.raiseFor State.barrierSeenUp
  dsimp only
  repeat' split
  all_goals simp [State.onlyRaises]

theorem State.onlyRaises.testRaise (s : State) : s.onlyRaises s.testRaise := by
  unfold State.testRaise
  repeat' split
  · exact State.onlyRaises.refl s
  · exact State.onlyRaises.raiseFor s _
  · exact State.onlyRaises.refl s

/-- With BAR_UP down the barrier is RAISING for the visit, and its up check runs. -/
theorem State.raiseFor_down (h : s.level .barUp = false) :
    (s.raiseFor n).visits = s.visits ∧ (s.raiseFor n).line.raiseOut = true ∧ (s.raiseFor n).yard =
      { s.yard with barrier := .raising, raiseVisit := some n, upCheck := .running 4000 } := by
  have hlevel : (({ s with
      yard := { s.yard with barrier := .raising, raiseVisit := some n, upCheck := .running 4000 } } : State).driveRaise true).level .barUp = false :=
    (State.onlyRaises.driveRaise _ true).level .barUp |>.trans h
  unfold State.raiseFor
  dsimp only
  rw [hlevel, if_neg (by simp)]
  simp

theorem State.testRaise_of_not_lowered (h : s.yard.barrier ≠ .lowered) : s.testRaise = s := by
  unfold State.testRaise
  split
  · rfl
  · simp [h]

theorem State.testRaise_idle (h : ∀ v ∈ s.visits.laneQueue.head?, v.state ≠ .exiting ∨ v.settled = false) :
    s.testRaise = s := by
  unfold State.testRaise
  split
  · rfl
  next v _ hqueue =>
    refine if_neg ?_
    have := h v (by simp [hqueue])
    grind

theorem State.testRaise_raises (hlow : s.yard.barrier = .lowered) (hv : s.visits.laneQueue.head? = some v)
    (hexiting : v.state = .exiting) (hsettled : v.settled = true) : s.testRaise = s.raiseFor v.number := by
  unfold State.testRaise
  split
  next hqueue => simp [hqueue] at hv
  next w _ hqueue =>
    obtain rfl : w = v := by simpa [hqueue] using hv
    simp [hlow, hexiting, hsettled]

/-! ### RAISE withdrawn (R147) -/

/-- RAISE is off: with BAR_UP up the barrier settles for 4 s, with it down it is LOWERED. -/
def State.raiseOff (s : State) : Prop :=
  s.line.raiseOut = false ∧
    (s.level .barUp = true → s.yard.barrier = .settling ∧ s.yard.settle = .running 4000) ∧
    (s.level .barUp = false → s.yard.barrier = .lowered)

theorem State.onlyRaises.withdrawRaise (s : State) : s.onlyRaises s.withdrawRaise := by
  unfold State.withdrawRaise
  dsimp only
  split
  all_goals exact State.onlyRaises.of_line (State.onlyRaises.driveRaise s false) rfl

theorem State.withdrawRaise_raiseOff (s : State) : s.withdrawRaise.raiseOff := by
  unfold State.raiseOff
  rw [(State.onlyRaises.withdrawRaise s).level]
  have hlevel := (State.onlyRaises.driveRaise s false).level .barUp
  unfold State.withdrawRaise
  dsimp only
  rw [hlevel]
  cases s.level .barUp with
  | true => exact ⟨by simp, fun _ => ⟨rfl, rfl⟩, fun h => by simp at h⟩
  | false => exact ⟨by simp, fun h => by simp at h, fun _ => rfl⟩

theorem State.withdrawRaise_yard (s : State) :
    s.withdrawRaise.yard.raiseVisit = s.yard.raiseVisit ∧ s.withdrawRaise.yard.upCheck = s.yard.upCheck := by
  unfold State.withdrawRaise
  dsimp only
  split <;> simp [State.setBarrier]

theorem State.raiseOff.of_same (h : s.raiseOff) (hline : t.line = s.line)
    (hyard : t.yard.barrier = s.yard.barrier ∧ t.yard.settle = s.yard.settle) : t.raiseOff := by
  unfold State.raiseOff State.level at h ⊢
  rwa [hline, hyard.1, hyard.2]

/-- The raise conditions tested over a withdrawn RAISE (R145, R147). -/
theorem State.raiseOff.testRaise (h : s.raiseOff) : s.testRaise.raiseWithdrawn := by
  obtain ⟨hraise, hup, hdown⟩ := h
  unfold State.raiseWithdrawn
  rw [(State.onlyRaises.testRaise s).level]
  refine ⟨fun hlevel => ?_, fun hlevel => ?_⟩
  · obtain ⟨hsettling, hsettle⟩ := hup hlevel
    rw [State.testRaise_of_not_lowered (by rw [hsettling]; decide)]
    exact ⟨hraise, hsettling, hsettle⟩
  · by_cases hidle : ∀ v ∈ s.visits.laneQueue.head?, v.state ≠ .exiting ∨ v.settled = false
    · rw [State.testRaise_idle hidle]
      refine ⟨fun _ => ⟨hraise, hdown hlevel⟩, fun v hv hexiting hsettled => ?_⟩
      rcases hidle v hv with hno | hno
      · exact absurd hexiting hno
      · rw [hsettled] at hno
        cases hno
    · push Not at hidle
      obtain ⟨v, hv, hexiting, hsettled⟩ := hidle
      have hsettled' : v.settled = true := by simpa using hsettled
      obtain ⟨hvisits, hraise', hyard⟩ := State.raiseFor_down (n := v.number) hlevel
      rw [State.testRaise_raises (hdown hlevel) hv hexiting hsettled', hvisits, hyard]
      refine ⟨fun hno => ?_, fun w hw _ _ => ?_⟩
      · rcases hno v hv with hno | hno
        · exact absurd hexiting hno
        · exact absurd hno hsettled
      · obtain rfl : v = w := Option.some.inj ((Option.mem_def.mp hv).symm.trans hw)
        exact ⟨hraise', rfl, rfl, rfl⟩

theorem State.raiseWithdrawn.of_same (h : s.raiseWithdrawn) (hline : t.line = s.line) (hyard : t.yard = s.yard)
    (hvisits : t.visits = s.visits) : t.raiseWithdrawn := by
  unfold State.raiseWithdrawn State.level at h ⊢
  rwa [hline, hyard, hvisits]

/-- A withdrawn RAISE is not held open. -/
theorem State.raiseWithdrawn.not_heldOpen (h : s.raiseWithdrawn) : s.yard.barrier ≠ .heldOpen := by
  obtain ⟨hup, hdown⟩ := h
  cases hlevel : s.level .barUp with
  | true => rw [(hup hlevel).2.1]; decide
  | false =>
    obtain ⟨hidle, hraised⟩ := hdown hlevel
    by_cases h : ∀ v ∈ s.visits.laneQueue.head?, v.state ≠ .exiting ∨ v.settled = false
    · rw [(hidle h).2]; decide
    · push Not at h
      obtain ⟨v, hv, hexiting, hsettled⟩ := h
      rw [(hraised v hv hexiting (by simpa using hsettled)).2.1]; decide

/-! ### LOOP_X vacated at the Yard Routing Unit (R147) -/

theorem State.yardLoopXVacated_heldOpen (h : s.yard.barrier = .heldOpen) : s.yardLoopXVacated.raiseWithdrawn := by
  unfold State.yardLoopXVacated
  rw [if_pos h]
  exact s.withdrawRaise_raiseOff.testRaise

theorem State.yardLoopXVacated_other (h : s.yard.barrier ≠ .heldOpen) : s.yardLoopXVacated = s := if_neg h

theorem State.onlyRaises.yardLoopXVacated (s : State) : s.onlyRaises s.yardLoopXVacated := by
  unfold State.yardLoopXVacated
  split
  · exact (State.onlyRaises.withdrawRaise s).trans (State.onlyRaises.testRaise _)
  · exact State.onlyRaises.refl s

/-! ### What the barrier operations leave of the Outcome and Alert Unit -/

/-- From `s` to `t` of the Outcome and Alert Unit only the flags may have changed. -/
def State.onlyFlags (s t : State) : Prop := t.outcome = { s.outcome with flags := t.outcome.flags }

theorem State.onlyFlags.refl (s : State) : s.onlyFlags s := rfl

theorem State.onlyFlags.trans {u : State} (h : s.onlyFlags t) (h' : t.onlyFlags u) : s.onlyFlags u := by
  unfold State.onlyFlags at h h' ⊢
  rw [h', h]

theorem State.onlyFlags.driveRaise (s : State) (b : Bool) : s.onlyFlags (s.driveRaise b) := by
  unfold State.onlyFlags State.driveRaise State.barrierSense
  rw [State.markCondition_eq]

theorem State.onlyFlags.raiseFor (s : State) (n : VisitNumber) : s.onlyFlags (s.raiseFor n) := by
  unfold State.raiseFor State.barrierSeenUp
  dsimp only
  repeat' split
  all_goals exact State.onlyFlags.driveRaise _ true

theorem State.onlyFlags.testRaise (s : State) : s.onlyFlags s.testRaise := by
  unfold State.testRaise
  repeat' split
  · exact State.onlyFlags.refl s
  · exact State.onlyFlags.raiseFor s _
  · exact State.onlyFlags.refl s

theorem State.onlyFlags.withdrawRaise (s : State) : s.onlyFlags s.withdrawRaise := by
  unfold State.withdrawRaise
  dsimp only
  split
  all_goals exact State.onlyFlags.driveRaise s false

theorem State.onlyFlags.yardLoopXVacated (s : State) : s.onlyFlags s.yardLoopXVacated := by
  unfold State.yardLoopXVacated
  split
  · exact (State.onlyFlags.withdrawRaise s).trans (State.onlyFlags.testRaise _)
  · exact State.onlyFlags.refl s

theorem State.onlyFlags.raiseVisitLeaves (s : State) (n : VisitNumber) : s.onlyFlags (s.raiseVisitLeaves n) := by
  unfold State.raiseVisitLeaves
  dsimp only
  repeat' split
  · exact State.onlyFlags.refl s
  · exact State.onlyFlags.withdrawRaise _
  · exact State.onlyFlags.refl s

theorem State.onlyFlags.onlyReports (h : s.onlyFlags t) (hbus : t.bus = s.bus) : s.onlyReports t := by
  refine (State.onlyReports.refl s).of_same hbus ?_ ?_ <;> rw [h]

end

end Sys2Proof.Machine
end

section
/-! Rules about a visit that leaves the lane: the roster after it, the barrier, its record and its claim. -/

namespace Sys2Proof.Machine

section
variable {s t : State} {n : VisitNumber} {v : Visit}

/-! ### What follows when a visit has left (R23, R9) -/

theorem State.openPendingArrival_roster (h : 0 < s.visits.pendingArrivals → s.visits.laneQueue.length < 4) :
    s.openPendingArrival.visits.roster =
      (s.visits.mode,
       s.visits.laneQueue.map (·.number) ++ (if 0 < s.visits.pendingArrivals then [s.visits.nextNumber] else []),
       s.visits.parked.map (·.number), s.visits.pendingArrivals - 1,
       if 0 < s.visits.pendingArrivals then s.visits.nextNumber + 1 else s.visits.nextNumber) := by
  unfold State.openPendingArrival
  by_cases hp : 0 < s.visits.pendingArrivals
  · rw [if_pos ⟨hp, h hp⟩, if_pos hp, if_pos hp]
    simp [VisitEngine.roster, State.openVisit, Visit.addReasons, Visit.fresh]
  · rw [if_neg fun hc => hp hc.1, if_neg hp, if_neg hp]
    have hnone : s.visits.pendingArrivals = 0 := by omega
    simp [VisitEngine.roster, hnone]

theorem State.endDraining_roster (s : State) :
    s.endDraining.visits.roster =
      (if s.visits.mode = .draining ∧ s.visits.laneQueue.map (·.number) = [] then .laneClosed else s.visits.mode,
       s.visits.roster.2) := by
  unfold State.endDraining
  by_cases h : s.visits.mode = .draining ∧ s.visits.laneQueue.map (·.number) = []
  · rw [if_pos h, if_pos (by simpa using h)]
    simp [VisitEngine.roster]
  · rw [if_neg h, if_neg (by simpa using h)]
    rfl

/-- The freed place goes to a pending arrival, and a DRAINING lane left empty becomes CLOSED (R9, R23). -/
theorem State.laneLeft_roster (h : s.laneOneFree) :
    (s.laneLeft n).visits.roster =
      (if s.visits.mode = .draining ∧ s.visits.laneQueue.length = 0 then .laneClosed else s.visits.mode,
       s.visits.laneQueue.map (·.number) ++ (if 0 < s.visits.pendingArrivals then [s.visits.nextNumber] else []),
       s.visits.parked.map (·.number), s.visits.pendingArrivals - 1,
       if 0 < s.visits.pendingArrivals then s.visits.nextNumber + 1 else s.visits.nextNumber) := by
  obtain ⟨hthree, -, hfull, -⟩ := h
  have hvisits : ((s.raiseVisitLeaves n).dropMessages n).visits = s.visits := by simp
  unfold State.laneLeft
  rw [State.testRaise_roster, State.endDraining_roster]
  have hopened := State.openPendingArrival_roster (s := (s.raiseVisitLeaves n).dropMessages n)
    (by rw [hvisits]; omega)
  rw [hvisits] at hopened
  generalize ((s.raiseVisitLeaves n).dropMessages n).openPendingArrival = u at hopened
  rw [hopened]
  simp only [VisitEngine.roster, Prod.mk.injEq] at hopened
  obtain ⟨hmode, hqueue, -⟩ := hopened
  rw [hmode, hqueue]
  have hempty : (s.visits.laneQueue.map (·.number) ++
      (if 0 < s.visits.pendingArrivals then [s.visits.nextNumber] else []) = []) ↔ s.visits.laneQueue.length = 0 := by
    rw [List.append_eq_nil_iff, List.map_eq_nil_iff, List.length_eq_zero_iff]
    refine ⟨fun h => h.1, fun h => ⟨h, ?_⟩⟩
    rw [h, List.length_nil] at hfull
    rw [if_neg (by omega)]
  simp only [hempty]

/-! ### The barrier when a visit leaves (R147) -/

theorem State.joinHeld_yard (s : State) :
    s.joinHeld.yard = { s.yard with queue := s.joinHeld.yard.queue, held := s.joinHeld.yard.held } := by
  unfold State.joinHeld
  repeat' split
  · rw [State.joinQueue_yard]
    rfl
  · rfl
  · rfl

theorem State.dropMessages_yard (n : VisitNumber) (s : State) :
    (s.dropMessages n).yard = { s.yard with queue := (s.dropMessages n).yard.queue
                                            held := (s.dropMessages n).yard.held } := by
  unfold State.dropMessages
  dsimp only
  repeat' split
  · rfl
  · rw [State.joinHeld_yard]
    rfl
  · rfl

theorem State.onlyRaises.raiseVisitLeaves (s : State) (n : VisitNumber) : s.onlyRaises (s.raiseVisitLeaves n) := by
  unfold State.raiseVisitLeaves
  dsimp only
  repeat' split
  · exact State.onlyRaises.refl s
  · exact State.onlyRaises.withdrawRaise _
  · exact State.onlyRaises.refl s

/-- The state in which the raise conditions are tested once a visit has left. -/
theorem State.laneLeft_before (n : VisitNumber) (s : State) :
    ∃ u : State, s.laneLeft n = u.testRaise ∧ u.line = (s.raiseVisitLeaves n).line ∧
      u.yard.barrier = (s.raiseVisitLeaves n).yard.barrier ∧ u.yard.settle = (s.raiseVisitLeaves n).yard.settle ∧
      u.yard.raiseVisit = (s.raiseVisitLeaves n).yard.raiseVisit ∧
      u.yard.upCheck = (s.raiseVisitLeaves n).yard.upCheck := by
  have hyard : ((((s.raiseVisitLeaves n).dropMessages n).openPendingArrival).endDraining).yard =
      ((s.raiseVisitLeaves n).dropMessages n).yard := by simp
  refine ⟨_, rfl, by simp, ?_⟩
  rw [hyard, State.dropMessages_yard]
  exact ⟨rfl, rfl, rfl, rfl⟩

theorem State.onlyRaises.laneLeft (s : State) (n : VisitNumber) : s.onlyRaises (s.laneLeft n) := by
  obtain ⟨u, hu, hline, -⟩ := State.laneLeft_before n s
  rw [hu]
  exact ((State.onlyRaises.raiseVisitLeaves s n).of_line hline).trans (State.onlyRaises.testRaise u)

/-- The raise visit gone with a truck on LOOP_X, the barrier is held open. -/
theorem State.laneLeft_heldOpen (h : s.yard.raiseVisit = some n) (hx : s.level .loopX = true) :
    (s.laneLeft n).line = s.line ∧ (s.laneLeft n).yard.barrier = .heldOpen ∧ (s.laneLeft n).yard.raiseVisit = none ∧
      (s.laneLeft n).yard.upCheck = .stopped := by
  have hleaves : s.raiseVisitLeaves n =
      ({ s with yard := { s.yard with raiseVisit := none, upCheck := .stopped } } : State).setBarrier .heldOpen := by
    unfold State.raiseVisitLeaves
    rw [if_pos h]
    exact if_pos hx
  obtain ⟨u, hu, hline, hbarrier, -, hraise, hcheck⟩ := State.laneLeft_before n s
  rw [hleaves] at hline hbarrier hraise hcheck
  have hheld : u.yard.barrier = .heldOpen := hbarrier
  rw [hu, State.testRaise_of_not_lowered (by rw [hheld]; decide)]
  exact ⟨hline, hheld, hraise, hcheck⟩

/-- The raise visit gone with LOOP_X vacated, RAISE is withdrawn. -/
theorem State.laneLeft_withdrawn (h : s.yard.raiseVisit = some n) (hx : s.level .loopX = false) :
    (s.laneLeft n).raiseWithdrawn ∧ (s.level .barUp = true →
      (s.laneLeft n).yard.raiseVisit = none ∧ (s.laneLeft n).yard.upCheck = .stopped) := by
  have hleaves : s.raiseVisitLeaves n =
      ({ s with yard := { s.yard with raiseVisit := none, upCheck := .stopped } } : State).withdrawRaise := by
    unfold State.raiseVisitLeaves
    rw [if_pos h]
    exact if_neg fun hc => absurd (hx.symm.trans hc) (by decide)
  obtain ⟨u, hu, hline, hbarrier, hsettle, hraise, hcheck⟩ := State.laneLeft_before n s
  have hlevel : u.level .barUp = s.level .barUp :=
    ((State.onlyRaises.raiseVisitLeaves s n).of_line hline).level .barUp
  rw [hleaves] at hline hbarrier hsettle hraise hcheck
  have hoff : u.raiseOff := (State.withdrawRaise_raiseOff _).of_same hline ⟨hbarrier, hsettle⟩
  rw [hu]
  refine ⟨hoff.testRaise, fun hup => ?_⟩
  rw [State.testRaise_of_not_lowered (by rw [(hoff.2.1 (hlevel.trans hup)).1]; decide), hraise, hcheck]
  exact State.withdrawRaise_yard _

/-- A visit that was not the raise visit leaves RAISE as it is. -/
theorem State.laneLeft_other (h : s.yard.raiseVisit ≠ some n) (hlow : s.yard.barrier ≠ .lowered) :
    (s.laneLeft n).line = s.line ∧ (s.laneLeft n).yard.barrier = s.yard.barrier ∧
      (s.laneLeft n).yard.raiseVisit = s.yard.raiseVisit := by
  have hleaves : s.raiseVisitLeaves n = s := if_neg h
  obtain ⟨u, hu, hline, hbarrier, -, hraise, -⟩ := State.laneLeft_before n s
  rw [hleaves] at hline hbarrier hraise
  rw [hu, State.testRaise_of_not_lowered (by rw [hbarrier]; exact hlow)]
  exact ⟨hline, hbarrier, hraise⟩

theorem State.onlyReports.laneLeft {r : State} (h : r.onlyReports s) : r.onlyReports (s.laneLeft n) := by
  have hleaves : r.onlyReports ((s.raiseVisitLeaves n).dropMessages n) :=
    (h.trans ((State.onlyFlags.raiseVisitLeaves s n).onlyReports (by simp))).of_same (by simp) (by simp) (by simp)
  have hopened : r.onlyReports ((s.raiseVisitLeaves n).dropMessages n).openPendingArrival := by
    unfold State.openPendingArrival
    split
    · exact State.onlyReports.markCondition hleaves
    · exact hleaves
  have hended : r.onlyReports (((s.raiseVisitLeaves n).dropMessages n).openPendingArrival).endDraining := by
    unfold State.endDraining
    split
    · exact hopened.setMode
    · exact hopened
  exact hended.trans ((State.onlyFlags.testRaise _).onlyReports (by simp))

/-! ### A visit taken out of the lane queue -/

theorem map_number_eraseP (n : VisitNumber) (vs : List Visit) :
    (vs.eraseP fun v => v.number == n).map (·.number) = (vs.map (·.number)).erase n := by
  rw [List.erase_eq_eraseP', List.eraseP_map]
  rfl

/-- The roster once a visit has left a sound lane. -/
theorem State.laneSound.left_roster {u : State} {parked : List VisitNumber} (h : s.laneSound)
    (hin : n ∈ s.visits.laneQueue.map (·.number))
    (hu : u.visits.roster = (s.visits.mode, (s.visits.laneQueue.map (·.number)).erase n, parked,
      s.visits.pendingArrivals, s.visits.nextNumber)) :
    (u.laneLeft n).visits.roster =
      (if s.visits.mode = .draining ∧ s.visits.laneQueue.length = 1 then .laneClosed else s.visits.mode,
       (s.visits.laneQueue.map (·.number)).erase n ++
        (if 0 < s.visits.pendingArrivals then [s.visits.nextNumber] else []),
       parked, s.visits.pendingArrivals - 1,
       if 0 < s.visits.pendingArrivals then s.visits.nextNumber + 1 else s.visits.nextNumber) := by
  simp only [VisitEngine.roster, Prod.mk.injEq] at hu
  obtain ⟨hmode, hqueue, hparked, hpending, hnext⟩ := hu
  have hlength : u.visits.laneQueue.length + 1 = s.visits.laneQueue.length := by
    have h1 := congrArg List.length hqueue
    rw [List.length_map, List.length_erase_of_mem hin, List.length_map] at h1
    have h2 : 0 < s.visits.laneQueue.length := by simpa using List.length_pos_of_mem hin
    omega
  rw [State.laneLeft_roster (h.oneFree hlength hmode hpending), hmode, hqueue, hparked, hpending, hnext]
  have hone : u.visits.laneQueue.length = 0 ↔ s.visits.laneQueue.length = 1 := by omega
  simp only [hone]

/-! ### A visit closes (R43) -/

/-- The record of a visit as it closes. -/
def Visit.closing (v : Visit) (p : GatePoint) : Visit := { v with closeStamp := some p }

theorem State.fillPlace_records (v : Visit) (s : State) (hin : v.number ∈ s.outcome.reserved) :
    (s.fillPlace v).outcome.reserved = s.outcome.reserved.erase v.number ∧
      (s.fillPlace v).outcome.filled = s.outcome.filled ++ [v.record s.laneId] := by
  unfold State.fillPlace
  rw [if_pos hin]
  obtain ⟨-, -, hreserved, hfilled⟩ := State.onlyReports.offerOutcome (State.onlyReports.refl ({ s with
    outcome := { s.outcome with reserved := s.outcome.reserved.erase v.number
                                filled := s.outcome.filled ++ [v.record s.laneId] } } : State))
  exact ⟨hreserved, hfilled⟩

theorem State.fillPlace_outbox (v : Visit) (s : State) (o : OutboxOwner) : (s.fillPlace v).outbox? o = s.outbox? o := by
  unfold State.fillPlace
  split
  · exact (State.onlyReports.offerOutcome (State.onlyReports.refl _)).outbox? o
  · rfl

/-- What is left of the lane once a visit's record is closed, before it is taken out of the lane queue. -/
def State.recordClosed (s : State) (v : Visit) : State :=
  (s.fillPlace (v.closing s.point)).endClaimAtClose (v.closing s.point)

theorem State.closeVisit_eq (hv : s.visit? n = some v) (hin : n ∈ s.visits.laneQueue.map (·.number)) :
    s.closeVisit n = (((s.recordClosed v).freeSlot n).laneLeft n).reportHolds := by
  have hany : s.visits.laneQueue.any (fun w => w.number == n) = true := by
    obtain ⟨w, hw, hwn⟩ := List.mem_map.mp hin
    exact List.any_eq_true.mpr ⟨w, hw, by simp [hwn]⟩
  unfold State.closeVisit
  rw [hv]
  dsimp only
  rw [if_pos hany]
  rfl

theorem State.recordClosed_roster (v : Visit) (s : State) : (s.recordClosed v).visits.roster = s.visits.roster := by
  simp [State.recordClosed]

/-- The slot of a visit of the lane freed: the roster, and nothing but the visits changes. -/
theorem State.freeSlot_recordClosed_roster (hin : n ∈ s.visits.laneQueue.map (·.number)) :
    ((s.recordClosed v).freeSlot n).visits.roster = (s.visits.mode, (s.visits.laneQueue.map (·.number)).erase n,
      s.visits.parked.map (·.number), s.visits.pendingArrivals, s.visits.nextNumber) := by
  have hr := s.recordClosed_roster v
  simp only [VisitEngine.roster, Prod.mk.injEq] at hr
  obtain ⟨hmode, hqueue, hparked, hpending, hnext⟩ := hr
  have hany : (s.recordClosed v).visits.laneQueue.any (fun w => w.number == n) = true := by
    rw [← hqueue] at hin
    obtain ⟨w, hw, hwn⟩ := List.mem_map.mp hin
    exact List.any_eq_true.mpr ⟨w, hw, by simp [hwn]⟩
  unfold State.freeSlot
  rw [if_pos hany]
  simp only [VisitEngine.roster, map_number_eraseP, hmode, hqueue, hparked, hpending, hnext]

/-- The place of a closing visit is filled with its record. -/
theorem State.closeVisit_records (hv : s.visit? n = some v) (hin : n ∈ s.visits.laneQueue.map (·.number))
    (hplace : n ∈ s.outcome.reserved) :
    (s.closeVisit n).outcome.reserved = s.outcome.reserved.erase n ∧
      (s.closeVisit n).outcome.filled = s.outcome.filled ++ [(v.closing s.point).record s.laneId] := by
  have hnumber : (v.closing s.point).number = n := (State.visit?_number hv : v.number = n)
  obtain ⟨hreserved, hfilled⟩ := State.fillPlace_records (v.closing s.point) s (by rwa [hnumber])
  have hclosed : (s.recordClosed v).outcome.reserved = s.outcome.reserved.erase n ∧
      (s.recordClosed v).outcome.filled = s.outcome.filled ++ [(v.closing s.point).record s.laneId] := by
    unfold State.recordClosed State.endClaimAtClose
    split
    · obtain ⟨hreserved', hfilled', -⟩ := State.endClaim_records (v.closing s.point).number
        (if (v.closing s.point).verdict = .admitted ∨ (v.closing s.point).verdict = .admitInspect then .used
          else .released) (s.fillPlace (v.closing s.point))
      rw [hreserved', hfilled', hreserved, hfilled, hnumber]
      exact ⟨rfl, rfl⟩
    · rw [hreserved, hfilled, hnumber]
      exact ⟨rfl, rfl⟩
  have hreports : ((s.recordClosed v).freeSlot n).onlyReports (s.closeVisit n) := by
    rw [State.closeVisit_eq hv hin]
    exact (State.onlyReports.refl _).laneLeft.reportHolds
  obtain ⟨-, -, hreserved', hfilled'⟩ := hreports
  have hfree : ((s.recordClosed v).freeSlot n).outcome = (s.recordClosed v).outcome := by simp
  rw [hreserved', hfilled', hfree]
  exact hclosed

/-- The claim of a closing visit ends: USED for an admission, RELEASED otherwise (R79). -/
theorem State.closeVisit_claim (hv : s.visit? n = some v) (hin : n ∈ s.visits.laneQueue.map (·.number)) :
    (v.claimHeld = false → (s.closeVisit n).booking = s.booking) ∧
      ∀ (ref : Text) (r : ClaimResult), v.claimHeld = true → v.ref = some ref →
        r = (if v.verdict = .admitted ∨ v.verdict = .admitInspect then .used else .released) →
          (s.closeVisit n).booking = { s.booking with table := s.claimEnded n ref r.state } ∧
            (s.outbox? .bookingStore = none → (s.closeVisit n).holdsFrame (.claimEnd ref r)) := by
  have hreports : ((s.recordClosed v).freeSlot n).onlyReports (s.closeVisit n) := by
    rw [State.closeVisit_eq hv hin]
    exact (State.onlyReports.refl _).laneLeft.reportHolds
  have hbooking : (s.closeVisit n).booking = (s.recordClosed v).booking := by
    rw [State.closeVisit_eq hv hin]
    simp
  rw [hbooking]
  refine ⟨fun hclaim => ?_, fun ref r hclaim href hr => ?_⟩
  · have hkept : s.recordClosed v = s.fillPlace (v.closing s.point) := if_neg (by simp [Visit.closing, hclaim])
    rw [hkept]
    simp
  · have hended : s.recordClosed v = (s.fillPlace (v.closing s.point)).endClaim n r := by
      rw [hr, ← State.visit?_number hv]
      exact if_pos hclaim
    have hv' : (s.fillPlace (v.closing s.point)).visit? n = some v :=
      (State.visit?_of_visits (by simp) n).trans hv
    obtain ⟨-, hbooked, hframe⟩ := State.endClaim_spec (r := r) hv' href
    refine ⟨?_, fun houtbox => hreports.holdsFrame ?_⟩
    · rw [hended, hbooked, State.claimEnded_congr (s := s) (by simp) (by simp)]
      simp
    · have hheld : (s.recordClosed v).holdsFrame (.claimEnd ref r) := by
        rw [hended]
        exact hframe ((State.fillPlace_outbox _ s _).trans houtbox)
      unfold State.holdsFrame at hheld ⊢
      simpa using hheld

/-! ### A visit leaves over the exit (R41, R44) -/

theorem State.leaveOverExit_close (hpark : v.verdict ≠ .park) (hnumber : v.number = n) :
    s.leaveOverExit v = s.closeVisit n := by
  rw [← hnumber]
  exact if_neg hpark

/-- The state in which what follows a visit's leaving begins. -/
theorem State.leaveOverExit_before (hv : s.visit? n = some v) (hin : n ∈ s.visits.laneQueue.map (·.number)) :
    ∃ u : State, s.leaveOverExit v = (u.laneLeft n).reportHolds ∧ u.line = s.line ∧ u.yard = s.yard ∧
      u.visits.roster = (s.visits.mode, (s.visits.laneQueue.map (·.number)).erase n,
        s.visits.parked.map (·.number) ++ (if v.verdict = .park then [n] else []), s.visits.pendingArrivals,
        s.visits.nextNumber) ∧
      (v.verdict = .park → u.booking = s.booking ∧ s.onlyReports u) := by
  have hnumber := State.visit?_number hv
  by_cases hpark : v.verdict = .park
  · have hleaves : s.leaveOverExit v = s.moveToParked v := if_pos hpark
    rw [hleaves, if_pos hpark]
    unfold State.moveToParked
    rw [hnumber]
    refine ⟨_, rfl, rfl, rfl, ?_, fun _ => ⟨rfl, State.onlyReports.refl s⟩⟩
    simp [VisitEngine.roster, map_number_eraseP]
  · rw [State.leaveOverExit_close hpark hnumber, State.closeVisit_eq hv hin, if_neg hpark, List.append_nil]
    exact ⟨_, rfl, by simp [State.recordClosed], by simp [State.recordClosed], State.freeSlot_recordClosed_roster hin,
      fun h => absurd h hpark⟩

/-- The roster once a visit has left over the exit. -/
theorem State.laneSound.leaveOverExit_roster (h : s.laneSound) (hv : s.visit? n = some v)
    (hin : n ∈ s.visits.laneQueue.map (·.number)) :
    (s.leaveOverExit v).visits.roster =
      (if s.visits.mode = .draining ∧ s.visits.laneQueue.length = 1 then .laneClosed else s.visits.mode,
       (s.visits.laneQueue.map (·.number)).erase n ++
        (if 0 < s.visits.pendingArrivals then [s.visits.nextNumber] else []),
       s.visits.parked.map (·.number) ++ (if v.verdict = .park then [n] else []), s.visits.pendingArrivals - 1,
       if 0 < s.visits.pendingArrivals then s.visits.nextNumber + 1 else s.visits.nextNumber) := by
  obtain ⟨u, hu, -, -, hroster, -⟩ := State.leaveOverExit_before hv hin
  rw [hu]
  simp only [State.reportHolds_frame]
  exact h.left_roster hin hroster

theorem State.onlyRaises.leaveOverExit (hv : s.visit? n = some v) (hin : n ∈ s.visits.laneQueue.map (·.number)) :
    s.onlyRaises (s.leaveOverExit v) := by
  obtain ⟨u, hu, hline, -⟩ := State.leaveOverExit_before hv hin
  rw [hu]
  exact (((State.onlyRaises.refl s).of_line hline).trans (State.onlyRaises.laneLeft u n)).of_line (by simp)

/-- The barrier once a visit has left over the exit (R147). -/
theorem State.leaveOverExit_raise (hv : s.visit? n = some v) (hin : n ∈ s.visits.laneQueue.map (·.number)) :
    (s.yard.raiseVisit = some n → s.level .loopX = true →
      (s.leaveOverExit v).line = s.line ∧ (s.leaveOverExit v).yard.barrier = .heldOpen ∧
        (s.leaveOverExit v).yard.raiseVisit = none ∧ (s.leaveOverExit v).yard.upCheck = .stopped) ∧
    (s.yard.raiseVisit = some n → s.level .loopX = false →
      (s.leaveOverExit v).raiseWithdrawn ∧ (s.level .barUp = true →
        (s.leaveOverExit v).yard.raiseVisit = none ∧ (s.leaveOverExit v).yard.upCheck = .stopped)) ∧
    (s.yard.raiseVisit ≠ some n → s.yard.barrier ≠ .lowered →
      (s.leaveOverExit v).line = s.line ∧ (s.leaveOverExit v).yard.barrier = s.yard.barrier ∧
        (s.leaveOverExit v).yard.raiseVisit = s.yard.raiseVisit) := by
  obtain ⟨u, hu, hline, hyard, -⟩ := State.leaveOverExit_before hv hin
  have hlevel (l : Line) : u.level l = s.level l := State.level_of_debounced (by rw [hline]) l
  have hline' : (s.leaveOverExit v).line = (u.laneLeft n).line := by rw [hu]; simp
  have hyard' : (s.leaveOverExit v).yard = (u.laneLeft n).yard := by rw [hu]; simp
  have hvisits' : (s.leaveOverExit v).visits = (u.laneLeft n).visits := by rw [hu]; simp
  rw [hline', hyard', ← hyard, ← hline, ← hlevel, ← hlevel]
  refine ⟨State.laneLeft_heldOpen, fun hraise hx => ?_, State.laneLeft_other⟩
  obtain ⟨hwithdrawn, hup⟩ := State.laneLeft_withdrawn hraise hx
  exact ⟨hwithdrawn.of_same hline' hyard' hvisits', hup⟩

/-- A parked visit keeps its claim and its place (R44). -/
theorem State.leaveOverExit_park (hv : s.visit? n = some v) (hin : n ∈ s.visits.laneQueue.map (·.number))
    (hpark : v.verdict = .park) :
    (s.leaveOverExit v).booking = s.booking ∧ (s.leaveOverExit v).outcome.reserved = s.outcome.reserved ∧
      (s.leaveOverExit v).outcome.filled = s.outcome.filled := by
  obtain ⟨u, hu, -, -, -, hkept⟩ := State.leaveOverExit_before hv hin
  obtain ⟨hbooking, hreports⟩ := hkept hpark
  obtain ⟨-, -, hreserved, hfilled⟩ : s.onlyReports (s.leaveOverExit v) := by
    rw [hu]
    exact hreports.laneLeft.reportHolds
  refine ⟨?_, hreserved, hfilled⟩
  rw [hu, ← hbooking]
  simp

end

end Sys2Proof.Machine
end

section
/-! O29 and O30: the exit loop and the exit check. -/

namespace Sys2Proof.Machine

theorem ClaimResult.state_eq (r : ClaimResult) : r.state = if r = .used then .used else .available := by
  cases r <;> rfl

/-- The outcome record of a closing visit is that of the visit, field by field (R153). -/
theorem State.recordOf_closing (s : State) (v : Visit) : s.recordOf v ((v.closing s.point).record s.laneId) := by
  refine ⟨rfl, rfl, rfl, rfl, rfl, rfl, rfl, rfl, rfl, rfl, rfl, rfl, rfl, rfl, rfl, rfl, ?_⟩
  rintro c o (⟨rfl, rfl⟩ | ⟨rfl, rfl⟩) <;> exact ⟨rfl, rfl, rfl, rfl, rfl, rfl, rfl⟩

/-! ### The exit check (O30) -/

/-- The record of a visit whose exit check has run out unseen (R42). -/
def Visit.exitUnseen (v : Visit) : Visit := ({ v with exitCheck := .stopped } : Visit).addReason .exitUnseen

theorem Visit.exitUnseen_eq (v : Visit) :
    v.exitUnseen = { v.addReason .exitUnseen with exitCheck := .stopped } := by
  unfold Visit.exitUnseen Visit.addReason
  split <;> rfl

theorem Visit.addReason_eq (r : Reason) (v : Visit) :
    v.addReason r = { v with active := (v.addReason r).active } := by
  unfold Visit.addReason
  split <;> rfl

/-- A reason added stands, active or overridden. -/
theorem Visit.addReason_given (r : Reason) (v : Visit) : r ∈ (v.addReason r).active ∨ r ∈ (v.addReason r).overridden := by
  unfold Visit.addReason addOnce
  split
  next h => exact .inr h
  next =>
    left
    dsimp only
    split
    next h => exact h
    next => simp

theorem Visit.exitUnseen_keeps (v : Visit) :
    v.exitUnseen.number = v.number ∧ v.exitUnseen.verdict = v.verdict ∧ v.exitUnseen.claimHeld = v.claimHeld ∧
      v.exitUnseen.ref = v.ref := by
  rw [Visit.exitUnseen_eq, Visit.addReason_eq]
  exact ⟨rfl, rfl, rfl, rfl⟩

theorem State.exitCheckExpired_stops {s : State} {n : VisitNumber} {v : Visit}
    (hv : s.oldest? (fun v => v.number == n && v.exitCheck.isRunning) = some v)
    (h : v.state ≠ .exiting ∨ v.passing = true) :
    s.exitCheckExpired n = s.updVisit n (fun v => { v with exitCheck := .stopped }) := by
  unfold State.exitCheckExpired
  rw [hv]
  refine if_neg fun hc => ?_
  rcases h with h | h
  · exact h hc.1
  · rw [h] at hc
    exact absurd hc.2 (by decide)

theorem State.exitCheckExpired_leaves {s : State} {n : VisitNumber} {v : Visit}
    (hv : s.oldest? (fun v => v.number == n && v.exitCheck.isRunning) = some v) (hexiting : v.state = .exiting)
    (hpassing : v.passing = false) (hvisit : s.visit? n = some v) :
    (s.updVisit n Visit.exitUnseen).visit? n = some v.exitUnseen ∧
      s.exitCheckExpired n = (s.updVisit n Visit.exitUnseen).leaveOverExit v.exitUnseen := by
  have hw : (s.updVisit n Visit.exitUnseen).visit? n = some v.exitUnseen := by
    rw [State.visit?_updVisit_same fun v => v.exitUnseen_keeps.1, hvisit]
    rfl
  refine ⟨hw, ?_⟩
  unfold State.exitCheckExpired
  rw [hv]
  refine (if_pos ⟨hexiting, hpassing⟩).trans ?_
  show (match (s.updVisit n Visit.exitUnseen).visit? n with
    | some w => (s.updVisit n Visit.exitUnseen).leaveOverExit w
    | none => s.updVisit n Visit.exitUnseen) = _
  rw [hw]

/-- Settles O30. -/
theorem exitCheckEndsAVisitUnseen : Obligations.ExitCheckEndsAVisitUnseen := by
  intro s n
  refine ⟨fun hnone => ?_, fun v hv => ⟨fun hstops => congrArg _ (State.exitCheckExpired_stops hv hstops),
    fun hexiting hpassing hvisit hsound => ?_⟩⟩
  · refine congrArg Host.Outcome.next ?_
    unfold State.exitCheckExpired
    rw [hnone]
  obtain ⟨hw, hleaves⟩ := State.exitCheckExpired_leaves hv hexiting hpassing hvisit
  have hroster : (s.updVisit n Visit.exitUnseen).visits.roster = s.visits.roster :=
    State.updVisit_roster fun v => v.exitUnseen_keeps.1
  have hsound' : (s.updVisit n Visit.exitUnseen).laneSound := hsound.of_roster hroster
  simp only [VisitEngine.roster, Prod.mk.injEq] at hroster
  obtain ⟨hmode, hqueue, hparked, hpending, hnext⟩ := hroster
  have hlength : (s.updVisit n Visit.exitUnseen).visits.laneQueue.length = s.visits.laneQueue.length := by
    simpa using congrArg List.length hqueue
  have hin : n ∈ (s.updVisit n Visit.exitUnseen).visits.laneQueue.map (·.number) := by
    rw [hqueue]
    have hfound := List.find?_some hv
    exact List.mem_map.mpr ⟨v, List.mem_of_find?_eq_some hv, by simp_all⟩
  have hleft := hsound'.leaveOverExit_roster hw hin
  obtain ⟨hheld, hwithdrawn, hother⟩ := State.leaveOverExit_raise hw hin
  obtain ⟨-, hverdict, hclaim, href⟩ := v.exitUnseen_keeps
  rw [hmode, hlength, hqueue, hparked, hpending, hnext, hverdict] at hleft
  simp only [VisitEngine.roster, Prod.mk.injEq] at hleft
  obtain ⟨hmode', hqueue', hparked', -, -⟩ := hleft
  have hclose (hpark : v.verdict ≠ .park) : (s.updVisit n Visit.exitUnseen).leaveOverExit v.exitUnseen =
      (s.updVisit n Visit.exitUnseen).closeVisit n :=
    State.leaveOverExit_close (by rwa [hverdict]) (State.visit?_number hw)
  obtain ⟨hunclaimed, hended⟩ := State.closeVisit_claim hw hin
  rw [hclaim, hverdict, href] at hended
  rw [hclaim] at hunclaimed
  refine ⟨_, congrArg Host.Outcome.next hleaves, hqueue', hmode', fun hpark => ?_, fun hpark hplace => ?_, fun hpark hno => ?_,
    fun ref r hpark hyes hsome hr => ?_, hheld, fun h1 h2 => (hwithdrawn h1 h2).1, hother⟩
  · obtain ⟨hbooking, -, hfilled⟩ := State.leaveOverExit_park hw hin (hverdict.trans hpark)
    exact ⟨by rw [hparked', if_pos hpark], hfilled, hbooking⟩
  · obtain ⟨hreserved, hfilled⟩ := State.closeVisit_records hw hin hplace
    have hrecord := State.recordOf_closing (s.updVisit n Visit.exitUnseen) v.exitUnseen
    rw [hclose hpark] at hparked' ⊢
    refine ⟨by rw [hparked', if_neg hpark, List.append_nil], hreserved, _, hfilled, (State.visit?_number hw : v.exitUnseen.number = n), hverdict, rfl,
      ?_, ?_⟩
    · show Reason.exitUnseen ∈ v.exitUnseen.active ∨ Reason.exitUnseen ∈ v.exitUnseen.overridden
      rw [Visit.exitUnseen_eq]
      exact v.addReason_given .exitUnseen
    · rw [Visit.exitUnseen_eq] at hrecord ⊢
      exact hrecord
  · rw [hclose hpark]
    exact hunclaimed hno
  · rw [hclose hpark, ← ClaimResult.state_eq]
    exact hended ref r hyes hsome hr

/-! ### The exit loop (O29) -/

section
variable {s : State} {n : VisitNumber} {v : Visit}

theorem State.level_debouncedTo_same {l : Line} {up : Bool} (h : s.edge l up) : (s.debouncedTo l up).level l = up := by
  obtain ⟨-, -, ls, hls, -⟩ := h
  unfold State.level State.debouncedTo
  simp only [hls, Option.map_some]
  cases l <;> rfl

theorem State.level_debouncedTo_loopX_barUp (up : Bool) (s : State) :
    (s.debouncedTo .loopX up).level .barUp = s.level .barUp := by
  unfold State.level State.debouncedTo
  cases s.line.debounced <;> rfl

/-- LOOP_X vacated with the barrier held open: RAISE is withdrawn and nothing else changes but the flags. -/
theorem State.yardLoopXVacated_spec (h : s.yard.barrier = .heldOpen) :
    s.yardLoopXVacated.raiseWithdrawn ∧
      s.yardLoopXVacated.visits.laneQueue.map (·.number) = s.visits.laneQueue.map (·.number) ∧
      s.yardLoopXVacated = { s with
        visits := s.yardLoopXVacated.visits, yard := s.yardLoopXVacated.yard
        line := { s.line with raiseOut := s.yardLoopXVacated.line.raiseOut }
        outcome := { s.outcome with flags := s.yardLoopXVacated.outcome.flags } } := by
  have hroster := s.yardLoopXVacated_roster
  simp only [VisitEngine.roster, Prod.mk.injEq] at hroster
  refine ⟨State.yardLoopXVacated_heldOpen h, hroster.2.1, State.eq_of_blocks ?_⟩
  simp only [State.yardLoopXVacated_frame]
  exact ⟨trivial, State.onlyRaises.yardLoopXVacated s, trivial, trivial, trivial, trivial, trivial, trivial, trivial,
    State.onlyFlags.yardLoopXVacated s, trivial, trivial, trivial, trivial⟩

theorem State.loopXVacated_some (hv : s.oldest? (fun v => v.passing) = some v) :
    s.loopXVacated = (s.leaveOverExit v).yardLoopXVacated := by
  unfold State.loopXVacated
  rw [hv]

/-- The barrier once the passing visit has left the exit loop (R147). -/
theorem State.loopXVacated_raise (hv : s.visit? n = some v) (hin : n ∈ s.visits.laneQueue.map (·.number))
    (hx : s.level .loopX = false) :
    (s.yard.raiseVisit = some n ∨ s.yard.barrier = .heldOpen → (s.leaveOverExit v).yardLoopXVacated.raiseWithdrawn) ∧
    (s.yard.raiseVisit = some n → s.level .barUp = true →
      (s.leaveOverExit v).yardLoopXVacated.yard.raiseVisit = none ∧
        (s.leaveOverExit v).yardLoopXVacated.yard.upCheck = .stopped) ∧
    (s.yard.raiseVisit ≠ some n → s.yard.barrier ≠ .heldOpen → s.yard.barrier ≠ .lowered →
      (s.leaveOverExit v).yardLoopXVacated.line = s.line ∧
        (s.leaveOverExit v).yardLoopXVacated.yard.barrier = s.yard.barrier ∧
        (s.leaveOverExit v).yardLoopXVacated.yard.raiseVisit = s.yard.raiseVisit) := by
  obtain ⟨-, hwithdrawn, hother⟩ := State.leaveOverExit_raise hv hin
  have hdone (hraise : s.yard.raiseVisit = some n) :
      (s.leaveOverExit v).yardLoopXVacated = s.leaveOverExit v :=
    State.yardLoopXVacated_other (hwithdrawn hraise hx).1.not_heldOpen
  refine ⟨fun h => ?_, fun hraise hup => ?_, fun hraise hheld hlow => ?_⟩
  · by_cases hraise : s.yard.raiseVisit = some n
    · rw [hdone hraise]
      exact (hwithdrawn hraise hx).1
    · have hheld : s.yard.barrier = .heldOpen := h.resolve_left hraise
      obtain ⟨-, hbarrier, -⟩ := hother hraise (by rw [hheld]; decide)
      exact State.yardLoopXVacated_heldOpen (hbarrier.trans hheld)
  · rw [hdone hraise]
    exact (hwithdrawn hraise hx).2 hup
  · obtain ⟨hline, hbarrier, hvisit⟩ := hother hraise hlow
    rw [State.yardLoopXVacated_other (by rwa [hbarrier])]
    exact ⟨hline, hbarrier, hvisit⟩

/-- The passing visit's place and claim once it has left the exit loop (R43, R44, R79). -/
theorem State.loopXVacated_close (hv : s.visit? n = some v) (hin : n ∈ s.visits.laneQueue.map (·.number)) :
    (v.verdict = .park → (s.leaveOverExit v).booking = s.booking ∧
      (s.leaveOverExit v).outcome.reserved = s.outcome.reserved ∧
      (s.leaveOverExit v).outcome.filled = s.outcome.filled) ∧
    (v.verdict ≠ .park →
      (n ∈ s.outcome.reserved → (s.leaveOverExit v).outcome.reserved = s.outcome.reserved.erase n ∧
        ∃ r, (s.leaveOverExit v).outcome.filled = s.outcome.filled ++ [r] ∧ s.recordOf v r) ∧
      (v.claimHeld = false → (s.leaveOverExit v).booking = s.booking) ∧
      ∀ (ref : Text) (r : ClaimResult), v.claimHeld = true → v.ref = some ref →
        r = (if v.verdict = .admitted ∨ v.verdict = .admitInspect then .used else .released) →
          (s.leaveOverExit v).booking = { s.booking with
            table := s.claimEnded n ref (if r = .used then .used else .available) } ∧
          (s.outbox? .bookingStore = none → (s.leaveOverExit v).holdsFrame (.claimEnd ref r))) := by
  refine ⟨State.leaveOverExit_park hv hin, fun hpark => ?_⟩
  rw [State.leaveOverExit_close hpark (State.visit?_number hv)]
  obtain ⟨hunclaimed, hended⟩ := State.closeVisit_claim hv hin
  refine ⟨fun hplace => ?_, hunclaimed, fun ref r hclaim href hr => ?_⟩
  · obtain ⟨hreserved, hfilled⟩ := State.closeVisit_records hv hin hplace
    exact ⟨hreserved, _, hfilled, s.recordOf_closing v⟩
  · rw [← ClaimResult.state_eq]
    exact hended ref r hclaim href hr

end

/-- The passing visit leaves over the exit loop: the whole of what is said of it, told of the lane with the new level. -/
theorem State.loopXVacated_spec {u : State} {v : Visit} (hsound : u.laneSound)
    (hv : u.oldest? (fun v => v.passing) = some v) (hvisit : u.visit? v.number = some v) :
    let t := u.loopXVacated
    t = { u with visits := t.visits, yard := t.yard, reader := t.reader, out := t.out
                 line := { u.line with raiseOut := t.line.raiseOut }
                 booking := t.booking, outcome := t.outcome, bus := t.bus } ∧
    t.visits.laneQueue.map (·.number) = (u.visits.laneQueue.map (·.number)).erase v.number
      ++ (if 0 < u.visits.pendingArrivals then [u.visits.nextNumber] else []) ∧
    t.visits.pendingArrivals = u.visits.pendingArrivals - 1 ∧
    t.visits.mode = (if u.visits.mode = .draining ∧ u.visits.laneQueue.length = 1 then .laneClosed else u.visits.mode) ∧
    t.visits.parked.map (·.number) = u.visits.parked.map (·.number) ++ (if v.verdict = .park then [v.number] else []) ∧
    t.booking = (u.leaveOverExit v).booking ∧
    t.outcome.reserved = (u.leaveOverExit v).outcome.reserved ∧
    t.outcome.filled = (u.leaveOverExit v).outcome.filled ∧
    t.bus = (u.leaveOverExit v).bus := by
  intro t
  have hin : v.number ∈ u.visits.laneQueue.map (·.number) :=
    List.mem_map.mpr ⟨v, List.mem_of_find?_eq_some hv, rfl⟩
  have hleft := hsound.leaveOverExit_roster hvisit hin
  have ht : t = (u.leaveOverExit v).yardLoopXVacated := State.loopXVacated_some hv
  have hline : t.line = { u.line with raiseOut := t.line.raiseOut } := by
    rw [ht]
    exact (State.onlyRaises.leaveOverExit hvisit hin).trans (State.onlyRaises.yardLoopXVacated _)
  have hflags := State.onlyFlags.yardLoopXVacated (u.leaveOverExit v)
  rw [← State.yardLoopXVacated_roster, ← ht] at hleft
  simp only [VisitEngine.roster, Prod.mk.injEq] at hleft
  obtain ⟨hmode, hqueue, hparked, hpending, -⟩ := hleft
  rw [← ht] at hflags
  refine ⟨State.eq_of_blocks ?_, hqueue, hpending, hmode, hparked, ?_, ?_, ?_, ?_⟩
  · have hframe := State.loopXVacated_frame u
    simp only [t, hframe, and_true, true_and]
    exact hline
  · rw [ht]; simp
  · rw [hflags]
  · rw [hflags]
  · rw [ht]; simp

/-- Settles O29. -/
theorem loopXClearsTheLane : Obligations.LoopXClearsTheLane := by
  refine ⟨fun s u h hu hmode => ?_, fun s u h hu hmode => ?_, fun s u v h hu hmode hsound hv hvisit => ?_,
    fun s u h hu hnone => ?_⟩
  · have hexec : exec (.debounceExpiry .loopX) s = .next u.loopXOccupied := by
      rw [hu]
      exact (State.exec_debounceExpiry_edge h).trans (congrArg Host.Outcome.next (if_neg hmode))
    have holdest : u.oldest? (fun v => v.state == .exiting) = s.oldest? (fun v => v.state == .exiting) := by rw [hu]; rfl
    rw [hexec]
    unfold State.loopXOccupied
    refine ⟨fun v hv => ?_, fun hnone => ?_⟩
    · rw [holdest, hv]
    · rw [holdest, hnone]
  · rw [hu]
    exact (State.exec_debounceExpiry_edge h).trans (congrArg Host.Outcome.next (if_pos hmode))
  · have hexec : exec (.debounceExpiry .loopX) s = .next u.loopXVacated := by
      rw [hu]
      exact (State.exec_debounceExpiry_edge h).trans (congrArg Host.Outcome.next (if_neg hmode))
    have hx : u.level .loopX = false := by rw [hu]; exact State.level_debouncedTo_same h
    have hbar : u.level .barUp = s.level .barUp := by rw [hu]; exact State.level_debouncedTo_loopX_barUp false s
    have hv' : u.oldest? (fun v => v.passing) = some v := by rw [hu]; exact hv
    have hvisit' : u.visit? v.number = some v := by rw [hu]; exact hvisit
    have hsound' : u.laneSound := by rw [hu]; exact hsound
    have hin : v.number ∈ u.visits.laneQueue.map (·.number) :=
      List.mem_map.mpr ⟨v, List.mem_of_find?_eq_some hv', rfl⟩
    obtain ⟨heq, hqueue, hpending, hmode', hparked, hbooking, hreserved, hfilled, hbus⟩ :=
      State.loopXVacated_spec hsound' hv' hvisit'
    obtain ⟨hpark, hclose⟩ := State.loopXVacated_close hvisit' hin
    obtain ⟨hwithdrawn, hup, hother⟩ := State.loopXVacated_raise hvisit' hin hx
    rw [← State.loopXVacated_some hv'] at hwithdrawn hup hother
    rw [hbar] at hup
    rw [← hbooking, ← hreserved, ← hfilled] at hpark hclose
    have hframe (f : TxFrame) : (u.leaveOverExit v).holdsFrame f → u.loopXVacated.holdsFrame f := by
      unfold State.holdsFrame
      rw [hbus]
      exact id
    subst hu
    refine ⟨_, hexec, heq, hqueue, hpending, hmode', fun hp => ⟨?_, hpark hp⟩, fun hp => ?_, hwithdrawn, hup, hother⟩
    · rw [hparked, if_pos hp]
      rfl
    · obtain ⟨hplace, hunclaimed, hended⟩ := hclose hp
      refine ⟨by rw [hparked, if_neg hp, List.append_nil]; rfl, hplace, hunclaimed, fun ref r hclaim href hr => ?_⟩
      obtain ⟨hbooked, hheld⟩ := hended ref r hclaim href hr
      exact ⟨hbooked, fun houtbox => hframe _ (hheld houtbox)⟩
  · have hexec : exec (.debounceExpiry .loopX) s = .next u.yardLoopXVacated := by
      rw [hu]
      refine (State.exec_debounceExpiry_edge h).trans (congrArg Host.Outcome.next ?_)
      rcases hnone with hmode | hnone
      · exact if_pos hmode
      · refine ite_eq_left_iff.mpr fun _ => ?_
        have hnone' : (s.debouncedTo .loopX false).oldest? (fun v => v.passing) = none := hnone
        unfold State.loopXVacated
        rw [hnone']
    rw [hexec]
    have hbarrier : u.yard.barrier = s.yard.barrier := by simp [hu]
    refine ⟨fun hheld => congrArg _ (State.yardLoopXVacated_other (by rwa [hbarrier])), fun hheld => ?_⟩
    obtain ⟨hwithdrawn, hqueue, heq⟩ := State.yardLoopXVacated_spec (hbarrier.trans hheld)
    refine ⟨_, rfl, hwithdrawn, ?_, heq⟩
    rw [hqueue, hu]
    rfl

end Sys2Proof.Machine
end

section
/-! Rules about visits taken into a hold or given a unit, and about the visits that wait for a loan (R31, R86, R90, R93). -/

namespace Sys2Proof.Machine

section
variable {s : State} {n m : VisitNumber} {v : Visit} {src : FlexSource}

/-! ### A clerk hold (R33) -/

/-- The record of a visit that enters a clerk hold at `p`. -/
def Visit.heldByClerk (p : GatePoint) (v : Visit) : Visit :=
  { v with state := .hold, verdict := .hold, holdStart := some p, timeoutRun := false }

theorem State.enterClerkHold_eq (hv : s.visit? n = some v) :
    s.enterClerkHold n =
      (if Reason.recordFull ∈ v.active then s.updVisit n (Visit.heldByClerk s.point)
        else (s.updVisit n (Visit.heldByClerk s.point)).placeVisitMessage ⟨.wait, some n, []⟩ : State).reportHolds := by
  unfold State.enterClerkHold
  rw [hv]
  rfl

theorem State.enterClerkHold_visits (hv : s.visit? n = some v) :
    (s.enterClerkHold n).visits = (s.updVisit n (Visit.heldByClerk s.point)).visits := by
  rw [State.enterClerkHold_eq hv]
  split <;> simp

theorem State.enterClerkHold_visit (hv : s.visit? n = some v) :
    (s.enterClerkHold n).visit? n = some (v.heldByClerk s.point) := by
  rw [State.visit?_of_visits (State.enterClerkHold_visits hv),
    State.visit?_updVisit_same (f := Visit.heldByClerk _) fun _ => rfl, hv]
  rfl

theorem State.enterClerkHold_other (hm : m ≠ n) (s : State) : (s.enterClerkHold n).visit? m = s.visit? m := by
  cases hv : s.visit? n with
  | none =>
    unfold State.enterClerkHold
    rw [hv]
  | some v =>
    rw [State.visit?_of_visits (State.enterClerkHold_visits hv)]
    exact State.visit?_updVisit_ne hm fun _ => rfl

theorem State.giveNoCapacity_visit (hv : s.visit? n = some v) :
    (s.giveNoCapacity n).visit? n = some ((v.addReason .noCapacity).heldByClerk s.point) := by
  refine State.enterClerkHold_visit ?_
  rw [State.visit?_updVisit_same (Visit.addReason_number _), hv]
  rfl

theorem State.giveNoCapacity_other (hm : m ≠ n) (s : State) : (s.giveNoCapacity n).visit? m = s.visit? m :=
  (State.enterClerkHold_other hm _).trans (State.visit?_updVisit_ne hm (Visit.addReason_number _))

/-! ### A unit taken (R30, R86) -/

theorem State.admitWith_eq (hv : s.visit? n = some v) :
    s.admitWith n src = (s.updVisit n fun w => { w with flex := src }).giveVerdict n v.admission := by
  unfold State.admitWith
  rw [hv]

theorem State.visit?_setFlex (hv : s.visit? n = some v) :
    (s.updVisit n fun w => { w with flex := src }).visit? n = some { v with flex := src } := by
  rw [State.visit?_updVisit_same (f := fun w => { w with flex := src }) fun _ => rfl, hv]
  rfl

theorem State.admitWith_visit (hv : s.visit? n = some v) :
    (s.admitWith n src).visit? n = some (({ v with flex := src } : Visit).judged v.admission s.point
      (routeOf v v.admission s.yard.blocks).1) := by
  rw [State.admitWith_eq hv, State.giveVerdict_visit (State.visit?_setFlex hv)]
  rfl

theorem State.admitWith_other (hm : m ≠ n) (src : FlexSource) (s : State) :
    (s.admitWith n src).visit? m = s.visit? m := by
  cases hv : s.visit? n with
  | none =>
    unfold State.admitWith
    rw [hv]
  | some v =>
    rw [State.admitWith_eq hv, State.giveVerdict_other hm]
    exact State.visit?_updVisit_ne hm fun _ => rfl

/-! ### The visits that wait for a loan -/

theorem State.canAsk_iff {q : Quota} (hq : s.capacity.quota = some q) :
    s.canAsk = true ↔ (s.bus.degraded = false ∨ s.capacity.peerTimer.isRunning = true) ∧ q.borrowed < 15 := by
  simp [State.canAsk, State.borrowed, hq]

theorem State.spare_eq {q : Quota} (hq : s.capacity.quota = some q) :
    s.spare = q.share + q.borrowed - q.lent - q.used := by
  simp [State.spare, hq, Quota.spare]

theorem State.nextAsk_cons {rest : List VisitNumber} (h : s.capacity.waitList = n :: rest) (fuel : Nat) :
    State.nextAsk src (fuel + 1) s =
      if 0 < s.spare then State.nextAsk src fuel (s.serveWaiter n rest src)
      else if s.canAsk then s.openAsk
      else State.nextAsk src fuel ((s.setWaitList rest).giveNoCapacity n) := by
  rw [State.nextAsk]
  rw [h]

theorem State.openAsk_eq {q : Quota} (hq : s.capacity.quota = some q) :
    s.openAsk = ({ s with capacity := { s.capacity with
      askCounter := s.capacity.askCounter + 1
      ask := some ⟨s.capacity.askCounter, q.window, .asking, .running 1500⟩ } } : State).handClass0 .capacityUnit
        (.loanAsk q.window s.capacity.askCounter) := by
  unfold State.openAsk
  rw [hq]

end

/-- Whatever becomes of the waiting visits, Offers and TAKEs stay. -/
theorem State.nextAsk_loans (src : FlexSource) (fuel : Nat) (s : State) :
    (State.nextAsk src fuel s).capacity.offers = s.capacity.offers ∧
      (State.nextAsk src fuel s).capacity.takes = s.capacity.takes := by
  induction fuel generalizing s with
  | zero => exact ⟨rfl, rfl⟩
  | succ fuel ih =>
    unfold State.nextAsk
    split
    · exact ⟨rfl, rfl⟩
    next n rest _ =>
      split
      · rw [(ih _).1, (ih _).2]
        simp [State.serveWaiter, State.useUnit]
      · split
        · unfold State.openAsk
          split <;> simp
        · rw [(ih _).1, (ih _).2]
          simp

/-- A visit that does not wait keeps its record. -/
theorem State.nextAsk_other {src : FlexSource} {fuel : Nat} {s : State} {m : VisitNumber}
    (hm : m ∉ s.capacity.waitList) : (State.nextAsk src fuel s).visit? m = s.visit? m := by
  induction fuel generalizing s with
  | zero => rfl
  | succ fuel ih =>
    cases hwait : s.capacity.waitList with
    | nil =>
      unfold State.nextAsk
      rw [hwait]
    | cons n rest =>
      rw [hwait, List.mem_cons, not_or] at hm
      rw [State.nextAsk_cons hwait]
      split
      · rw [ih (by simpa [State.serveWaiter] using hm.2)]
        exact State.admitWith_other hm.1 src _
      · split
        · unfold State.openAsk
          split
          · rfl
          · exact State.visit?_of_visits (by simp) m
        · rw [ih (by simpa using hm.2)]
          exact State.giveNoCapacity_other hm.1 _

/-- A waiting visit takes a unit: what the rest of the list then finds. -/
theorem State.serveWaiter_leaves (n : VisitNumber) (rest : List VisitNumber) (src : FlexSource) (s : State) :
    (s.serveWaiter n rest src).capacity = { s.capacity with
        quota := s.capacity.quota.map (fun q => { q with used := q.used + 1 }), waitList := rest } ∧
      (s.serveWaiter n rest src).clock = s.clock ∧ s.onlyReports (s.serveWaiter n rest src) :=
  ⟨by simp [State.serveWaiter, State.useUnit], by simp [State.serveWaiter],
    (State.onlyReports.refl s).serveWaiter⟩

/-- A waiting visit is given NO_CAPACITY: what the rest of the list then finds. -/
theorem State.waiterRefused_leaves (n : VisitNumber) (rest : List VisitNumber) (s : State) :
    ((s.setWaitList rest).giveNoCapacity n).capacity = { s.capacity with waitList := rest } ∧
      ((s.setWaitList rest).giveNoCapacity n).clock = s.clock ∧
      s.onlyReports ((s.setWaitList rest).giveNoCapacity n) :=
  ⟨by simp, by simp, State.onlyReports.giveNoCapacity (State.onlyReports.refl s)⟩

theorem State.nextAsk_clock (src : FlexSource) (fuel : Nat) (s : State) :
    (State.nextAsk src fuel s).clock = s.clock := by simp

theorem State.nextAsk_nil {src : FlexSource} {s : State} {q : Quota} (hwait : s.capacity.waitList = [])
    (hq : s.capacity.quota = some q) (hask : s.capacity.ask = none) : s.waitersTaken s [] src q := by
  intro k hk
  obtain rfl : k = 0 := by simpa using hk
  refine ⟨hq, fun n hn => by simp at hn, fun _ _ => ⟨hwait, fun n hn => by simp at hn, fun _ => ⟨hask, rfl⟩, fun h => ?_⟩,
    fun _ => ⟨hwait, hask, rfl, fun n hn => by simp at hn⟩⟩
  exact absurd h (by simp)

/-- The oldest waiting visit takes a unit, and the others are taken as said. -/
theorem State.waitersTaken.served {src : FlexSource} {s t : State} {n : VisitNumber} {rest : List VisitNumber}
    {q : Quota} (hspare : 0 < q.share + q.borrowed - q.lent - q.used) (hnew : n ∉ rest)
    (hn : t.visit? n = (s.serveWaiter n rest src).visit? n)
    (h : (s.serveWaiter n rest src).waitersTaken t rest src { q with used := q.used + 1 }) :
    s.waitersTaken t (n :: rest) src q := by
  obtain ⟨hcapacity, -, hreports⟩ := State.serveWaiter_leaves n rest src s
  have hother (m : VisitNumber) (hm : m ∈ rest) : (s.serveWaiter n rest src).visit? m = s.visit? m :=
    State.admitWith_other (ne_of_mem_of_not_mem hm hnew) src _
  intro k hk
  obtain ⟨j, rfl⟩ : ∃ j, k = j + 1 := ⟨k - 1, by simp only [List.length_cons] at hk; omega⟩
  have hj : j = min rest.length (q.share + q.borrowed - q.lent - (q.used + 1)) := by
    simp only [List.length_cons] at hk
    omega
  obtain ⟨hquota, hserved, hcan, hcannot⟩ := h j hj
  rw [hreports.degraded, hcapacity, hreports.outbox?] at hcan
  rw [hreports.degraded, hcapacity] at hcannot
  refine ⟨?_, fun m hm v hv => ?_, fun hheard hborrowed => ?_, fun hno => ?_⟩
  · rw [hquota]
    simp only [Option.some.injEq, Quota.mk.injEq, true_and]
    omega
  · rw [List.take_succ_cons, List.mem_cons] at hm
    rcases hm with rfl | hm
    · refine ⟨_, hn.trans (State.admitWith_visit hv), rfl, rfl, rfl⟩
    · exact hserved m hm v ((hother m (List.mem_of_mem_take hm)).trans hv)
  · obtain ⟨hwait, hkept, hall, hsome⟩ := hcan hheard hborrowed
    refine ⟨hwait, fun m hm => ?_, fun hlength => hall (by simpa using hlength), fun hlength => hsome (by simpa using hlength)⟩
    rw [List.drop_succ_cons] at hm
    exact (hkept m hm).trans (hother m (List.mem_of_mem_drop hm))
  · obtain ⟨hwait, hask, hcounter, hheld⟩ := hcannot hno
    refine ⟨hwait, hask, hcounter, fun m hm v hv => ?_⟩
    rw [List.drop_succ_cons] at hm
    exact hheld m hm v ((hother m (List.mem_of_mem_drop hm)).trans hv)

/-- With no unit and no loan to be asked, the oldest waiting visit is given NO_CAPACITY, and the others are taken as said. -/
theorem State.waitersTaken.refused {src : FlexSource} {s t : State} {n : VisitNumber} {rest : List VisitNumber}
    {q : Quota} (hq : s.capacity.quota = some q) (hspare : q.share + q.borrowed - q.lent - q.used = 0)
    (hask : s.canAsk = false) (hnew : n ∉ rest) (hclock : t.clock = s.clock)
    (hn : t.visit? n = ((s.setWaitList rest).giveNoCapacity n).visit? n)
    (h : ((s.setWaitList rest).giveNoCapacity n).waitersTaken t rest src q) : s.waitersTaken t (n :: rest) src q := by
  obtain ⟨hcapacity, -, hreports⟩ := State.waiterRefused_leaves n rest s
  have hother (m : VisitNumber) (hm : m ∈ rest) : ((s.setWaitList rest).giveNoCapacity n).visit? m = s.visit? m :=
    State.giveNoCapacity_other (ne_of_mem_of_not_mem hm hnew) _
  intro k hk
  obtain rfl : k = 0 := by omega
  obtain ⟨hquota, -, -, hcannot⟩ := h 0 (by omega)
  rw [hreports.degraded, hcapacity] at hcannot
  refine ⟨hquota, fun m hm => by simp at hm, fun hheard hborrowed => ?_, fun hno => ?_⟩
  · rw [(State.canAsk_iff hq).mpr ⟨hheard, hborrowed⟩] at hask
    cases hask
  · obtain ⟨hwait, hasked, hcounter, hheld⟩ := hcannot hno
    refine ⟨hwait, hasked, hcounter, fun m hm v hv => ?_⟩
    rcases List.mem_cons.mp hm with rfl | hm
    · refine ⟨_, hn.trans (State.giveNoCapacity_visit hv), rfl, rfl, (v.addReason_given .noCapacity), ?_⟩
      rw [hclock]
      rfl
    · exact hheld m hm v ((hother m hm).trans hv)

/-- With no unit but a loan to be asked, an Ask is opened for the oldest waiting visit. -/
theorem State.openAsk_waitersTaken {src : FlexSource} {s : State} {ns : List VisitNumber} {q : Quota}
    (hwait : s.capacity.waitList = ns) (hsome : ns ≠ []) (hq : s.capacity.quota = some q)
    (hspare : q.share + q.borrowed - q.lent - q.used = 0) (hask : s.canAsk = true) :
    s.waitersTaken s.openAsk ns src q := by
  have heq := State.openAsk_eq hq
  intro k hk
  obtain rfl : k = 0 := by omega
  refine ⟨by rw [heq]; simpa using hq, fun n hn => by simp at hn, fun _ _ => ⟨by rw [heq]; simpa using hwait,
    fun n _ => ?_, fun h => absurd (List.length_eq_zero_iff.mp h) hsome, fun _ => ⟨by rw [heq]; simp, by rw [heq]; simp,
      fun houtbox => ?_⟩⟩, fun hno => ?_⟩
  · rw [heq]
    exact State.visit?_of_visits (by simp) n
  · rw [heq]
    exact State.handClass0_holds houtbox
  · obtain ⟨hheard, hborrowed⟩ := (State.canAsk_iff hq).mp hask
    rcases hno with ⟨hdegraded, hsilent⟩ | hfull
    · rw [hdegraded, hsilent] at hheard
      simp at hheard
    · omega

/-- The waiting visits, taken in order with no Ask open (R86, R89, R90, R93). -/
theorem State.nextAsk_waitersTaken {src : FlexSource} {ns : List VisitNumber} {s : State} {q : Quota}
    (hnodup : ns.Nodup) (hwait : s.capacity.waitList = ns) (hq : s.capacity.quota = some q)
    (hask : s.capacity.ask = none) : s.waitersTaken (State.nextAsk src ns.length s) ns src q := by
  induction ns generalizing s q with
  | nil => exact State.nextAsk_nil hwait hq hask
  | cons n rest ih =>
    obtain ⟨hnew, hnodup'⟩ := List.nodup_cons.mp hnodup
    have hspare := State.spare_eq hq
    rw [List.length_cons, State.nextAsk_cons hwait]
    split
    next hsome =>
      obtain ⟨hcapacity, -, -⟩ := State.serveWaiter_leaves n rest src s
      refine State.waitersTaken.served (by omega) hnew (State.nextAsk_other ?_) (ih hnodup' ?_ ?_ ?_)
      · rwa [hcapacity]
      · rw [hcapacity]
      · rw [hcapacity]
        simp [hq]
      · rwa [hcapacity]
    next hnone =>
      split
      next hcan => exact State.openAsk_waitersTaken hwait (by simp) hq (by omega) hcan
      next hcannot =>
        obtain ⟨hcapacity, hclock, -⟩ := State.waiterRefused_leaves n rest s
        refine State.waitersTaken.refused hq (by omega) (by simpa using hcannot) hnew ?_ (State.nextAsk_other ?_)
          (ih hnodup' ?_ ?_ ?_)
        · rw [State.nextAsk_clock, hclock]
        · rwa [hcapacity]
        · rw [hcapacity]
        · rwa [hcapacity]
        · rwa [hcapacity]

/-! ### The roll notice at the Capacity Unit (R99) -/

theorem State.capacityRoll_eq (w : Window) (cls : Nat) (s : State) :
    s.capacityRoll w cls = State.nextAsk .own s.capacity.waitList.length { s with capacity := { s.capacity with
      quota := some ⟨w, s.general.shares.getD cls 0, 0, 0, 0⟩, offers := [], ask := none, takes := [] } } := by rfl

theorem State.capacityRoll_waitersTaken {w : Window} {cls : Nat} {s : State} (h : s.capacity.waitList.Nodup) :
    s.waitersTaken (s.capacityRoll w cls) s.capacity.waitList .own ⟨w, s.general.shares.getD cls 0, 0, 0, 0⟩ ∧
      ∀ n, n ∉ s.capacity.waitList → (s.capacityRoll w cls).visit? n = s.visit? n := by
  rw [State.capacityRoll_eq]
  exact ⟨State.nextAsk_waitersTaken h rfl rfl rfl, fun n hn => State.nextAsk_other hn⟩

end Sys2Proof.Machine
end

section
/-! O35: WINDOW_ROLL. -/

namespace Sys2Proof.Machine

/-! ### The yard's window, whatever becomes of the waiting visits -/

theorem State.placeVisitMessage_window (m : Message) (s : State) :
    (s.placeVisitMessage m).yard.window = s.yard.window := by
  rw [State.placeVisitMessage_leaves]

theorem State.giveVerdict_window (n : VisitNumber) (vd : Verdict) (s : State) :
    (s.giveVerdict n vd).yard.window = s.yard.window := by
  cases hv : s.visit? n with
  | none =>
    unfold State.giveVerdict
    rw [hv]
  | some v => exact (State.giveVerdict_blocks hv).2

theorem State.admitWith_window (n : VisitNumber) (src : FlexSource) (s : State) :
    (s.admitWith n src).yard.window = s.yard.window := by
  unfold State.admitWith
  split
  · rfl
  · exact State.giveVerdict_window _ _ _

theorem State.enterClerkHold_window (n : VisitNumber) (s : State) :
    (s.enterClerkHold n).yard.window = s.yard.window := by
  cases hv : s.visit? n with
  | none =>
    unfold State.enterClerkHold
    rw [hv]
  | some v =>
    rw [State.enterClerkHold_eq hv]
    simp only [State.reportHolds_frame]
    split
    · rfl
    · exact State.placeVisitMessage_window _ _

theorem State.nextAsk_window (src : FlexSource) (fuel : Nat) (s : State) :
    (State.nextAsk src fuel s).yard.window = s.yard.window := by
  induction fuel generalizing s with
  | zero => rfl
  | succ fuel ih =>
    unfold State.nextAsk
    split
    · rfl
    · split
      · exact (ih _).trans (State.admitWith_window _ src _)
      · split
        · unfold State.openAsk
          split <;> simp
        · exact (ih _).trans (State.enterClerkHold_window _ _)

/-! ### The roll notice (R15, R70, R99, R133) -/

theorem State.bookingRoll_table (w : Window) (s : State) :
    (s.bookingRoll w).booking = { window := some w
                                  table := s.booking.table.map (fun o => o.bind (fun b => match b.state with
                                    | .here _ _ => some b
                                    | _ => if bookingExpired s.general w b.window then none else some b)) } := by
  unfold State.bookingRoll
  dsimp only
  congr 1
  refine List.map_congr_left fun o _ => ?_
  cases o <;> rfl

theorem State.waitersTaken.congr {s s' t t' : State} {ns : List VisitNumber} {src : FlexSource} {q : Quota}
    (h : s'.waitersTaken t' ns src q)
    (hs : s'.visits = s.visits ∧ s'.bus = s.bus ∧ s'.capacity.peerTimer = s.capacity.peerTimer ∧
      s'.capacity.askCounter = s.capacity.askCounter)
    (ht : t'.visits = t.visits ∧ t'.bus = t.bus ∧ t'.capacity = t.capacity ∧ t'.clock = t.clock) :
    s.waitersTaken t ns src q := by
  obtain ⟨hvisits, hbus, hpeer, hcounter⟩ := hs
  obtain ⟨hvisits', hbus', hcapacity', hclock'⟩ := ht
  have houtbox : s'.outbox? .capacityUnit = s.outbox? .capacityUnit := by
    unfold State.outbox?
    rw [hbus]
  unfold State.waitersTaken State.holdsFrame at h ⊢
  simp only [State.visit?_of_visits hvisits, State.visit?_of_visits hvisits', houtbox, hbus, hpeer, hcounter, hbus',
    hcapacity', hclock'] at h
  exact h

/-- Only the draw of a free order stands between the two orders of a roll notice with visits waiting (log 12). -/
theorem State.rollNotice_cases (w : Window) (cls : Nat) (s : State) (h : s.capacity.waitList ≠ []) :
    s.rollNotice w cls = ((s.bookingRoll w).drawFree.yardRoll w).capacityRoll w cls ∨
      s.rollNotice w cls = ((s.bookingRoll w).drawFree.capacityRoll w cls).yardRoll w := by
  have hsome : (s.bookingRoll w).capacity.waitList.isEmpty = false := by
    show s.capacity.waitList.isEmpty = false
    simpa using h
  unfold State.rollNotice
  dsimp only
  rw [hsome]
  split
  next hno => cases hno
  next =>
    split
    · exact .inl rfl
    · exact .inr rfl

theorem State.rollNotice_empty {w : Window} {cls : Nat} {s : State} (h : s.capacity.waitList = []) :
    s.rollNotice w cls = { s with
      booking := (s.bookingRoll w).booking
      capacity := { s.capacity with
        quota := some ⟨w, s.general.shares.getD cls 0, 0, 0, 0⟩, offers := [], ask := none, takes := [] }
      yard := { s.yard with window := some w, blocks := s.yard.blocks.map (fun e => { e with count := 0 }) } } := by
  have hempty : (s.bookingRoll w).capacity.waitList.isEmpty = true := by
    show s.capacity.waitList.isEmpty = true
    simpa using h
  have hnone : (s.bookingRoll w).capacity.waitList = [] := h
  unfold State.rollNotice
  dsimp only
  rw [if_pos hempty, State.capacityRoll_eq, hnone]
  rfl

/-- What a roll notice leaves behind, for either order of it. -/
theorem State.rollNotice_spec (w : Window) (cls : Nat) (s : State) :
    (s.rollNotice w cls).clock = s.clock ∧ (s.rollNotice w cls).booking = (s.bookingRoll w).booking ∧
      (s.rollNotice w cls).yard.window = some w ∧ (s.rollNotice w cls).capacity.offers = [] ∧
      (s.rollNotice w cls).capacity.takes = [] ∧
      (s.capacity.waitList ≠ [] → (s.rollNotice w cls).freeIndex = s.freeIndex + 1) ∧
      (s.capacity.waitList.Nodup → s.waitersTaken (s.rollNotice w cls) s.capacity.waitList .own
          ⟨w, s.general.shares.getD cls 0, 0, 0, 0⟩ ∧
        ∀ n, n ∉ s.capacity.waitList → (s.rollNotice w cls).visit? n = s.visit? n) := by
  have hloans (x : State) : (x.capacityRoll w cls).capacity.offers = [] ∧ (x.capacityRoll w cls).capacity.takes = [] := by
    rw [State.capacityRoll_eq]
    exact State.nextAsk_loans _ _ _
  by_cases h : s.capacity.waitList = []
  · rw [State.rollNotice_empty h]
    refine ⟨rfl, rfl, rfl, rfl, rfl, fun hno => absurd h hno, fun _ => ⟨?_, fun n _ => rfl⟩⟩
    rw [h]
    refine State.waitersTaken.congr (s' := { s with capacity := { s.capacity with
      quota := some ⟨w, s.general.shares.getD cls 0, 0, 0, 0⟩, offers := [], ask := none, takes := [] } })
      (State.nextAsk_nil h rfl rfl) ⟨rfl, rfl, rfl, rfl⟩ ⟨rfl, rfl, rfl, rfl⟩
  · rcases State.rollNotice_cases w cls s h with heq | heq
    · rw [heq]
      refine ⟨by simp, by simp, ?_, (hloans _).1, (hloans _).2, fun _ => by simp [State.drawFree], fun hnodup => ?_⟩
      · rw [State.capacityRoll_eq]
        exact State.nextAsk_window _ _ _
      · obtain ⟨htaken, hothers⟩ := State.capacityRoll_waitersTaken (w := w) (cls := cls)
          (s := (s.bookingRoll w).drawFree.yardRoll w) hnodup
        exact ⟨htaken.congr ⟨rfl, rfl, rfl, rfl⟩ ⟨rfl, rfl, rfl, rfl⟩, hothers⟩
    · rw [heq]
      refine ⟨by simp, by simp, rfl, (hloans _).1, (hloans _).2, fun _ => by simp [State.drawFree], fun hnodup => ?_⟩
      obtain ⟨htaken, hothers⟩ := State.capacityRoll_waitersTaken (w := w) (cls := cls)
        (s := (s.bookingRoll w).drawFree) hnodup
      exact ⟨htaken.congr ⟨rfl, rfl, rfl, rfl⟩ ⟨rfl, rfl, rfl, rfl⟩, hothers⟩

/-- Settles O35. -/
theorem windowRollStartsAFreshWindow : Obligations.WindowRollStartsAFreshWindow := by
  intro s w hvalid hrunning htenths hw
  subst hw
  have hexec : exec .windowRoll s = .next s.oneRoll := by
    refine congrArg Host.Outcome.next (if_pos ?_)
    simp [State.clockRuns, State.rollTenths, hvalid, hrunning, htenths]
  obtain ⟨hclock, hbooking, hwindow, hoffers, htakes, hfree, hwaiters⟩ :=
    State.rollNotice_spec (s.clock.window + 1) s.clock.nextClass
      (s.setClock { s.clock with window := s.clock.window + 1, tenths := 0, curClass := s.clock.nextClass })
  refine ⟨_, hexec, hclock, hbooking.trans (State.bookingRoll_table _ _), hwindow, hoffers, htakes, fun hempty => ?_,
    hfree, fun hnodup => ?_⟩
  · have heq : s.oneRoll = _ := State.rollNotice_empty hempty
    rw [heq]
    rfl
  · obtain ⟨htaken, hothers⟩ := hwaiters hnodup
    exact ⟨htaken.congr ⟨rfl, rfl, rfl, rfl⟩ ⟨rfl, rfl, rfl, rfl⟩, hothers⟩

end Sys2Proof.Machine
end

section
/-! Rules about hold timeouts that expire one after another (R16, R35). -/

namespace Sys2Proof.Machine

section
variable {s : State} {n m : VisitNumber} {v : Visit}

/-! ### A visit by its number, where numbers are unique -/

theorem State.visit?_of_mem (hnodup : (s.allVisits.map (·.number)).Nodup) (hv : v ∈ s.visits.laneQueue) :
    s.visit? v.number = some v := by
  have hmem : v ∈ s.allVisits := List.mem_append_left _ hv
  unfold State.visit?
  cases hfind : s.allVisits.find? (fun w => w.number == v.number) with
  | none => exact absurd (List.find?_eq_none.mp hfind v hmem) (by simp)
  | some w =>
    have hnumber : w.number = v.number := by simpa using List.find?_some hfind
    rw [List.inj_on_of_nodup_map hnodup (List.mem_of_find?_eq_some hfind) hmem hnumber]

theorem State.allVisits_number_of_roster {t : State} (h : t.visits.roster = s.visits.roster) :
    t.allVisits.map (·.number) = s.allVisits.map (·.number) := by
  simp only [VisitEngine.roster, Prod.mk.injEq] at h
  simp only [State.allVisits, List.map_append, h.2.1, h.2.2.1]

/-! ### One hold expires -/

theorem State.expireHold_other (hm : m ≠ n) (s : State) : (s.expireHold n).visit? m = s.visit? m := by
  unfold State.expireHold
  split
  · rfl
  next v hv =>
    split
    · split
      · exact State.refuseVisit_other hm hv
      · split
        · exact State.giveVerdict_other hm _ s
        · exact State.visit?_updVisit_ne hm fun _ => rfl
    · rfl

theorem State.expireHold_degraded (n : VisitNumber) (s : State) : (s.expireHold n).bus.degraded = s.bus.degraded := by
  unfold State.expireHold
  split
  · rfl
  next v hv =>
    split
    · split
      · exact (State.refuseVisit_records hv).2.2
      · split
        · exact (State.onlyReports.refl s).giveVerdict.degraded
        · rfl
    · rfl

theorem State.endClaim_window (n : VisitNumber) (r : ClaimResult) (s : State) :
    (s.endClaim n r).booking.window = s.booking.window := by
  unfold State.endClaim
  repeat' split
  all_goals simp

/-- An expired hold changes neither the Block Table, nor the windows of the yard and of the Booking Store. -/
theorem State.expireHold_leaves (n : VisitNumber) (s : State) :
    (s.expireHold n).yard.blocks = s.yard.blocks ∧ (s.expireHold n).yard.window = s.yard.window ∧
      (s.expireHold n).booking.window = s.booking.window := by
  unfold State.expireHold
  split
  · exact ⟨rfl, rfl, rfl⟩
  next v hv =>
    split
    · split
      · rw [State.refuseVisit_yard hv]
        obtain ⟨hblocks, hwindow⟩ := State.giveVerdict_blocks (vd := .refuse) hv
        refine ⟨hblocks, hwindow, ?_⟩
        rw [State.refuseVisit_eq hv]
        split
        · rw [State.endClaim_window]
          simp
        · simp
      · split
        · obtain ⟨hblocks, hwindow⟩ := State.giveVerdict_blocks (vd := .park) hv
          exact ⟨hblocks, hwindow, by simp⟩
        · exact ⟨rfl, rfl, rfl⟩
    · exact ⟨rfl, rfl, rfl⟩

/-! ### The parked places in use (R20) -/

/-- The parked places in use once one visit of the lane has its verdict rewritten. -/
theorem State.parkedInUse_updVisit {f : Visit → Visit} (hnodup : (s.allVisits.map (·.number)).Nodup)
    (hv : v ∈ s.visits.laneQueue) :
    (s.updVisit v.number f).parkedInUse + (if v.verdict = .park then 1 else 0) =
      s.parkedInUse + (if (f v).verdict = .park then 1 else 0) := by
  have hcount (vs : List Visit) (hvs : (vs.map (·.number)).Nodup) (hmem : v ∈ vs) :
      (updNumbered v.number f vs).countP (fun w => w.verdict == .park) + (if v.verdict = .park then 1 else 0) =
        vs.countP (fun w => w.verdict == .park) + (if (f v).verdict = .park then 1 else 0) := by
    have hother (l : List Visit) (hl : v.number ∉ l.map (·.number)) : updNumbered v.number f l = l := by
      refine (List.map_congr_left fun w hw => if_neg fun e => hl ?_).trans (List.map_id l)
      exact List.mem_map.mpr ⟨w, hw, e⟩
    obtain ⟨before, after, rfl⟩ := List.append_of_mem hmem
    rw [List.map_append, List.map_cons, List.nodup_append] at hvs
    obtain ⟨-, hafter, hbefore⟩ := hvs
    have hno : v.number ∉ before.map (·.number) := fun h => hbefore _ h _ (List.mem_cons_self) rfl
    have hself : updNumbered v.number f (v :: after) = f v :: updNumbered v.number f after := by
      simp [updNumbered]
    rw [updNumbered_append, hself, hother before hno, hother after (List.nodup_cons.mp hafter).1]
    simp only [List.countP_append, List.countP_cons, beq_iff_eq]
    omega
  have hlane : (s.visits.laneQueue.map (·.number)).Nodup := by
    rw [State.allVisits, List.map_append] at hnodup
    exact (List.nodup_append.mp hnodup).1
  have := hcount s.visits.laneQueue hlane hv
  unfold State.parkedInUse
  rw [State.updVisit_visits]
  simp only [updNumbered, List.length_map] at this ⊢
  omega

end

/-! ### Holds expire one after another (R16) -/

theorem expireHolds_cons (n : VisitNumber) (ns : List VisitNumber) (s : State) :
    expireHolds (n :: ns) s = expireHolds ns (s.expireHold n) := rfl

theorem expireHolds_other {ns : List VisitNumber} {m : VisitNumber} (hm : m ∉ ns) (s : State) :
    (expireHolds ns s).visit? m = s.visit? m := by
  induction ns generalizing s with
  | nil => rfl
  | cons n ns ih =>
    rw [List.mem_cons, not_or] at hm
    rw [expireHolds_cons, ih hm.2, State.expireHold_other hm.1]

theorem expireHolds_leaves (ns : List VisitNumber) (s : State) :
    (expireHolds ns s).yard.blocks = s.yard.blocks ∧ (expireHolds ns s).yard.window = s.yard.window ∧
      (expireHolds ns s).booking.window = s.booking.window := by
  induction ns generalizing s with
  | nil => exact ⟨rfl, rfl, rfl⟩
  | cons n ns ih =>
    obtain ⟨h1, h2, h3⟩ := ih (s.expireHold n)
    obtain ⟨h4, h5, h6⟩ := s.expireHold_leaves n
    exact ⟨h1.trans h4, h2.trans h5, h3.trans h6⟩

/-- The visits `ds` stand in the lane, each in a clerk hold whose timeout runs, and numbers are unique. -/
def State.holdsRun (s : State) (ds : List Visit) : Prop :=
  (s.allVisits.map (·.number)).Nodup ∧ (ds.map (·.number)).Nodup ∧
    ∀ v ∈ ds, v ∈ s.visits.laneQueue ∧ v.isClerkHold = true ∧ v.timeoutRun = false

/-- The first of them expired, the others stand as they did. -/
theorem State.holdsRun.tail {s : State} {v : Visit} {ds : List Visit} (h : s.holdsRun (v :: ds)) :
    (s.expireHold v.number).holdsRun ds := by
  obtain ⟨hall, hnodup, hruns⟩ := h
  rw [List.map_cons, List.nodup_cons] at hnodup
  obtain ⟨hnew, hnodup⟩ := hnodup
  have hall' : ((s.expireHold v.number).allVisits.map (·.number)).Nodup := by
    rwa [State.allVisits_number_of_roster (State.expireHold_roster v.number s)]
  refine ⟨hall', hnodup, fun w hw => ?_⟩
  obtain ⟨hmem, hhold, hrun⟩ := hruns w (List.mem_cons_of_mem _ hw)
  refine ⟨?_, hhold, hrun⟩
  have hne : w.number ≠ v.number := ne_of_mem_of_not_mem (List.mem_map_of_mem hw) hnew
  have hfound : (s.expireHold v.number).visit? w.number = some w :=
    (State.expireHold_other hne s).trans (State.visit?_of_mem hall hmem)
  have hin : w ∈ (s.expireHold v.number).allVisits := List.mem_of_find?_eq_some hfound
  rcases List.mem_append.mp hin with hlane | hparked
  · exact hlane
  · have hroster := State.expireHold_roster v.number s
    simp only [VisitEngine.roster, Prod.mk.injEq] at hroster
    have hclash : w.number ∈ s.visits.parked.map (·.number) := by
      rw [← hroster.2.2.1]
      exact List.mem_map_of_mem hparked
    rw [State.allVisits, List.map_append, List.nodup_append] at hall
    exact absurd rfl (hall.2.2 _ (List.mem_map_of_mem hmem) _ hclash)

theorem State.holdsRun.head {s : State} {v : Visit} {ds : List Visit} (h : s.holdsRun (v :: ds)) :
    s.visit? v.number = some v ∧ v.isClerkHold = true ∧ v.timeoutRun = false ∧ v.number ∉ ds.map (·.number) := by
  obtain ⟨hall, hnodup, hruns⟩ := h
  obtain ⟨hmem, hhold, hrun⟩ := hruns v List.mem_cons_self
  exact ⟨State.visit?_of_mem hall hmem, hhold, hrun, (List.nodup_cons.mp hnodup).1⟩

/-- In degraded mode every expired hold is refused (R35). -/
theorem expireHolds_degraded {ds : List Visit} {s : State} (h : s.holdsRun ds) (hdegraded : s.bus.degraded = true) :
    ∀ v ∈ ds, ∃ w, (expireHolds (ds.map (·.number)) s).visit? v.number = some w ∧ w.state = .exiting ∧
      w.verdict = .refuse ∧ w.verdictStamp = some s.point := by
  induction ds generalizing s with
  | nil => simp
  | cons d ds ih =>
    obtain ⟨hvisit, hhold, hrun, hnew⟩ := h.head
    have hpoint : (s.expireHold d.number).point = s.point := by simp [State.point]
    intro v hv
    rw [List.map_cons, expireHolds_cons]
    rcases List.mem_cons.mp hv with rfl | hv
    · obtain ⟨w, hw, hstate, hverdict, -, hstamp, -⟩ := State.refuseVisit_spec hvisit
      have hrefused : s.expireHold v.number = s.refuseVisit v.number := by
        rw [State.expireHold_eq hvisit hhold hrun, if_pos hdegraded]
      exact ⟨w, by rw [expireHolds_other hnew, hrefused, hw], hstate, hverdict, hstamp⟩
    · rw [← hpoint]
      exact ih h.tail ((State.expireHold_degraded _ s).trans hdegraded) v hv

/-- Else the expired holds are parked while there is room, and deferred once there is none (R35). -/
theorem expireHolds_parks {ds : List Visit} {s : State} (h : s.holdsRun ds) (hdegraded : s.bus.degraded = false) :
    (∀ v ∈ ds.take (4 - s.parkedInUse), ∃ w, (expireHolds (ds.map (·.number)) s).visit? v.number = some w ∧
      w.state = .exiting ∧ w.verdict = .park ∧ w.verdictStamp = some s.point) ∧
    (4 ≤ s.parkedInUse ∨ (∀ v ∈ ds, v.verdict = .hold) →
      ∀ v ∈ ds.drop (4 - s.parkedInUse),
        (expireHolds (ds.map (·.number)) s).visit? v.number = some { v with timeoutRun := true }) := by
  induction ds generalizing s with
  | nil => simp
  | cons d ds ih =>
    obtain ⟨hvisit, hhold, hrun, hnew⟩ := h.head
    have hmem : d ∈ s.visits.laneQueue := (h.2.2 d List.mem_cons_self).1
    have hpoint : (s.expireHold d.number).point = s.point := by simp [State.point]
    obtain ⟨htake, hdrop⟩ := ih h.tail ((State.expireHold_degraded _ s).trans hdegraded)
    rw [hpoint] at htake
    have heq := State.expireHold_eq hvisit hhold hrun
    rw [if_neg (by simp [hdegraded])] at heq
    rw [List.map_cons, expireHolds_cons]
    by_cases hroom : s.parkedInUse < 4
    · rw [if_pos (by simpa [State.parkedRoom] using hroom)] at heq
      have hin : (s.expireHold d.number).parkedInUse + (if d.verdict = .park then 1 else 0) = s.parkedInUse + 1 := by
        have hcount := State.parkedInUse_updVisit (f := Visit.judged .park s.point (routeOf d .park s.yard.blocks).1)
          h.1 hmem
        have hpark : (d.judged .park s.point (routeOf d .park s.yard.blocks).1).verdict = .park := rfl
        have hsame : (s.giveVerdict d.number .park).parkedInUse = (s.updVisit d.number
            (Visit.judged .park s.point (routeOf d .park s.yard.blocks).1)).parkedInUse := by
          unfold State.parkedInUse
          rw [State.giveVerdict_visits hvisit]
        rw [if_pos hpark, ← hsame] at hcount
        rw [heq, hcount]
      obtain ⟨k, hk⟩ : ∃ k, 4 - s.parkedInUse = k + 1 := ⟨3 - s.parkedInUse, by omega⟩
      have hless : k ≤ 4 - (s.expireHold d.number).parkedInUse := by split at hin <;> omega
      rw [hk, List.take_succ_cons, List.drop_succ_cons]
      refine ⟨fun v hv => ?_, fun hor => ?_⟩
      · rcases List.mem_cons.mp hv with rfl | hv
        · refine ⟨v.judged .park s.point (routeOf v .park s.yard.blocks).1, ?_, rfl, rfl, rfl⟩
          rw [expireHolds_other hnew, heq]
          exact State.giveVerdict_visit hvisit
        · exact htake v ((List.take_prefix_take_left hless).subset hv)
      · have hholds : ∀ v ∈ d :: ds, v.verdict = .hold := hor.resolve_left (by omega)
        rw [if_neg (by rw [hholds d List.mem_cons_self]; decide)] at hin
        have hsame : 4 - (s.expireHold d.number).parkedInUse = k := by omega
        rw [hsame] at hdrop
        exact hdrop (.inr fun v hv => hholds v (List.mem_cons_of_mem _ hv))
    · rw [if_neg (by simpa [State.parkedRoom] using hroom)] at heq
      have hin : (s.expireHold d.number).parkedInUse = s.parkedInUse := by
        have hcount := State.parkedInUse_updVisit (f := fun v => { v with timeoutRun := true }) h.1 hmem
        rw [heq]
        exact Nat.add_right_cancel hcount
      have hzero : 4 - s.parkedInUse = 0 := by omega
      rw [hin, hzero] at hdrop
      rw [hzero]
      refine ⟨fun v hv => by simp at hv, fun _ v hv => ?_⟩
      rcases List.mem_cons.mp hv with rfl | hv
      · rw [expireHolds_other hnew, heq, State.visit?_updVisit_same (f := fun v => { v with timeoutRun := true })
          fun _ => rfl, hvisit]
        rfl
      · exact hdrop (.inl (by omega)) v hv

end Sys2Proof.Machine
end

section
/-! O36: the TIME frame. -/

namespace Sys2Proof.Machine

/-! ### Rolls with nobody waiting for a loan (R13, R99, R133) -/

/-- From `s` to `t` the clock has come into a later window with nobody waiting for a loan: a fresh quota entry of that
window with the next share class, and every block count 0. -/
def State.freshWindow (s t : State) : Prop :=
  t = { s with
    clock := t.clock, booking := t.booking
    capacity := { s.capacity with
      quota := some ⟨t.clock.window, s.general.shares.getD s.clock.nextClass 0, 0, 0, 0⟩, offers := [], ask := none
      takes := [] }
    yard := { s.yard with window := some t.clock.window, blocks := s.yard.blocks.map (fun e => { e with count := 0 }) } } ∧
  t.clock.nextClass = s.clock.nextClass

theorem State.freshWindow.trans {s t u : State} (h : s.freshWindow t) (h' : t.freshWindow u) : s.freshWindow u := by
  obtain ⟨ht, hnext⟩ := h
  obtain ⟨hu, hnext'⟩ := h'
  have hgeneral : t.general = s.general := by rw [ht]; rfl
  rw [hgeneral, hnext] at hu
  refine ⟨hu.trans ?_, hnext'.trans hnext⟩
  rw [ht]
  simp [List.map_map, Function.comp_def]

/-- A roll notice with nobody waiting, taken from a state that differs from `s` in the clock alone. -/
theorem State.rollNotice_freshWindow {s : State} {c : GateClock} {w : Window} (hnone : s.capacity.waitList = [])
    (hw : c.window = w) (hnext : c.nextClass = s.clock.nextClass) :
    s.freshWindow ((s.setClock c).rollNotice w s.clock.nextClass) := by
  have heq := State.rollNotice_empty (s := s.setClock c) (w := w) (cls := s.clock.nextClass) hnone
  subst hw
  rw [heq]
  exact ⟨rfl, hnext⟩

theorem State.freshWindow.waitList {s t : State} (h : s.freshWindow t) : t.capacity.waitList = s.capacity.waitList := by
  rw [h.1]

theorem State.oneRoll_freshWindow {s : State} (hnone : s.capacity.waitList = []) : s.freshWindow s.oneRoll :=
  State.rollNotice_freshWindow hnone rfl rfl

theorem State.rolls_freshWindow {s : State} (hnone : s.capacity.waitList = []) (n : Nat) :
    s.freshWindow (State.rolls (n + 1) s) := by
  induction n generalizing s with
  | zero => exact State.oneRoll_freshWindow hnone
  | succ n ih =>
    have hroll := State.oneRoll_freshWindow hnone
    exact hroll.trans (ih (hroll.waitList.trans hnone))

/-- The windows of an adoption into a later window. -/
theorem State.carryWindows_freshWindow {s : State} {k : Int} {w : Window} (hnone : s.capacity.waitList = [])
    (hk : 0 < k) : s.freshWindow (s.carryWindows k w) := by
  unfold State.carryWindows
  split
  · obtain ⟨n, hn⟩ : ∃ n, k.toNat = n + 1 := ⟨k.toNat - 1, by omega⟩
    rw [hn]
    exact State.rolls_freshWindow hnone n
  · have hrolls := State.rolls_freshWindow hnone 3
    exact hrolls.trans (State.rollNotice_freshWindow (hrolls.waitList.trans hnone) rfl rfl)

/-- The Booking Store's window is the clock's once a window has been crossed. -/
theorem State.carryWindows_bookingWindow {s : State} {k : Int} {w : Window} (hk : 0 < k) :
    (s.carryWindows k w).booking.window = some (s.carryWindows k w).clock.window := by
  have hnotice (c : GateClock) (cls : Nat) (u : State) : ((u.setClock c).rollNotice c.window cls).booking.window =
      some ((u.setClock c).rollNotice c.window cls).clock.window := by
    obtain ⟨hclock, hbooking, -⟩ := State.rollNotice_spec c.window cls (u.setClock c)
    rw [hclock, hbooking]
    rfl
  have hrolls (n : Nat) (u : State) :
      (State.rolls (n + 1) u).booking.window = some (State.rolls (n + 1) u).clock.window := by
    induction n generalizing u with
    | zero => exact hnotice { u.clock with window := u.clock.window + 1, tenths := 0, curClass := u.clock.nextClass } _ u
    | succ n ih => exact ih u.oneRoll
  unfold State.carryWindows
  split
  · obtain ⟨n, hn⟩ : ∃ n, k.toNat = n + 1 := ⟨k.toNat - 1, by omega⟩
    rw [hn]
    exact hrolls n s
  · exact hnotice { (State.rolls 4 s).clock with window := w, curClass := (State.rolls 4 s).clock.nextClass } _ _

theorem State.carryWindows_zero (w : Window) (s : State) : s.carryWindows 0 w = s := by
  unfold State.carryWindows
  rw [if_pos (by omega)]
  rfl

/-! ### The branches of a TIME frame -/

section
variable {s : State} {payload : List Byte} {p : GatePoint} {cls : Nat}

theorem State.takeTime_eq (hform : timeForm payload = some (p, cls)) : s.takeTime payload =
    if s.start.config.isNone || s.rollTenths ≤ p.tenths || 3 < cls then s.count .framesIgnored
    else if !s.clock.valid then s.firstTime p cls
    else if s.isEarlier p then s.setClock { s.clock with paused := true }
    else s.adoptTime p cls := by
  unfold State.takeTime
  rw [hform]

theorem State.takeTime_ignored (hform : timeForm payload = some (p, cls))
    (h : s.start.config = none ∨ windowTenths s.general.windowMinutes ≤ p.tenths ∨ 3 < cls) :
    s.takeTime payload = s.count .framesIgnored := by
  rw [State.takeTime_eq hform]
  refine if_pos ?_
  rcases h with h | h | h <;> simp [State.rollTenths, h]

theorem State.takeTime_sound (hform : timeForm payload = some (p, cls)) (hconfig : s.start.config ≠ none)
    (htenths : p.tenths < windowTenths s.general.windowMinutes) (hcls : cls ≤ 3) : s.takeTime payload =
    if !s.clock.valid then s.firstTime p cls
    else if s.isEarlier p then s.setClock { s.clock with paused := true }
    else s.adoptTime p cls := by
  rw [State.takeTime_eq hform]
  refine if_neg ?_
  have h1 : s.start.config.isNone = false := Option.isNone_eq_false_iff.mpr (Option.isSome_iff_ne_none.mpr hconfig)
  have h2 : ¬ s.rollTenths ≤ p.tenths := by simpa [State.rollTenths] using htenths
  simp [h1, h2, hcls]

theorem State.isEarlier_iff : s.isEarlier p = true ↔
    winDist s.clock.window p.window < 0 ∨ (winDist s.clock.window p.window = 0 ∧ p.tenths < s.clock.tenths) := by
  simp [State.isEarlier]

theorem State.checkReady_visits (hconfig : s.start.config ≠ none) (hvalid : s.clock.valid = true) :
    s.checkReady.visits = { s.visits with
      mode := if s.visits.mode = .starting then .laneClosed else s.visits.mode } := by
  have hsome : s.start.config.isSome = true := Option.isSome_iff_ne_none.mpr hconfig
  unfold State.checkReady
  by_cases hmode : s.visits.mode = .starting
  · rw [if_pos (by simp [hmode, hsome, hvalid]), State.setMode_visits, if_pos hmode]
  · rw [if_neg (by simp [hmode]), if_neg hmode]

/-- The first TIME frame, with nobody waiting for a loan (R12). -/
theorem State.firstTime_spec (hnone : s.capacity.waitList = []) (hconfig : s.start.config ≠ none) :
    (s.firstTime p cls).booking.window = some p.window ∧ (s.firstTime p cls).yard.window = some p.window ∧
      (s.firstTime p cls).capacity.quota = some ⟨p.window, s.general.shares.getD cls 0, 0, 0, 0⟩ ∧
      (s.firstTime p cls).visits = { s.visits with
        mode := if s.visits.mode = .starting then .laneClosed else s.visits.mode } := by
  have hroll := State.rollNotice_empty (s := s.setClock ⟨true, false, p.window, p.tenths, cls, cls⟩) (w := p.window)
    (cls := cls) hnone
  unfold State.firstTime
  generalize (s.setClock ⟨true, false, p.window, p.tenths, cls, cls⟩).rollNotice p.window cls = r at hroll
  simp only [State.checkReady_frame]
  have hconfig' : r.start.config ≠ none := by rwa [hroll]
  refine ⟨by rw [hroll]; rfl, by rw [hroll], by rw [hroll]; rfl, ?_⟩
  rw [State.checkReady_visits hconfig' (by rw [hroll]; rfl), hroll]
  rfl

/-! ### An adoption (R13, R16) -/

/-- The lane once the windows of an adoption have been carried, before its holds expire. -/
def State.carried (s : State) (p : GatePoint) (cls : Nat) : State :=
  let s1 := (s.setClock { s.clock with paused := false }).carryWindows (winDist s.clock.window p.window) p.window
  s1.setClock { s1.clock with tenths := p.tenths, nextClass := cls }

theorem State.adoptTime_eq : s.adoptTime p cls =
    expireHolds ((s.carried p cls).jumpExpired s.point (gateElapsed s.general.windowMinutes s.point p))
      (s.carried p cls) := rfl

theorem State.carried_same (h : winDist s.clock.window p.window = 0) :
    s.carried p cls = s.setClock (s.carried p cls).clock := by
  unfold State.carried
  rw [h, State.carryWindows_zero]
  rfl

/-- With nobody waiting for a loan, an adoption into a later window starts it afresh. -/
theorem State.carried_later (hnone : s.capacity.waitList = []) (h : 0 < winDist s.clock.window p.window) :
    s.carried p cls = { s with
      clock := (s.carried p cls).clock, booking := (s.carried p cls).booking
      capacity := { s.capacity with
        quota := some ⟨p.window, s.general.shares.getD s.clock.nextClass 0, 0, 0, 0⟩, offers := [], ask := none
        takes := [] }
      yard := { s.yard with window := some p.window, blocks := s.yard.blocks.map (fun e => { e with count := 0 }) } } := by
  obtain ⟨hfresh, -⟩ := State.carryWindows_freshWindow (s := s.setClock { s.clock with paused := false })
    (w := p.window) hnone h
  obtain ⟨tenths, hclock⟩ := State.carryWindows_clock (s := s.setClock { s.clock with paused := false })
    (w := p.window) (show 0 ≤ winDist s.clock.window p.window by omega)
  have hwindow : ((s.setClock { s.clock with paused := false }).carryWindows (winDist s.clock.window p.window)
      p.window).clock.window = p.window := by
    rw [State.setClock_clock] at hclock
    rw [hclock]
  rw [hwindow] at hfresh
  unfold State.carried
  dsimp only
  rw [hfresh]
  rfl

/-- With nobody waiting for a loan, no visit and no part of the bus changes before the holds expire. -/
theorem State.carried_visits (hnone : s.capacity.waitList = []) (h : 0 ≤ winDist s.clock.window p.window) :
    (s.carried p cls).visits = s.visits ∧ (s.carried p cls).bus = s.bus ∧ (s.carried p cls).start = s.start := by
  by_cases hk : winDist s.clock.window p.window = 0
  · rw [State.carried_same hk]
    exact ⟨rfl, rfl, rfl⟩
  · rw [State.carried_later hnone (by omega)]
    exact ⟨rfl, rfl, rfl⟩

theorem State.carried_point (h : 0 ≤ winDist s.clock.window p.window) : (s.carried p cls).point = p := by
  have hclock := State.adoptTime_clock (s := s) (p := p) cls h
  rw [State.adoptTime_eq, State.expireHolds_frame _ _ |>.2.2.1] at hclock
  unfold State.point
  rw [hclock]

/-- The holds that an adoption carries past their end, by what makes them due. -/
theorem State.jumpExpired_eq {t : State} (due : Visit → Bool)
    (hdue : ∀ v, due v = true ↔ v.isClerkHold = true ∧ v.timeoutRun = false ∧
      ∃ h, v.holdStart = some h ∧ s.general.holdMinutes * 600 ≤
        gateElapsed s.general.windowMinutes h s.point + gateElapsed s.general.windowMinutes s.point p)
    (hvisits : t.visits = s.visits) (hstart : t.start = s.start) :
    t.jumpExpired s.point (gateElapsed s.general.windowMinutes s.point p) =
      (s.visits.laneQueue.filter due).map (·.number) := by
  have hgeneral : t.general = s.general := by unfold State.general; rw [hstart]
  unfold State.jumpExpired State.holdTenths
  rw [hvisits, hgeneral]
  congr 1
  refine List.filter_congr fun v _ => ?_
  rw [Bool.eq_iff_iff, hdue]
  cases v.holdStart <;> simp [and_assoc]

/-- The due holds of an adoption stand in the lane as expiring holds do. -/
theorem State.due_holdsRun {t : State} {due : Visit → Bool}
    (hdue : ∀ v, due v = true → v.isClerkHold = true ∧ v.timeoutRun = false) (hvisits : t.visits = s.visits)
    (hnodup : (s.allVisits.map (·.number)).Nodup) : t.holdsRun (s.visits.laneQueue.filter due) := by
  have hlane : (s.visits.laneQueue.map (·.number)).Nodup := by
    rw [State.allVisits, List.map_append] at hnodup
    exact (List.nodup_append.mp hnodup).1
  refine ⟨?_, (List.filter_sublist.map _).nodup hlane, fun v hv => ?_⟩
  · rwa [State.allVisits_number_of_roster (s := s) (by rw [hvisits])]
  · obtain ⟨hmem, hd⟩ := List.mem_filter.mp hv
    rw [hvisits]
    exact ⟨hmem, hdue v hd⟩

end

/-- The holds that expire with an adoption (R16, R35), told by the state before it. -/
theorem State.adoptTime_holds {s : State} {p : GatePoint} {cls : Nat} (hnone : s.capacity.waitList = [])
    (h : 0 ≤ winDist s.clock.window p.window) (due : Visit → Bool)
    (hdue : ∀ v, due v = true ↔ v.isClerkHold = true ∧ v.timeoutRun = false ∧
      ∃ h, v.holdStart = some h ∧ s.general.holdMinutes * 600 ≤
        gateElapsed s.general.windowMinutes h s.point + gateElapsed s.general.windowMinutes s.point p)
    (hnodup : (s.allVisits.map (·.number)).Nodup) :
    (∀ v ∈ s.visits.laneQueue, due v = false → (s.adoptTime p cls).visit? v.number = some v) ∧
    (s.bus.degraded = true → ∀ v ∈ s.visits.laneQueue, due v = true → ∃ w,
      (s.adoptTime p cls).visit? v.number = some w ∧ w.state = .exiting ∧ w.verdict = .refuse ∧
        w.verdictStamp = some p) ∧
    (s.bus.degraded = false →
      (∀ v ∈ (s.visits.laneQueue.filter due).take (4 - s.parkedInUse), ∃ w,
        (s.adoptTime p cls).visit? v.number = some w ∧ w.state = .exiting ∧ w.verdict = .park ∧
          w.verdictStamp = some p) ∧
      (4 ≤ s.parkedInUse ∨ (∀ v ∈ s.visits.laneQueue, due v = true → v.verdict = .hold) →
        ∀ v ∈ (s.visits.laneQueue.filter due).drop (4 - s.parkedInUse),
          (s.adoptTime p cls).visit? v.number = some { v with timeoutRun := true })) := by
  obtain ⟨hvisits, hbus, hstart⟩ := State.carried_visits (cls := cls) hnone h
  have hpoint : (s.carried p cls).point = p := State.carried_point h
  have hinUse : (s.carried p cls).parkedInUse = s.parkedInUse := by unfold State.parkedInUse; rw [hvisits]
  have hdegraded : (s.carried p cls).bus.degraded = s.bus.degraded := by rw [hbus]
  have hruns : (s.carried p cls).holdsRun (s.visits.laneQueue.filter due) :=
    State.due_holdsRun (fun v hv => ⟨((hdue v).mp hv).1, ((hdue v).mp hv).2.1⟩) hvisits hnodup
  rw [State.adoptTime_eq, State.jumpExpired_eq due hdue hvisits hstart]
  refine ⟨fun v hv hno => ?_, fun hd v hv hyes => ?_, fun hd => ?_⟩
  · rw [expireHolds_other, State.visit?_of_visits hvisits]
    · exact State.visit?_of_mem hnodup hv
    · intro hin
      obtain ⟨w, hw, hwv⟩ := List.mem_map.mp hin
      obtain ⟨hmem, hwd⟩ := List.mem_filter.mp hw
      have hsame : s.visit? w.number = some w := State.visit?_of_mem hnodup hmem
      rw [hwv, State.visit?_of_mem hnodup hv, Option.some.injEq] at hsame
      rw [hsame, hwd] at hno
      cases hno
  · obtain ⟨w, hw, hstate, hverdict, hstamp⟩ :=
      expireHolds_degraded hruns (hdegraded.trans hd) v (List.mem_filter.mpr ⟨hv, hyes⟩)
    exact ⟨w, hw, hstate, hverdict, hstamp.trans (by rw [hpoint])⟩
  · obtain ⟨htake, hdrop⟩ := expireHolds_parks hruns (hdegraded.trans hd)
    rw [hinUse, hpoint] at htake
    rw [hinUse] at hdrop
    refine ⟨htake, fun hor => hdrop (hor.imp_right fun hall v hv => ?_)⟩
    obtain ⟨hmem, hd⟩ := List.mem_filter.mp hv
    exact hall v hmem hd

/-- What an adoption leaves behind beside the expired holds. -/
theorem State.adoptTime_spec {s : State} {p : GatePoint} {cls : Nat} (h : 0 ≤ winDist s.clock.window p.window) :
    (0 < winDist s.clock.window p.window → (s.adoptTime p cls).booking.window = some p.window) ∧
    (winDist s.clock.window p.window = 0 → (∀ v ∈ s.visits.laneQueue, v.isClerkHold = false) →
      s.adoptTime p cls = { s with clock := (s.adoptTime p cls).clock }) ∧
    (s.capacity.waitList = [] →
      (winDist s.clock.window p.window = 0 →
        (s.adoptTime p cls).capacity = s.capacity ∧ (s.adoptTime p cls).yard.blocks = s.yard.blocks) ∧
      (0 < winDist s.clock.window p.window → (s.adoptTime p cls).yard.window = some p.window ∧
        (s.adoptTime p cls).yard.blocks = s.yard.blocks.map (fun e => { e with count := 0 }) ∧
        (s.adoptTime p cls).capacity = { s.capacity with
          quota := some ⟨p.window, s.general.shares.getD s.clock.nextClass 0, 0, 0, 0⟩, offers := [], ask := none
          takes := [] })) := by
  have hclock := State.adoptTime_clock (s := s) (p := p) cls h
  rw [State.adoptTime_eq, State.expireHolds_frame _ _ |>.2.2.1] at hclock
  obtain ⟨hblocks, hwindow, hbooking⟩ := expireHolds_leaves
    ((s.carried p cls).jumpExpired s.point (gateElapsed s.general.windowMinutes s.point p)) (s.carried p cls)
  rw [State.adoptTime_eq, hblocks, hwindow, hbooking]
  refine ⟨fun hk => ?_, fun hk hnone => ?_, fun hnone => ⟨fun hk => ⟨?_, ?_⟩, fun hk => ⟨?_, ?_, ?_⟩⟩⟩
  · have hcarried : (s.carried p cls).booking.window = some (s.carried p cls).clock.window :=
      State.carryWindows_bookingWindow (s := s.setClock { s.clock with paused := false }) hk
    rw [hcarried, hclock]
  · have hempty : (s.carried p cls).jumpExpired s.point (gateElapsed s.general.windowMinutes s.point p) = [] := by
      rw [State.carried_same hk]
      unfold State.jumpExpired
      rw [List.map_eq_nil_iff, List.filter_eq_nil_iff]
      intro v hv
      rw [hnone v hv]
      simp
    rw [hempty]
    exact State.carried_same hk
  · simp only [State.expireHolds_frame]
    rw [State.carried_same hk]
    rfl
  · rw [State.carried_same hk]
    rfl
  · rw [State.carried_later hnone hk]
  · rw [State.carried_later hnone hk]
  · simp only [State.expireHolds_frame]
    rw [State.carried_later hnone hk]

/-- Settles O36. -/
theorem timeFrameSetsOrPausesTheClock : Obligations.TimeFrameSetsOrPausesTheClock := by
  intro s u f rest p cls htaken hu hform
  have hexec : exec .timeFrame s = .next (u.takeTime f.payload) := by
    rw [hu]
    exact congrArg _ (State.onFrame_taken htaken)
  have hconfig : u.start.config = s.start.config := by rw [hu]; simp
  have hgeneral : u.general = s.general := by rw [hu]; simp
  have hclock : u.clock = s.clock := by rw [hu]; simp
  have hcapacity : u.capacity = s.capacity := by rw [hu]; simp
  have hvisits : u.visits = s.visits := by rw [hu]; simp
  have hyard : u.yard = s.yard := by rw [hu]; simp
  have hdegraded : u.bus.degraded = s.bus.degraded := by rw [hu]; simp
  have hinUse : u.parkedInUse = s.parkedInUse := by unfold State.parkedInUse; rw [hvisits]
  have hall : u.allVisits = s.allVisits := by unfold State.allVisits; rw [hvisits]
  have hpoint : u.point = ⟨s.clock.window, s.clock.tenths⟩ := by unfold State.point; rw [hclock]
  refine ⟨fun hbad => ?_, fun hfixed htenths hcls => ?_⟩
  · rw [hexec, State.takeTime_ignored hform (by rwa [hconfig, hgeneral])]
  rw [State.takeTime_sound hform (by rwa [hconfig]) (by rwa [hgeneral]) hcls] at hexec
  refine ⟨fun hvalid hnone => ?_, fun hvalid hearlier => ?_, fun hvalid hlater => ?_⟩
  · rw [if_pos (by simp [hclock, hvalid])] at hexec
    have hspec := State.firstTime_spec (s := u) (p := p) (cls := cls) (by rwa [hcapacity]) (by rwa [hconfig])
    rw [hgeneral, hvisits] at hspec
    exact ⟨_, hexec, u.firstTime_clock p cls, hspec⟩
  · rw [if_neg (by simp [hclock, hvalid]), if_pos (State.isEarlier_iff.mpr (by rwa [hclock])), hclock] at hexec
    exact hexec
  · have hdist : 0 ≤ winDist u.clock.window p.window := by rw [hclock]; omega
    have hearly : ¬ u.isEarlier p = true := by rw [State.isEarlier_iff, hclock]; omega
    rw [if_neg (by simp [hclock, hvalid]), if_neg hearly] at hexec
    have hset := State.adoptTime_clock (s := u) (p := p) cls hdist
    obtain ⟨hbooked, hsame, hfresh⟩ := State.adoptTime_spec (s := u) (p := p) (cls := cls) hdist
    have hholds := State.adoptTime_holds (s := u) (p := p) (cls := cls) (h := hdist)
    rw [hclock] at hset hbooked hsame hfresh
    rw [hcapacity, hyard, hgeneral] at hfresh
    rw [hcapacity, hgeneral, hpoint, hall, hvisits, hdegraded, hinUse] at hholds
    refine ⟨_, hexec, hset.trans (by rw [hvalid]), hbooked,
      fun hk hno => hsame hk (by rwa [hvisits]), fun hnone => ?_⟩
    obtain ⟨hk, hk'⟩ := hfresh hnone
    exact ⟨hk, hk', hholds hnone⟩

end Sys2Proof.Machine
end

section
/-! Rules about evaluation: what the closed portal stage leaves of the bus and the record places, a place reserved, the
holds, and the notes of an admission (R29 to R33, R138). -/

namespace Sys2Proof.Machine

section
variable {r s : State} {n : VisitNumber} {v : Visit}

/-! ### Record places and degraded mode at portal close -/

theorem State.onlyReports.settleDark {d : PassSummary} (h : r.onlyReports s) : r.onlyReports (s.settleDark d) := by
  unfold State.settleDark
  dsimp only
  repeat' split
  · exact State.onlyReports.latch h
  · exact h
  · exact h

theorem State.onlyReports.truncatePass (h : r.onlyReports s) : r.onlyReports (s.truncatePass n) := by
  unfold State.truncatePass State.endPass
  repeat' split
  · exact h
  · exact State.onlyReports.updVisit (State.onlyReports.settleDark h)
  all_goals exact h

theorem State.takeClaim_leaves (n : VisitNumber) (b : Booking) (s : State) :
    (s.takeClaim n b).outcome.reserved = s.outcome.reserved ∧ (s.takeClaim n b).outcome.filled = s.outcome.filled ∧
      (s.takeClaim n b).bus.degraded = s.bus.degraded := State.handClass0_leaves _ _ _

theorem State.selectFor_leaves (v : Visit) (s : State) :
    (s.selectFor v).2.outcome.reserved = s.outcome.reserved ∧ (s.selectFor v).2.outcome.filled = s.outcome.filled ∧
      (s.selectFor v).2.bus.degraded = s.bus.degraded := by
  unfold State.selectFor
  dsimp only
  split
  · split
    · exact State.takeClaim_leaves _ _ _
    · exact State.takeClaim_leaves _ _ _
  · split <;> exact ⟨rfl, rfl, rfl⟩

theorem State.portalClose_leaves (n : VisitNumber) (s : State) :
    (s.portalClose n).outcome.reserved = s.outcome.reserved ∧ (s.portalClose n).outcome.filled = s.outcome.filled ∧
      (s.portalClose n).bus.degraded = s.bus.degraded := by
  have htruncated : s.onlyReports (s.truncatePass n) := (State.onlyReports.refl s).truncatePass
  have hdegraded := htruncated.degraded
  obtain ⟨-, -, hreserved, hfilled⟩ := htruncated
  unfold State.portalClose
  dsimp only
  split
  · exact ⟨hreserved, hfilled, hdegraded⟩
  next v _ =>
    obtain ⟨hreserved', hfilled', hdegraded'⟩ := State.selectFor_leaves v (s.truncatePass n)
    exact ⟨hreserved'.trans hreserved, hfilled'.trans hfilled, hdegraded'.trans hdegraded⟩

/-! ### A place reserved (R152) -/

theorem State.reportStatus_length (s : State) :
    s.reportStatus.bus.txQueue.length ≤ s.bus.txQueue.length + 1 := by
  unfold State.reportStatus State.handStatus
  repeat' split
  · exact Nat.le_succ _
  · exact Nat.le_succ _
  · exact (length_insertFrame _ _).le

theorem State.latch_length (f : AlertFlag) (s : State) :
    (s.latch f).bus.txQueue.length ≤ s.bus.txQueue.length + 1 := by
  unfold State.latch
  split
  · exact Nat.le_succ _
  · exact State.reportStatus_length _

/-- A place is reserved: beside it only the flags are reported. -/
theorem State.reservePlace_spec (n : VisitNumber) (s : State) :
    (s.reservePlace n).outcome.reserved = s.outcome.reserved ++ [n] ∧
      (∀ o, (s.reservePlace n).outbox? o = s.outbox? o) ∧
      (s.reservePlace n).bus.degraded = s.bus.degraded ∧
      (s.reservePlace n).bus.txQueue.length ≤ s.bus.txQueue.length + 1 := by
  unfold State.reservePlace
  dsimp only
  split
  · have hlatch := State.onlyReports.latch (f := .records) (State.onlyReports.refl
      ({ s with outcome := { s.outcome with reserved := s.outcome.reserved ++ [n] } } : State))
    exact ⟨hlatch.2.2.1, hlatch.outbox?, hlatch.degraded, State.latch_length _ _⟩
  · exact ⟨rfl, fun _ => rfl, rfl, Nat.le_succ _⟩

/-! ### Held visits are reported (R34) -/

@[simp] theorem State.reportStatus_holdWaiting (s : State) :
    s.reportStatus.outcome.holdWaiting = s.outcome.holdWaiting := by
  unfold State.reportStatus State.handStatus
  repeat' split
  all_goals rfl

/-- With a visit in HOLD, HOLD_WAITING stands once the holds are reported. -/
theorem State.reportHolds_holdWaiting (hv : s.visit? n = some v) (hhold : v.state = .hold) :
    s.reportHolds.outcome.holdWaiting = true := by
  have hcount : 0 < s.holdCount := by
    unfold State.holdCount
    rcases List.mem_append.mp (List.mem_of_find?_eq_some hv) with hlane | hparked
    · have := (List.countP_pos_iff (p := fun v : Visit => v.state == .hold)).mpr ⟨v, hlane, show (v.state == .hold) = true by rw [hhold]; rfl⟩
      omega
    · have := List.length_pos_of_mem hparked
      omega
  unfold State.reportHolds State.setHoldWaiting State.flagSetChanged
  split
  next h => rw [h]; simpa using hcount
  next =>
    rw [State.reportStatus_holdWaiting]
    simpa [State.driveAlertN] using hcount

/-! ### Messages that join the Direction Queue (R141) -/

/-- The message of kind `k` with these stops joins the Direction Queue where nothing is held, nothing stands for the
visit, and there is room. -/
def State.directed (s t : State) (n : VisitNumber) (k : MessageKind) (stops : List Text) : Prop :=
  s.yard.held = [] → s.yard.queue.length < 4 → (∀ x ∈ s.yard.queue, x.visit ≠ some n) →
    t.yard.queue = s.yard.queue ++ [⟨k, some n, stops⟩]

theorem State.placeVisitMessage_directed {k : MessageKind} {stops : List Text} :
    s.directed (s.placeVisitMessage ⟨k, some n, stops⟩) n k stops := fun hheld hroom hnone => by
  rw [State.placeVisitMessage_joins _ n _ rfl hheld hroom hnone]

/-! ### Holds (R29, R33) -/

/-- The record of a visit in a place hold. -/
def Visit.placeHeld (v : Visit) : Visit := ({ v with state := .hold } : Visit).addReason .recordFull

theorem State.enterPlaceHold_spec (hv : s.visit? n = some v) :
    (s.enterPlaceHold n).visit? n = some v.placeHeld ∧ (s.enterPlaceHold n).outcome.holdWaiting = true ∧
      s.directed (s.enterPlaceHold n) n .wait [] := by
  have hnumber (w : Visit) : w.placeHeld.number = w.number := Visit.addReason_number _ _
  have hstate : v.placeHeld.state = .hold := by
    unfold Visit.placeHeld
    rw [Visit.addReason_eq]
  have hplaced : ((s.updVisit n Visit.placeHeld).placeVisitMessage ⟨.wait, some n, []⟩).visit? n = some v.placeHeld := by
    rw [State.visit?_of_visits (s := s.updVisit n Visit.placeHeld) (by simp), State.visit?_updVisit_same hnumber, hv]
    rfl
  have heq : s.enterPlaceHold n =
      ((s.updVisit n Visit.placeHeld).placeVisitMessage ⟨.wait, some n, []⟩).reportHolds := rfl
  rw [heq]
  refine ⟨?_, State.reportHolds_holdWaiting hplaced hstate, ?_⟩
  · exact (State.visit?_of_visits (s := (s.updVisit n Visit.placeHeld).placeVisitMessage ⟨.wait, some n, []⟩)
      (by simp) n).trans hplaced
  · unfold State.directed
    simp only [State.reportHolds_frame]
    exact State.placeVisitMessage_directed (s := s.updVisit n Visit.placeHeld)

/-- A clerk hold is reported, and WAIT is handed over unless it follows a place hold (R33, R34; log 16). -/
theorem State.enterClerkHold_spec (hv : s.visit? n = some v) :
    (s.enterClerkHold n).outcome.holdWaiting = true ∧
      (.recordFull ∉ v.active → s.directed (s.enterClerkHold n) n .wait []) := by
  have hheld : (s.updVisit n (Visit.heldByClerk s.point)).visit? n = some (v.heldByClerk s.point) := by
    rw [State.visit?_updVisit_same (f := Visit.heldByClerk _) fun _ => rfl, hv]
    rfl
  rw [State.enterClerkHold_eq hv]
  split
  next hfull =>
    exact ⟨State.reportHolds_holdWaiting hheld rfl, fun hno => absurd hfull hno⟩
  next =>
    have hplaced : ((s.updVisit n (Visit.heldByClerk s.point)).placeVisitMessage ⟨.wait, some n, []⟩).visit? n =
        some (v.heldByClerk s.point) := (State.visit?_of_visits (by simp) n).trans hheld
    refine ⟨State.reportHolds_holdWaiting hplaced rfl, fun _ => ?_⟩
    unfold State.directed
    simp only [State.reportHolds_frame]
    exact State.placeVisitMessage_directed (s := s.updVisit n (Visit.heldByClerk s.point))

theorem Visit.mem_active_addReason_ne {r r' : Reason} (h : r' ≠ r) (v : Visit) :
    r' ∈ (v.addReason r).active ↔ r' ∈ v.active := by
  unfold Visit.addReason addOnce
  repeat' split
  · rfl
  · rfl
  · simp [h]

theorem State.giveNoCapacity_spec (hv : s.visit? n = some v) :
    (s.giveNoCapacity n).outcome.holdWaiting = true ∧
      (.recordFull ∉ v.active → s.directed (s.giveNoCapacity n) n .wait []) := by
  have hgiven : (s.updVisit n (Visit.addReason .noCapacity)).visit? n = some (v.addReason .noCapacity) := by
    rw [State.visit?_updVisit_same (Visit.addReason_number _), hv]
    rfl
  obtain ⟨hwaiting, hdirected⟩ := State.enterClerkHold_spec hgiven
  exact ⟨hwaiting, fun hno => hdirected (by rwa [Visit.mem_active_addReason_ne (by decide)])⟩

/-! ### Block notes of an admission (R138) -/

/-- A block note finds a place in a queue that is not full. -/
theorem State.sendNote_queued {block : Text} {w : Window} (hw : s.yard.window = some w)
    (hroom : s.bus.txQueue.length < 8) :
    (∃ e ∈ (s.sendNote block).bus.txQueue, e.frame = .blockNote block w) ∧
      (s.sendNote block).bus.txQueue.length = s.bus.txQueue.length + 1 := by
  have heq : s.sendNote block = s.enqueue (.blockNote block w) := by
    unfold State.sendNote State.handNote
    rw [hw]
    exact if_neg (by unfold State.txFree; omega)
  rw [heq]
  exact ⟨⟨_, (mem_insertFrame _ _ _).mpr (.inl rfl), rfl⟩, length_insertFrame _ _⟩

theorem State.onlyReports.queued {f : TxFrame} (h : r.onlyReports s) (hf : ∃ e ∈ r.bus.txQueue, e.frame = f) :
    ∃ e ∈ s.bus.txQueue, e.frame = f := by
  obtain ⟨e, he, hef⟩ := hf
  exact ⟨e, h.2.1 e he, hef⟩

theorem routeDrops_notes {ms : List Move} {s : State} {w : Window} (hw : s.yard.window = some w)
    (hroom : s.bus.txQueue.length + ms.length ≤ 8) :
    ∀ x ∈ (routeByTable ms s.yard.blocks).1, ∃ e ∈ (routeDrops ms s).2.bus.txQueue, e.frame = .blockNote x w := by
  induction ms generalizing s with
  | nil => simp [routeByTable]
  | cons m ms ih =>
    rw [List.length_cons] at hroom
    have hsnd : (routeDrops (m :: ms) s).2 = (routeDrops ms (s.routeDrop m).2).2 := rfl
    have hkept {f : TxFrame} : (∃ e ∈ (s.routeDrop m).2.bus.txQueue, e.frame = f) →
        ∃ e ∈ (routeDrops ms (s.routeDrop m).2).2.bus.txQueue, e.frame = f :=
      ((State.onlyReports.refl _).routeDrops).queued
    rw [hsnd]
    rcases s.routeDrop_cases m with ⟨x, hx, hdrop⟩ | ⟨hnone, hstop, hdrop⟩
    · obtain ⟨hnote, hlength⟩ := State.sendNote_queued (s := s.setBlocks (bumpBlock x s.yard.blocks)) (block := x) hw
        (by show s.bus.txQueue.length < 8; omega)
      rw [hdrop] at hkept ⊢
      rw [routeByTable_some hx]
      intro y hy
      rcases List.mem_cons.mp hy with rfl | hy
      · exact hkept hnote
      · refine ih (s := (s.setBlocks (bumpBlock x s.yard.blocks)).sendNote x) ?_ ?_ y ?_
        · rw [State.sendNote_yard]
          exact hw
        · rw [hlength]
          show s.bus.txQueue.length + 1 + ms.length ≤ 8
          omega
        · rw [State.sendNote_yard]
          exact hy
    · rw [routeByTable_none hnone, ← hstop]
      rcases hdrop with ⟨x, hone, hdrop⟩ | ⟨hone, hdrop⟩
      · obtain ⟨hnote, hlength⟩ := State.sendNote_queued (s := s) (block := x) hw (by omega)
        rw [hdrop] at hkept ⊢
        rw [hone]
        intro y hy
        rcases List.mem_cons.mp hy with rfl | hy
        · exact hkept hnote
        · refine ih (s := s.sendNote x) ?_ (by omega) y ?_
          · rwa [State.sendNote_yard]
          · rwa [State.sendNote_yard]
      · rw [hdrop, hone]
        exact ih hw (by omega)

/-- The block notes of an admission are in the Transmit Queue where it has room for them. -/
theorem State.giveVerdict_notes {w : Window} (hv : s.visit? n = some v) (hw : s.yard.window = some w)
    (hroom : s.bus.txQueue.length + v.drops.length ≤ 8) :
    ∀ x ∈ (routeByTable v.drops s.yard.blocks).1,
      ∃ e ∈ (s.giveVerdict n .admitted).bus.txQueue, e.frame = .blockNote x w := by
  intro x hx
  have hrouted : ∃ e ∈ ((s.writeVerdict n .admitted).routeVerdict v .admitted).2.bus.txQueue,
      e.frame = .blockNote x w :=
    routeDrops_notes (s := s.writeVerdict n .admitted) hw hroom x hx
  have hrest : ((s.writeVerdict n .admitted).routeVerdict v .admitted).2.onlyReports (s.giveVerdict n .admitted) := by
    rw [State.giveVerdict_eq hv]
    exact State.onlyReports.reportHolds
      ((State.onlyReports.refl _).updVisit.placeVisitMessage.updVisit)
  exact hrest.queued hrouted

end

end Sys2Proof.Machine
end

section
/-! O28: LOOP_S. -/

namespace Sys2Proof.Machine

section
variable {s t : State} {n : VisitNumber} {v : Visit}

/-! ### An admission (R30, R134 to R138) -/

/-- An admission of `v`, whose record is `w` after it: the drop moves routed and noted, the pick moves routed, the driver
directed. -/
def State.admits (s t : State) (n : VisitNumber) (v w : Visit) : Prop :=
  (v.needsInspection = false →
    w.stops = (routeByTable v.drops s.yard.blocks).1 ++ pickStops v.moves ∧
      t.yard.blocks = (routeByTable v.drops s.yard.blocks).2 ∧ s.directed t n .proceed w.stops ∧
      ∀ win, s.yard.window = some win → s.bus.txQueue.length + v.drops.length ≤ 8 →
        ∀ x ∈ (routeByTable v.drops s.yard.blocks).1, ∃ e ∈ t.bus.txQueue, e.frame = .blockNote x win) ∧
  (v.needsInspection = true →
    w.stops = ((s.yard.blocks.find? (fun e => e.kind == .inspection)).map (·.ident)).toList ++ pickStops v.moves ∧
      t.yard.blocks = s.yard.blocks ∧ s.directed t n .inspect (w.stops.take 1))

/-- An admission routes the visit, directs the driver, and leaves bookings and capacity. -/
theorem State.giveVerdict_admits (hv : s.visit? n = some v) (ht : t = s.giveVerdict n v.admission) :
    ∃ w, t.visit? n = some w ∧ w.state = .exiting ∧ w.verdict = v.admission ∧ w.verdictStamp = some s.point ∧
      w.flex = v.flex ∧ t.booking = s.booking ∧ t.capacity = s.capacity ∧
      s.admits t n v w := by
  subst ht
  refine ⟨_, State.giveVerdict_visit hv, rfl, rfl, rfl, rfl, by simp, by simp, fun hno => ?_, fun hyes => ?_⟩
  · rw [show v.admission = .admitted from if_neg (by simp [hno])]
    exact ⟨rfl, (State.giveVerdict_blocks hv).1, State.giveVerdict_joins hv, fun _ => State.giveVerdict_notes hv⟩
  · rw [show v.admission = .admitInspect from if_pos hyes]
    exact ⟨rfl, (State.giveVerdict_blocks hv).1, State.giveVerdict_joins hv⟩

/-! ### The verdict combined (R30) -/

theorem State.combine_eq (hv : s.visit? n = some v) :
    s.combine n = if v.active.any Reason.isRefuse then s.refuseVisit n
      else if v.active.any Reason.isClerkHold then s.enterClerkHold n
      else if v.needsFlex then s.flexStep n
      else s.giveVerdict n v.admission := by
  unfold State.combine
  rw [hv]

theorem State.combine_refuses (hv : s.visit? n = some v) (hrefuse : v.active.any Reason.isRefuse = true)
    (ht : t = s.combine n) :
    ∃ w, t.visit? n = some w ∧ w.state = .exiting ∧ w.verdict = .refuse ∧ w.stops = [] ∧
      w.verdictStamp = some s.point ∧ t.capacity = s.capacity ∧ t.yard.blocks = s.yard.blocks ∧
      s.directed t n .turnOut [] ∧ (v.claimHeld = false → t.booking = s.booking) ∧
      ∀ ref, v.claimHeld = true → v.ref = some ref → w.claimHeld = false ∧
        t.booking = { s.booking with table := s.claimEnded n ref .available } ∧
        (s.outbox? .bookingStore = none → t.holdsFrame (.claimEnd ref .released)) := by
  rw [State.combine_eq hv, if_pos hrefuse] at ht
  subst ht
  obtain ⟨w, hw, hstate, hverdict, hstops, hstamp, -, hclaim, hkept, hended⟩ := State.refuseVisit_spec hv
  refine ⟨w, hw, hstate, hverdict, hstops, hstamp, by simp, ?_, fun hheld hroom hnone => ?_, hkept, fun ref hheld href =>
    ⟨hclaim (by simp [href]), hended ref hheld href⟩⟩
  · rw [State.refuseVisit_yard hv]
    exact (State.giveVerdict_blocks hv).1
  · rw [State.refuseVisit_yard hv]
    exact State.giveVerdict_joins hv hheld hroom hnone

theorem State.combine_holds (hv : s.visit? n = some v) (hrefuse : v.active.any Reason.isRefuse = false)
    (hhold : v.active.any Reason.isClerkHold = true) (ht : t = s.combine n) :
    t.visit? n = some (v.heldByClerk s.point) ∧ t.outcome.holdWaiting = true ∧ t.booking = s.booking ∧
      t.capacity = s.capacity ∧ (.recordFull ∉ v.active → s.directed t n .wait []) := by
  rw [State.combine_eq hv, if_neg (by simp [hrefuse]), if_pos hhold] at ht
  subst ht
  obtain ⟨hwaiting, hdirected⟩ := State.enterClerkHold_spec hv
  exact ⟨State.enterClerkHold_visit hv, hwaiting, by simp, by simp, hdirected⟩

/-- With no reason to refuse or hold, the visit is admitted, or takes the flex step. -/
theorem State.combine_passes (hv : s.visit? n = some v) (hrefuse : v.active.any Reason.isRefuse = false)
    (hhold : v.active.any Reason.isClerkHold = false) :
    s.combine n = if v.needsFlex then s.flexStep n else s.giveVerdict n v.admission := by
  rw [State.combine_eq hv, if_neg (by simp [hrefuse]), if_neg (by simp [hhold])]

/-! ### The flex step (R31, R85, R88 to R90) -/

/-- A visit that waits for a loan: its state changes, the holds are reported, and it joins the Loan Wait List. -/
def State.waitingForLoan (n : VisitNumber) (s : State) : State :=
  ((s.updVisit n (fun v => { v with state := .awaitLoan })).reportHolds).setWaitList (s.capacity.waitList ++ [n])

theorem State.waitingForLoan_spec (hv : s.visit? n = some v) :
    (s.waitingForLoan n).visit? n = some { v with state := .awaitLoan } ∧ (s.waitingForLoan n).yard = s.yard ∧
      (s.waitingForLoan n).booking = s.booking ∧
      (s.waitingForLoan n).capacity = { s.capacity with waitList := s.capacity.waitList ++ [n] } ∧
      s.onlyReports (s.waitingForLoan n) := by
  refine ⟨?_, by simp [State.waitingForLoan], by simp [State.waitingForLoan], by simp [State.waitingForLoan],
    (State.onlyReports.refl s).updVisit.reportHolds⟩
  rw [State.visit?_of_visits (s := s.updVisit n fun v => { v with state := .awaitLoan })
    (by simp [State.waitingForLoan]), State.visit?_updVisit_same (f := fun v => { v with state := .awaitLoan })
      fun _ => rfl, hv]
  rfl

theorem State.flexStep_eq (n : VisitNumber) (s : State) :
    s.flexStep n = if 0 < s.spare && s.capacity.waitList.isEmpty then s.useUnit.admitWith n .own
      else if s.canAsk then
        if s.capacity.ask.isNone then (s.waitingForLoan n).openAsk else s.waitingForLoan n
      else s.giveNoCapacity n := by
  have hopen : (s.waitingForLoan n).capacity.ask = s.capacity.ask := by simp [State.waitingForLoan]
  rw [← hopen]
  rfl

theorem State.flexStep_unit {q : Quota} (hv : s.visit? n = some v) (hq : s.capacity.quota = some q)
    (hspare : q.lent + q.used < q.share + q.borrowed) (hnobody : s.capacity.waitList = []) :
    s.flexStep n = (s.useUnit.updVisit n fun w => { w with flex := .own }).giveVerdict n v.admission := by
  have hspare' : 0 < s.spare := by
    rw [State.spare_eq hq]
    omega
  rw [State.flexStep_eq, hnobody, if_pos (by simpa using hspare')]
  exact State.admitWith_eq hv

theorem State.flexStep_waits (hspare : s.spare = 0) (hask : s.canAsk = true) :
    s.flexStep n = if s.capacity.ask.isNone then (s.waitingForLoan n).openAsk else s.waitingForLoan n := by
  rw [State.flexStep_eq, if_neg (by simp [hspare]), if_pos hask]

theorem State.flexStep_noCapacity (hspare : s.spare = 0) (hask : s.canAsk = false) :
    s.flexStep n = s.giveNoCapacity n := by
  rw [State.flexStep_eq, if_neg (by simp [hspare]), if_neg (by simp [hask])]

theorem State.openAsk_leaves (s : State) :
    s.openAsk.visits = s.visits ∧ s.openAsk.outcome.reserved = s.outcome.reserved := by
  unfold State.openAsk
  split
  · exact ⟨rfl, rfl⟩
  · exact ⟨by simp, (State.handClass0_leaves _ _ _).1⟩

/-- With spare 0 and a loan to be asked the visit waits, and with no open Ask one is made for it. -/
theorem State.flexStep_asks {q : Quota} (hv : s.visit? n = some v) (hq : s.capacity.quota = some q)
    (hspare : s.spare = 0) (hask : s.canAsk = true) (ht : t = s.flexStep n) :
    t.visit? n = some { v with state := .awaitLoan } ∧ t.yard = s.yard ∧
      (s.capacity.ask ≠ none → t.capacity = { s.capacity with waitList := s.capacity.waitList ++ [n] }) ∧
      (s.capacity.ask = none → t.capacity = { s.capacity with
          waitList := s.capacity.waitList ++ [n], askCounter := s.capacity.askCounter + 1
          ask := some ⟨s.capacity.askCounter, q.window, .asking, .running 1500⟩ } ∧
        (s.outbox? .capacityUnit = none → t.holdsFrame (.loanAsk q.window s.capacity.askCounter))) := by
  obtain ⟨hvisit, hyard, -, hcapacity, hreports⟩ := State.waitingForLoan_spec hv
  rw [State.flexStep_waits hspare hask] at ht
  cases hnone : s.capacity.ask with
  | some a =>
    rw [hnone, if_neg (by simp)] at ht
    subst ht
    exact ⟨hvisit, hyard, fun _ => hcapacity, fun h => by simp at h⟩
  | none =>
    have hq' : (s.waitingForLoan n).capacity.quota = some q := by
      rw [hcapacity]
      exact hq
    rw [hnone, Option.isNone_none, if_pos rfl] at ht
    subst ht
    refine ⟨?_, ?_, fun h => absurd rfl h, fun _ => ⟨?_, fun houtbox => ?_⟩⟩
    · rw [State.visit?_of_visits (State.openAsk_leaves _).1]
      exact hvisit
    · rw [State.openAsk_eq hq', State.handClass0_frame _ _ _ |>.2.2.2.2.2.2.2.2.1]
      exact hyard
    · rw [State.openAsk_eq hq', State.handClass0_frame _ _ _ |>.2.2.2.2.2.2.1, hcapacity]
    · rw [State.openAsk_eq hq', hcapacity]
      exact State.handClass0_holds ((hreports.outbox? _).trans houtbox)

/-- Whatever the flex step does, the reserved places stay, and the visit keeps its mark of one. -/
theorem State.flexStep_leaves (hv : s.visit? n = some v) :
    (s.flexStep n).outcome.reserved = s.outcome.reserved ∧
      ∃ w, (s.flexStep n).visit? n = some w ∧ w.placeReserved = v.placeReserved := by
  obtain ⟨hvisit, -, -, -, hreports⟩ := State.waitingForLoan_spec hv
  rw [State.flexStep_eq]
  split
  · have hadmitted : s.onlyReports (s.useUnit.admitWith n .own) := State.onlyReports.admitWith (s := s.useUnit)
      (State.onlyReports.refl s)
    exact ⟨hadmitted.2.2.1, _, State.admitWith_visit (s := s.useUnit) hv, rfl⟩
  · split
    · split
      · obtain ⟨hvisits, hreserved⟩ := (s.waitingForLoan n).openAsk_leaves
        exact ⟨hreserved.trans hreports.2.2.1, _, (State.visit?_of_visits hvisits n).trans hvisit, rfl⟩
      · exact ⟨hreports.2.2.1, _, hvisit, rfl⟩
    · refine ⟨((State.onlyReports.refl s).giveNoCapacity).2.2.1, _, State.giveNoCapacity_visit hv, ?_⟩
      rw [Visit.addReason_eq]
      rfl

/-- Whatever verdict is combined, the reserved places stay, and the visit keeps its mark of one. -/
theorem State.combine_leaves (hv : s.visit? n = some v) :
    (s.combine n).outcome.reserved = s.outcome.reserved ∧
      ∃ w, (s.combine n).visit? n = some w ∧ w.placeReserved = v.placeReserved := by
  rw [State.combine_eq hv]
  split
  · obtain ⟨w, hw, -, -, -, -, hplace, -⟩ := State.refuseVisit_spec hv
    exact ⟨(State.refuseVisit_records hv).1, w, hw, hplace⟩
  · split
    · exact ⟨((State.onlyReports.refl s).enterClerkHold).2.2.1, _, State.enterClerkHold_visit hv, rfl⟩
    · split
      · exact State.flexStep_leaves hv
      · exact ⟨((State.onlyReports.refl s).giveVerdict).2.2.1, _, State.giveVerdict_visit hv, rfl⟩

theorem State.combine_flex (hv : s.visit? n = some v) (hrefuse : v.active.any Reason.isRefuse = false)
    (hhold : v.active.any Reason.isClerkHold = false) (hflex : v.needsFlex = true) : s.combine n = s.flexStep n := by
  rw [State.combine_passes hv hrefuse hhold, if_pos hflex]

/-- An admission, with no flex step or with a unit of the spare where nobody waits (R30, R31). -/
theorem State.combine_admits (hv : s.visit? n = some v) (hrefuse : v.active.any Reason.isRefuse = false)
    (hhold : v.active.any Reason.isClerkHold = false)
    (hunit : v.needsFlex = false ∨ ∃ q, s.capacity.quota = some q ∧ q.lent + q.used < q.share + q.borrowed ∧
      s.capacity.waitList = []) (ht : t = s.combine n) :
    ∃ w, t.visit? n = some w ∧ w.state = .exiting ∧ w.verdict = v.admission ∧ w.verdictStamp = some s.point ∧
      t.booking = s.booking ∧ (v.needsFlex = false → t.capacity = s.capacity ∧ w.flex = v.flex) ∧
      (v.needsFlex = true → w.flex = .own ∧
        t.capacity = { s.capacity with quota := s.capacity.quota.map (fun q => { q with used := q.used + 1 }) }) ∧
      s.admits t n v w := by
  rw [State.combine_passes hv hrefuse hhold] at ht
  cases hflex : v.needsFlex with
  | false =>
    rw [if_neg (by simp [hflex])] at ht
    obtain ⟨w, hw, hstate, hverdict, hstamp, hsource, hbooking, hcap, hadmits⟩ := State.giveVerdict_admits hv ht
    exact ⟨w, hw, hstate, hverdict, hstamp, hbooking, fun _ => ⟨hcap, hsource⟩, fun h => by simp at h, hadmits⟩
  | true =>
    obtain ⟨q, hq, hspare, hnobody⟩ := hunit.resolve_left (by simp [hflex])
    rw [if_pos hflex, State.flexStep_unit hv hq hspare hnobody] at ht
    obtain ⟨w, hw, hstate, hverdict, hstamp, hsource, hbooking, hcap, hadmits⟩ := State.giveVerdict_admits
      (v := { v with flex := .own }) (State.visit?_setFlex (s := s.useUnit) hv) ht
    exact ⟨w, hw, hstate, hverdict, hstamp, hbooking, fun h => by simp at h, fun _ => ⟨hsource, hcap⟩, hadmits⟩

/-! ### The place (R29, R152) -/

/-- A record place is reserved for the visit, and its record says so. -/
def State.withPlace (n : VisitNumber) (s : State) : State :=
  (s.reservePlace n).updVisit n (fun v => { v with placeReserved := true })

theorem State.evaluate_withPlace (h : s.placesUsed < 16) : s.evaluate n = (s.withPlace n).combine n := if_pos h

theorem State.evaluate_placeHold (h : 16 ≤ s.placesUsed) : s.evaluate n = s.enterPlaceHold n := if_neg (by omega)

theorem State.withPlace_visit (hv : s.visit? n = some v) :
    (s.withPlace n).visit? n = some { v with placeReserved := true } := by
  unfold State.withPlace
  rw [State.visit?_updVisit_same (f := fun v => { v with placeReserved := true }) fun _ => rfl,
    State.visit?_of_visits (s := s) (by simp), hv]
  rfl

theorem State.withPlace_leaves (n : VisitNumber) (s : State) :
    (s.withPlace n).start = s.start ∧ (s.withPlace n).clock = s.clock ∧ (s.withPlace n).booking = s.booking ∧
      (s.withPlace n).capacity = s.capacity ∧ (s.withPlace n).yard = s.yard := by
  simp [State.withPlace]

theorem State.withPlace_bus (n : VisitNumber) (s : State) :
    (s.withPlace n).outcome.reserved = s.outcome.reserved ++ [n] ∧
      (∀ o, (s.withPlace n).outbox? o = s.outbox? o) ∧ (s.withPlace n).bus.degraded = s.bus.degraded ∧
      (s.withPlace n).bus.txQueue.length ≤ s.bus.txQueue.length + 1 := s.reservePlace_spec n

/-! ### LOOP_S (R26) -/

/-- LOOP_S occupied evaluates the visit, in the lane that the closed portal stage left where the visit was still in the
portal. -/
theorem State.loopSOccupied_evaluates (h : s.oldest? (fun v => v.state == .toStop) = some v ∧ t = s ∨
      (s.oldest? (fun v => v.state == .toStop) = none ∧
        ∃ p, s.portal? = some p ∧ p.number = v.number ∧ t = s.portalClose p.number)) :
    s.loopSOccupied = t.evaluate v.number ∧
      (t.start = s.start ∧ t.line = s.line ∧ t.clock = s.clock ∧ t.freeIndex = s.freeIndex ∧ t.pending = s.pending) ∧
      t.capacity = s.capacity ∧ t.yard = s.yard ∧ t.outcome.reserved = s.outcome.reserved ∧
      t.outcome.filled = s.outcome.filled ∧ t.bus.degraded = s.bus.degraded := by
  unfold State.loopSOccupied
  rcases h with ⟨holdest, rfl⟩ | ⟨hnone, p, hp, hnumber, rfl⟩
  · rw [holdest]
    exact ⟨rfl, ⟨rfl, rfl, rfl, rfl, rfl⟩, rfl, rfl, rfl, rfl, rfl⟩
  · rw [hnone, hp]
    dsimp only
    rw [hnumber]
    exact ⟨rfl, by simp, by simp, by simp, State.portalClose_leaves v.number s⟩

end

/-- With neither a TO_STOP visit nor one in the portal, nothing is evaluated. -/
theorem State.loopSOccupied_nothing {s : State} (hstop : s.oldest? (fun v => v.state == .toStop) = none)
    (hportal : s.portal? = none) : s.loopSOccupied = s := by
  unfold State.loopSOccupied
  rw [hstop, hportal]

/-- Settles O28: the closed portal stage leaves what the evaluation reads of the gate; a place taken or none then gives the
place hold or the verdict combined, branch by branch. -/
theorem loopSOccupiedEvaluates : Obligations.LoopSOccupiedEvaluates := by
  refine ⟨fun s u h hu hstop hportal => ?_, fun s u h hu hmode => ?_, fun s u h hu => ?_,
    fun s u y v h hu hmode hwho hv => ?_⟩
  · subst hu
    have hnothing := State.loopSOccupied_nothing (s := s.debouncedTo .loopS true) hstop hportal
    refine (State.exec_debounceExpiry_edge h).trans (congrArg Host.Outcome.next ?_)
    exact (ite_congr rfl (fun _ => rfl) fun _ => hnothing).trans (ite_self _)
  · subst hu
    exact (State.exec_debounceExpiry_edge h).trans (congrArg Host.Outcome.next (if_pos hmode))
  · subst hu
    exact State.exec_debounceExpiry_edge h
  subst hu
  have hexec := (State.exec_debounceExpiry_edge h).trans (congrArg Host.Outcome.next (if_neg hmode))
  obtain ⟨hevaluates, ⟨hstart, hline, hclock, hfree, hpending⟩, hcapacity, hyard, hreserved, hfilled, hdegraded⟩ :=
    State.loopSOccupied_evaluates (s := s.debouncedTo .loopS true) hwho
  have heq : y.evaluate v.number = { s.debouncedTo .loopS true with
      visits := (y.evaluate v.number).visits, yard := (y.evaluate v.number).yard
      reader := (y.evaluate v.number).reader, out := (y.evaluate v.number).out
      booking := (y.evaluate v.number).booking, capacity := (y.evaluate v.number).capacity
      outcome := (y.evaluate v.number).outcome, bus := (y.evaluate v.number).bus, survey := y.survey } :=
    State.eq_of_blocks (by simp [hstart, hline, hclock, hfree, hpending])
  rw [hevaluates] at hexec
  replace hclock : s.clock = y.clock := hclock.symm
  replace hcapacity : s.capacity = y.capacity := hcapacity.symm
  replace hyard : s.yard = y.yard := hyard.symm
  replace hdegraded : s.bus.degraded = y.bus.degraded := hdegraded.symm
  replace hreserved : s.outcome.reserved = y.outcome.reserved := hreserved.symm
  replace hfilled : s.outcome.filled = y.outcome.filled := hfilled.symm
  rw [hclock, hcapacity, hyard, hdegraded, hreserved, hfilled]
  by_cases hroom : 16 ≤ y.placesUsed
  · obtain ⟨hvisit, hwaiting, hdirected⟩ := State.enterPlaceHold_spec hv
    have hsame : y.onlyReports (y.enterPlaceHold v.number) := (State.onlyReports.refl y).enterPlaceHold
    rw [State.evaluate_placeHold hroom] at hexec heq
    refine ⟨_, _, hexec, heq, hvisit, fun direct hdirect => ⟨fun _ => ?_, fun hlt => absurd hlt (Nat.not_lt.mpr hroom)⟩⟩
    exact ⟨rfl, hwaiting, by simp, by simp, hsame.2.2.1, (hdirect _ _).mpr hdirected⟩
  obtain ⟨hzstart, hzclock, hzbooking, hzcapacity, hzyard⟩ := State.withPlace_leaves v.number y
  obtain ⟨hzreserved, hzoutbox, hzdegraded, hzlength⟩ := State.withPlace_bus v.number y
  have hzclaim (ref : Text) (st : BookingState) := State.claimEnded_congr hzbooking hzstart v.number ref st
  have hz := State.withPlace_visit hv
  rw [State.evaluate_withPlace (Nat.not_le.mp hroom)] at hexec heq
  rw [← hzclock, ← hzbooking, ← hzcapacity, ← hzyard, ← hzdegraded]
  generalize y.withPlace v.number = z at *
  obtain ⟨hcreserved, w, hw, hplace⟩ := State.combine_leaves hz
  refine ⟨_, w, hexec, heq, hw, fun direct hdirect => ⟨fun hfull => absurd hfull hroom, fun _ =>
    ⟨hcreserved.trans hzreserved, hplace, fun hrefuse => ?_, fun hrefuse hhold => ?_, fun hrefuse hhold hunit => ?_,
      fun hrefuse hhold hflex q hq hspare => ?_⟩⟩⟩
  · obtain ⟨w', hw', hstate, hverdict, hstops, hstamp, hcap, hblocks, hdirected, hkept, hended⟩ :=
      State.combine_refuses hz hrefuse rfl
    obtain rfl := Option.some.inj (hw.symm.trans hw')
    refine ⟨hstate, hverdict, hstops, hstamp, hcap, hblocks, (hdirect _ _).mpr hdirected, hkept, fun ref hheld href => ?_⟩
    rw [← hzclaim, ← hzoutbox]
    exact hended ref hheld href
  · obtain ⟨hw', hwaiting, hbooking, hcap, hdirected⟩ := State.combine_holds hz hrefuse hhold rfl
    obtain rfl := Option.some.inj (hw.symm.trans hw')
    exact ⟨rfl, rfl, rfl, hwaiting, hbooking, hcap, fun hno => (hdirect _ _).mpr (hdirected hno)⟩
  · obtain ⟨w', hw', hstate, hverdict, hstamp, hbooking, hown, hunits, hdropped, hinspected⟩ :=
      State.combine_admits hz hrefuse hhold hunit rfl
    obtain rfl := Option.some.inj (hw.symm.trans hw')
    refine ⟨hstate, hverdict, hstamp, hbooking, hown, hunits, fun hno => ?_, fun hyes => ?_⟩
    · obtain ⟨hstops, hblocks, hdirected, hnotes⟩ := hdropped hno
      exact ⟨hstops, hblocks, (hdirect _ _).mpr hdirected, fun win hwin hlength => hnotes win hwin
        (show z.bus.txQueue.length + (v.moves.filter Move.isDrop).length ≤ 8 by omega)⟩
    · obtain ⟨hstops, hblocks, hdirected⟩ := hinspected hyes
      exact ⟨hstops, hblocks, (hdirect _ _).mpr hdirected⟩
  · have hnone : z.spare = 0 := by
      rw [State.spare_eq hq]
      omega
    have hcombine := State.combine_flex hz hrefuse hhold hflex
    refine ⟨by rw [hcombine, State.flexStep_frame _ _ |>.2.2.2.1], fun hheard hborrowed => ?_, fun hcannot => ?_⟩
    · obtain ⟨hw', hyard', hopen, hfresh⟩ :=
        State.flexStep_asks hz hq hnone ((State.canAsk_iff hq).mpr ⟨hheard, hborrowed⟩) hcombine
      obtain rfl := Option.some.inj (hw.symm.trans hw')
      refine ⟨rfl, rfl, hyard', hopen, fun hno => ?_⟩
      rw [← hzoutbox]
      exact hfresh hno
    · have hask : z.canAsk = false := by
        rw [← Bool.not_eq_true, State.canAsk_iff hq]
        rintro ⟨hheard, hborrowed⟩
        rcases hcannot with ⟨hdeg, hsilent⟩ | hfull
        · simp [hdeg, hsilent] at hheard
        · omega
      rw [State.flexStep_noCapacity hnone hask] at hcombine
      have hw' := State.giveNoCapacity_visit hz
      obtain ⟨hwaiting, hdirected⟩ := State.giveNoCapacity_spec hz
      rw [← hcombine] at hw' hwaiting hdirected
      obtain rfl := Option.some.inj (hw.symm.trans hw')
      exact ⟨rfl, rfl, Visit.addReason_given _ _, hwaiting, rfl, by rw [hcombine]; simp, fun hno =>
        (hdirect _ _).mpr (hdirected hno)⟩

end Sys2Proof.Machine
end

section
/-! Rules about the portal close of a record (R27): the reasons added, the checks of the containers, and what they say beside
the tables of R17, R75, R107, R127 and R128. -/

namespace Sys2Proof.Machine

/-! ### Reasons added -/

section
variable {v : Visit} {r r' : Reason} {rs : List Reason}

theorem Visit.given_addReason : (v.addReason r).given r' ↔ v.given r' ∨ r' = r := by
  unfold Visit.given Visit.addReason addOnce
  split
  next h => grind
  next =>
    dsimp only
    split <;> grind

theorem Visit.given_addReasons : (v.addReasons rs).given r ↔ v.given r ∨ r ∈ rs := by
  induction rs generalizing v with
  | nil => simp [Visit.addReasons]
  | cons a rs ih =>
    refine (ih (v := v.addReason a)).trans ?_
    rw [Visit.given_addReason, List.mem_cons, or_assoc]

theorem Visit.addReasons_eq (rs : List Reason) (v : Visit) :
    v.addReasons rs = { v with active := (v.addReasons rs).active } := by
  have honly : ∃ active, v.addReasons rs = { v with active := active } := by
    induction rs generalizing v with
    | nil => exact ⟨v.active, rfl⟩
    | cons a rs ih =>
      obtain ⟨active, hactive⟩ := ih (v.addReason a)
      exact ⟨active, hactive.trans (by rw [Visit.addReason_eq])⟩
  obtain ⟨active, hactive⟩ := honly
  rw [hactive]

theorem Visit.addReason_updSlot (r : Reason) (p : Position) (f : ContainerSlot → ContainerSlot) (v : Visit) :
    (v.addReason r).updSlot p f = (v.updSlot p f).addReason r := by
  unfold Visit.addReason
  cases p <;> exact apply_ite (Visit.updSlot _ f) _ _ _

theorem Visit.addReasons_updSlot (rs : List Reason) (p : Position) (f : ContainerSlot → ContainerSlot) (v : Visit) :
    (v.addReasons rs).updSlot p f = (v.updSlot p f).addReasons rs := by
  induction rs generalizing v with
  | nil => rfl
  | cons a rs ih =>
    refine (ih (v.addReason a)).trans ?_
    rw [Visit.addReason_updSlot]
    rfl

theorem Visit.addReasons_append (rs qs : List Reason) (v : Visit) :
    v.addReasons (rs ++ qs) = (v.addReasons rs).addReasons qs := List.foldl_append

end

/-! ### The tables of the arrival class, the closure outcome, the score and the band -/

theorem arrivalClass_byTable (g : General) (booked : Window) (p : GatePoint) :
    arrivalByTable g booked p (arrivalClass g booked p) := by
  rintro len d rfl rfl
  unfold arrivalClass
  dsimp only
  generalize winDist booked p.window * ((g.windowMinutes : Int) * 60) + ((p.tenths / 10 : Nat) : Int) = d
  refine ⟨fun h h' => ?_, fun h h' => ?_, fun h h' => ?_, fun h h' => ?_, fun h h' => ?_⟩
  · rw [if_neg (by omega), if_pos h']
  · rw [if_pos h, if_pos h']
  · rw [if_pos h, if_neg (by omega)]
  · rw [if_neg (by omega), if_neg (by omega), if_pos h']
  · rw [if_neg (by omega), if_neg (by omega), if_neg (by omega)]

theorem mem_arrivalReason_iff (c : ArrivalClass) (r : Reason) :
    r ∈ arrivalReason c ↔ (r = .tooEarly ∧ c = .tooEarly) ∨ (r = .tooLate ∧ c = .tooLate) := by
  cases c <;> simp [arrivalReason]

theorem sealsRead_eq_false_iff (expected : List Text) (set : List SealEntry) :
    sealsRead expected set = false ↔ ∃ x ∈ expected, ∀ e ∈ set, e.text ≠ x := by
  simp [sealsRead, hasSeal]

theorem closureOf_byTable (expected : List Text) (set : List SealEntry) :
    closureByTable expected set (closureOf expected set) := by
  have htampered : set.any (fun e => e.kind == .electronic && e.tag == some .opened) = true ↔
      ∃ e ∈ set, e.kind = .electronic ∧ e.tag = some .opened := by simp
  have hmissing : (!expected.isEmpty && set.isEmpty) = true ↔ expected ≠ [] ∧ set = [] := by simp
  have hmismatch : (!expected.isEmpty && !sealsRead expected set) = true ↔ ∃ x ∈ expected, ∀ e ∈ set, e.text ≠ x := by
    rw [Bool.and_eq_true, Bool.not_eq_true' (sealsRead _ _), sealsRead_eq_false_iff]
    exact ⟨And.right, fun h => ⟨by obtain ⟨x, hx, -⟩ := h; cases expected <;> simp_all, h⟩⟩
  have hexpected : (!expected.isEmpty) = true ↔ expected ≠ [] := by simp
  have hnone : set.isEmpty = true ↔ set = [] := by simp
  unfold closureByTable closureOf
  simp only [htampered, hmissing, hmismatch, hexpected, hnone]
  split_ifs <;> rfl

theorem damageScore_eq (peaks : List (Zone × Option Nat)) : damageScore peaks = scoreByTable peaks := by
  unfold damageScore scoreByTable
  congr 3
  funext p
  unfold zoneScore
  cases p.2 with
  | none => rfl
  | some k =>
    show (k - p.1.tolerance) * p.1.weight = (if p.1.tolerance < k then k - p.1.tolerance else 0) * p.1.weight
    split
    · rfl
    · rw [Nat.sub_eq_zero_of_le (by omega)]

theorem bandOf_byTable (g : General) (peaks : List (Zone × Option Nat)) :
    bandByTable g peaks (unsurveyedCount peaks) (damageScore peaks) (bandOf g peaks) := by
  have hhard : peaks.any (fun p => match p.2 with | some k => decide (g.hardLimit ≤ k) | none => false) = true ↔
      ∃ p ∈ peaks, ∃ k, p.2 = some k ∧ g.hardLimit ≤ k := by
    rw [List.any_eq_true]
    refine exists_congr fun p => and_congr_right fun _ => ?_
    cases p.2 <;> simp
  have hband : bandOf g peaks =
      if peaks.any (fun p => match p.2 with | some k => decide (g.hardLimit ≤ k) | none => false) then .major
      else if 4 ≤ unsurveyedCount peaks then .unknown
      else if g.bandMajor ≤ damageScore peaks then .major
      else if g.bandMinor ≤ damageScore peaks then .minor
      else .clean := rfl
  unfold bandByTable
  rw [hband]
  simp only [hhard]
  split_ifs <;> rfl

/-- The reasons of the three checks of a container are those of R75, R108 and R129. -/
theorem mem_checkReasons_iff {m : Move} {c d : ContainerSlot} {set : List SealEntry} {b : Band} {r : Reason}
    (hstatus : d.status = c.status) (hcode : d.code = c.code) :
    r ∈ codeReason m.code d ++ closureReason m.seals set ++ bandReason b ↔
      checkGives m c set (closureOf m.seals set) b r := by
  have hcodes : r ∈ codeReason m.code d ↔ (r = .codeUnread ∧ (c.status = .none ∨ c.status = .checkFail)) ∨
      (r = .codeMismatch ∧ (c.status = .conflict ∨ (c.status = .valid ∧ c.code ≠ m.code))) := by
    unfold codeReason
    rw [hstatus, hcode]
    cases c.status <;> by_cases h : c.code = m.code <;> simp [h]
  have hsurplus : hasSurplus m.seals set = true ↔ ∃ e ∈ set, e.text ∉ m.seals := by simp [hasSurplus]
  have hclosures : r ∈ closureReason m.seals set ↔
      (r = .sealTampered ∧ closureOf m.seals set = .tampered) ∨ (r = .sealMissing ∧ closureOf m.seals set = .missing) ∨
      (r = .sealMismatch ∧ closureOf m.seals set = .mismatch) ∨
      (r = .sealExtra ∧ closureOf m.seals set = .fits ∧ ∃ e ∈ set, e.text ∉ m.seals) ∨
      (r = .sealUnexpected ∧ closureOf m.seals set = .unexpected) := by
    unfold closureReason
    rw [← hsurplus]
    cases closureOf m.seals set <;> cases hasSurplus m.seals set <;> simp
  have hbands : r ∈ bandReason b ↔ (r = .damageMajor ∧ b = .major) ∨ (r = .surveyUnknown ∧ b = .unknown) ∨
      (r = .damageMinor ∧ b = .minor) := by
    cases b <;> simp [bandReason]
  rw [List.mem_append, List.mem_append, hcodes, hclosures, hbands]
  cases r <;> simp [checkGives]

/-! ### The containers checked (R27, R75, R104, R123) -/

section
variable {g : General} {zs : List Zone} {profiles : List (List Nat)} {p : Position} {v w : Visit}

/-- The slot of a position once its container is checked. -/
def Visit.slotChecked (g : General) (zs : List Zone) (profiles : List (List Nat)) (p : Position) (v : Visit) :
    ContainerSlot :=
  match v.dropOf p with
  | none => { v.slot p with closure := some .notChecked }
  | some m =>
    let peaks := zonePeaks zs profiles[m.profile]? (v.surveyData p)
    { v.slot p with closure := some (closureOf m.seals (v.readSet p)), score := damageScore peaks
                    unsurveyed := unsurveyedCount peaks, band := some (bandOf g peaks) }

/-- The reasons that the check of a position's container gives. -/
def Visit.slotGives (g : General) (zs : List Zone) (profiles : List (List Nat)) (p : Position) (v : Visit) :
    List Reason :=
  match v.dropOf p with
  | none => []
  | some m => codeReason m.code (v.slot p) ++ closureReason m.seals (v.readSet p)
      ++ bandReason (bandOf g (zonePeaks zs profiles[m.profile]? (v.surveyData p)))

theorem Visit.checkSlot_eq : v.checkSlot g zs profiles p =
    (v.updSlot p fun _ => v.slotChecked g zs profiles p).addReasons (v.slotGives g zs profiles p) := by
  unfold Visit.checkSlot Visit.slotChecked Visit.slotGives
  cases v.dropOf p with
  | none => cases p <;> rfl
  | some m => cases p <;> rfl

theorem Visit.slotChecked_keeps : (v.slotChecked g zs profiles p).seals = (v.slot p).seals ∧
    (v.slotChecked g zs profiles p).pass = (v.slot p).pass := by
  unfold Visit.slotChecked
  cases v.dropOf p with
  | none => exact ⟨rfl, rfl⟩
  | some m => exact ⟨rfl, rfl⟩

/-- The check of REAR reads of FRONT only its seals and its pass. -/
theorem Visit.slotChecked_rear (hmoves : w.moves = v.moves) (hinbound : w.inbound = v.inbound) (hrear : w.rear = v.rear)
    (hseals : w.front.seals = v.front.seals) (hpass : w.front.pass = v.front.pass) :
    w.slotChecked g zs profiles .rear = v.slotChecked g zs profiles .rear ∧
      w.slotGives g zs profiles .rear = v.slotGives g zs profiles .rear := by
  have hslot : w.slot .rear = v.slot .rear := hrear
  have hdrop : w.dropOf .rear = v.dropOf .rear := by
    unfold Visit.dropOf Visit.drops
    rw [hmoves, hinbound]
  have hset : w.readSet .rear = v.readSet .rear := by
    unfold Visit.readSet
    rw [hinbound, hrear, hseals, hslot]
  have hdata : w.surveyData .rear = v.surveyData .rear := by
    unfold Visit.surveyData
    rw [hinbound, hrear, hpass, hslot]
  unfold Visit.slotChecked Visit.slotGives
  rw [hdrop, hset, hdata, hslot]
  exact ⟨rfl, rfl⟩

theorem Visit.checkSlots_eq : (v.checkSlot g zs profiles .front).checkSlot g zs profiles .rear =
    ({ v with front := v.slotChecked g zs profiles .front
              rear := v.slotChecked g zs profiles .rear } : Visit).addReasons
      (v.slotGives g zs profiles .front ++ v.slotGives g zs profiles .rear) := by
  obtain ⟨hseals, hpass⟩ := Visit.slotChecked_keeps (g := g) (zs := zs) (profiles := profiles) (p := .front) (v := v)
  obtain ⟨hchecked, hgives⟩ := Visit.slotChecked_rear (g := g) (zs := zs) (profiles := profiles)
    (w := v.checkSlot g zs profiles .front) (v := v)
    (by rw [Visit.checkSlot_eq, Visit.addReasons_eq]; rfl) (by rw [Visit.checkSlot_eq, Visit.addReasons_eq]; rfl)
    (by rw [Visit.checkSlot_eq, Visit.addReasons_eq]; rfl) (by rw [Visit.checkSlot_eq, Visit.addReasons_eq]; exact hseals)
    (by rw [Visit.checkSlot_eq, Visit.addReasons_eq]; exact hpass)
  rw [Visit.checkSlot_eq (p := .rear), hchecked, hgives, Visit.checkSlot_eq (p := .front), Visit.addReasons_updSlot,
    Visit.addReasons_append]
  rfl

end

end Sys2Proof.Machine
end

section
/-! Rules about the record that portal close finishes, the pass it ends, and the booking it selects (R27, R71 to R74, R116). -/

namespace Sys2Proof.Machine

section
variable {g : General} {zs : List Zone} {profiles : List (List Nat)} {booked : Option Window} {stamp : GatePoint}
  {p : Position} {v w x : Visit} {r : Reason}

/-! ### The record before its checks -/

/-- The arrival class of a visit with a booked window, or with none (R17, R74). -/
def arrivalOf (g : General) (booked : Option Window) (stamp : GatePoint) : ArrivalClass :=
  match booked with
  | some w => arrivalClass g w stamp
  | none => .none

/-- The record of a visit at portal close before its containers are checked (R27, steps 3 and 4). -/
def Visit.prepared (g : General) (booked : Option Window) (stamp : GatePoint) (v : Visit) : Visit :=
  ({ ({ v with inbound := inboundCount v } : Visit).mergeRear with arrival := arrivalOf g booked stamp } : Visit).addReasons
    (arrivalReason (arrivalOf g booked stamp))

theorem Visit.finishPortal_eq : v.finishPortal g zs profiles booked stamp =
    (((v.prepared g booked stamp).checkSlot g zs profiles .front).checkSlot g zs profiles .rear).discardPasses := by
  cases booked <;> rfl

theorem mergeCodes_keeps (front rear : ContainerSlot) :
    (mergeCodes front rear).seals = front.seals ∧ (mergeCodes front rear).pass = front.pass := by
  unfold mergeCodes
  split
  case h_4 => split <;> exact ⟨rfl, rfl⟩
  all_goals exact ⟨rfl, rfl⟩

theorem Visit.mergeRear_keeps (v : Visit) : v.mergeRear.ref = v.ref ∧ v.mergeRear.moves = v.moves ∧
    v.mergeRear.claimHeld = v.claimHeld ∧ v.mergeRear.inbound = v.inbound ∧ v.mergeRear.active = v.active ∧
    v.mergeRear.overridden = v.overridden ∧
    ∀ p, (v.mergeRear.slot p).seals = (v.slot p).seals ∧ (v.mergeRear.slot p).pass = (v.slot p).pass := by
  unfold Visit.mergeRear
  split
  · refine ⟨rfl, rfl, rfl, rfl, rfl, rfl, fun p => ?_⟩
    cases p with
    | front => exact mergeCodes_keeps v.front v.rear
    | rear => exact ⟨rfl, rfl⟩
  · exact ⟨rfl, rfl, rfl, rfl, rfl, rfl, fun _ => ⟨rfl, rfl⟩⟩

theorem Visit.prepared_eq : v.prepared g booked stamp =
    { ({ v with inbound := inboundCount v } : Visit).mergeRear with
      arrival := arrivalOf g booked stamp, active := (v.prepared g booked stamp).active } :=
  Visit.addReasons_eq _ _

theorem Visit.prepared_keeps : (v.prepared g booked stamp).ref = v.ref ∧ (v.prepared g booked stamp).moves = v.moves ∧
    (v.prepared g booked stamp).claimHeld = v.claimHeld ∧ (v.prepared g booked stamp).inbound = inboundCount v ∧
    (v.prepared g booked stamp).arrival = arrivalOf g booked stamp ∧
    ∀ p, ((v.prepared g booked stamp).slot p).seals = (v.slot p).seals ∧
      ((v.prepared g booked stamp).slot p).pass = (v.slot p).pass := by
  obtain ⟨href, hmoves, hclaim, hinbound, -, -, hslots⟩ := ({ v with inbound := inboundCount v } : Visit).mergeRear_keeps
  rw [Visit.prepared_eq]
  refine ⟨href, hmoves, hclaim, hinbound, rfl, fun p => ?_⟩
  cases p with
  | front => exact hslots .front
  | rear => exact hslots .rear

theorem Visit.prepared_given : (v.prepared g booked stamp).given r ↔
    v.given r ∨ r ∈ arrivalReason (arrivalOf g booked stamp) := by
  obtain ⟨-, -, -, -, hactive, hoverridden, -⟩ := ({ v with inbound := inboundCount v } : Visit).mergeRear_keeps
  refine Visit.given_addReasons.trans (or_congr_left ?_)
  unfold Visit.given
  show r ∈ ({ v with inbound := inboundCount v } : Visit).mergeRear.active ∨
    r ∈ ({ v with inbound := inboundCount v } : Visit).mergeRear.overridden ↔ _
  rw [hactive, hoverridden]

/-- With one inbound container FRONT has the merged code, else each position keeps its own (R56). -/
theorem Visit.prepared_codes :
    (inboundCount v = 1 → ((v.prepared g booked stamp).slot .front).status = (mergeCodes v.front v.rear).status ∧
      ((v.prepared g booked stamp).slot .front).code = (mergeCodes v.front v.rear).code) ∧
    (inboundCount v ≠ 1 → ∀ p, (v.prepared g booked stamp).slot p = v.slot p) := by
  rw [Visit.prepared_eq]
  refine ⟨fun hone => ?_, fun hno p => ?_⟩
  · rw [show ({ v with inbound := inboundCount v } : Visit).mergeRear = _ from if_pos hone]
    exact ⟨rfl, rfl⟩
  · rw [show ({ v with inbound := inboundCount v } : Visit).mergeRear = _ from if_neg hno]
    cases p <;> rfl

/-! ### The record finished -/

theorem Visit.discardPasses_keeps (v : Visit) : v.discardPasses.ref = v.ref ∧ v.discardPasses.moves = v.moves ∧
    v.discardPasses.claimHeld = v.claimHeld ∧ v.discardPasses.inbound = v.inbound ∧
    v.discardPasses.arrival = v.arrival ∧ (∀ r, v.discardPasses.given r ↔ v.given r) ∧
    ∀ p, (v.discardPasses.slot p).closure = (v.slot p).closure ∧ (v.discardPasses.slot p).band = (v.slot p).band ∧
      (v.discardPasses.slot p).score = (v.slot p).score ∧ (v.discardPasses.slot p).unsurveyed = (v.slot p).unsurveyed := by
  unfold Visit.discardPasses
  split
  · refine ⟨rfl, rfl, rfl, rfl, rfl, fun _ => Iff.rfl, fun p => ?_⟩
    cases p <;> exact ⟨rfl, rfl, rfl, rfl⟩
  · exact ⟨rfl, rfl, rfl, rfl, rfl, fun _ => Iff.rfl, fun _ => ⟨rfl, rfl, rfl, rfl⟩⟩

/-- The record that portal close leaves, by the record before its checks. -/
theorem Visit.finishPortal_spec (hw : w = v.finishPortal g zs profiles booked stamp)
    (hx : x = v.prepared g booked stamp) :
    w.ref = v.ref ∧ w.moves = v.moves ∧ w.claimHeld = v.claimHeld ∧ w.inbound = inboundCount v ∧
      w.arrival = arrivalOf g booked stamp ∧ (inboundCount v = 0 → w.front.pass = none ∧ w.rear.pass = none) ∧
      (∀ p, (w.slot p).closure = (x.slotChecked g zs profiles p).closure ∧
        (w.slot p).band = (x.slotChecked g zs profiles p).band ∧
        (w.slot p).score = (x.slotChecked g zs profiles p).score ∧
        (w.slot p).unsurveyed = (x.slotChecked g zs profiles p).unsurveyed) ∧
      ∀ r, w.given r ↔ v.given r ∨ r ∈ arrivalReason (arrivalOf g booked stamp) ∨
        ∃ p, r ∈ x.slotGives g zs profiles p := by
  obtain ⟨href, hmoves, hclaim, hinbound, harrival, -⟩ :=
    Visit.prepared_keeps (g := g) (booked := booked) (stamp := stamp) (v := v)
  have hgiven (r : Reason) := Visit.prepared_given (g := g) (booked := booked) (stamp := stamp) (v := v) (r := r)
  rw [← hx] at href hmoves hclaim hinbound harrival hgiven
  rw [Visit.finishPortal_eq, ← hx, Visit.checkSlots_eq] at hw
  generalize hy : ({ x with front := x.slotChecked g zs profiles .front
                            rear := x.slotChecked g zs profiles .rear } : Visit) = y at hw
  obtain ⟨href', hmoves', hclaim', hinbound', harrival', hgiven', hslots⟩ :=
    (y.addReasons (x.slotGives g zs profiles .front ++ x.slotGives g zs profiles .rear)).discardPasses_keeps
  rw [← hw] at href' hmoves' hclaim' hinbound' harrival' hgiven' hslots
  have hadded := Visit.addReasons_eq (x.slotGives g zs profiles .front ++ x.slotGives g zs profiles .rear) y
  subst hy
  refine ⟨?_, ?_, ?_, ?_, ?_, fun hzero => ?_, fun p => ?_, fun r => ?_⟩
  · rw [href', hadded]
    exact href
  · rw [hmoves', hadded]
    exact hmoves
  · rw [hclaim', hadded]
    exact hclaim
  · rw [hinbound', hadded]
    exact hinbound
  · rw [harrival', hadded]
    exact harrival
  · rw [hw]
    unfold Visit.discardPasses
    rw [if_pos (by rw [hadded]; exact hinbound.trans hzero)]
    exact ⟨rfl, rfl⟩
  · rw [hadded] at hslots
    cases p with
    | front => exact hslots .front
    | rear => exact hslots .rear
  · have hchecked : ({ x with front := x.slotChecked g zs profiles .front
                              rear := x.slotChecked g zs profiles .rear } : Visit).given r ↔ x.given r := Iff.rfl
    rw [hgiven', Visit.given_addReasons, hchecked, hgiven, or_assoc, List.mem_append]
    refine or_congr_right (or_congr_right ⟨?_, ?_⟩)
    · rintro (h | h)
      · exact ⟨.front, h⟩
      · exact ⟨.rear, h⟩
    · rintro ⟨p, h⟩
      cases p with
      | front => exact .inl h
      | rear => exact .inr h

/-! ### The checks beside the tables -/

theorem Visit.slotChecked_none (h : x.dropOf p = none) :
    (x.slotChecked g zs profiles p).closure = some .notChecked ∧ x.slotGives g zs profiles p = [] := by
  unfold Visit.slotChecked Visit.slotGives
  rw [h]
  exact ⟨rfl, rfl⟩

/-- An inbound container is checked as R107, R127 and R128 say. -/
theorem Visit.slotChecked_byTable {m : Move} {peaks : List (Zone × Option Nat)} (h : x.dropOf p = some m)
    (hpeaks : peaks = zonePeaks zs profiles[m.profile]? (x.surveyData p)) :
    (x.slotChecked g zs profiles p).closure = some (closureOf m.seals (x.readSet p)) ∧
      (x.slotChecked g zs profiles p).band = some (bandOf g peaks) ∧
      (x.slotChecked g zs profiles p).score = scoreByTable peaks ∧
      (x.slotChecked g zs profiles p).unsurveyed = unsurveyedCount peaks := by
  subst hpeaks
  rw [← damageScore_eq]
  unfold Visit.slotChecked
  rw [h]
  exact ⟨rfl, rfl, rfl, rfl⟩

/-- The reasons that the check of a position gives are those of R75, R108 and R129. -/
theorem Visit.mem_slotGives_iff {c : ContainerSlot}
    (hc : ∀ m, x.dropOf p = some m → (x.slot p).status = c.status ∧ (x.slot p).code = c.code) :
    r ∈ x.slotGives g zs profiles p ↔ ∃ m o b, x.dropOf p = some m ∧
      (x.slotChecked g zs profiles p).closure = some o ∧ (x.slotChecked g zs profiles p).band = some b ∧
      checkGives m c (x.readSet p) o b r := by
  cases hdrop : x.dropOf p with
  | none =>
    rw [(Visit.slotChecked_none hdrop).2]
    simp
  | some m =>
    obtain ⟨hstatus, hcode⟩ := hc m hdrop
    obtain ⟨hclosure, hband, -⟩ := Visit.slotChecked_byTable (g := g) hdrop rfl
    have hgives : x.slotGives g zs profiles p = codeReason m.code (x.slot p) ++ closureReason m.seals (x.readSet p)
        ++ bandReason (bandOf g (zonePeaks zs profiles[m.profile]? (x.surveyData p))) := by
      unfold Visit.slotGives
      rw [hdrop]
    rw [hgives, mem_checkReasons_iff hstatus hcode, hclosure, hband]
    simp

end

/-! ### Selection by two records alike (R71, R72, R74) -/

section
variable {v w : Visit}

/-- Two records that the Booking Store cannot tell apart: alike in their codes, their plate and its confidence. -/
def Visit.selectsLike (w v : Visit) : Prop :=
  (∀ p, (w.slot p).status = (v.slot p).status ∧ (w.slot p).code = (v.slot p).code) ∧ w.plate = v.plate ∧
    w.confidence = v.confidence

theorem Visit.selectsLike.hasCodeOf_iff (h : w.selectsLike v) (b : Booking) : b.hasCodeOf w ↔ b.hasCodeOf v := by
  obtain ⟨hslots, -, -⟩ := h
  obtain ⟨hfstatus, hfcode⟩ := hslots .front
  obtain ⟨hrstatus, hrcode⟩ := hslots .rear
  replace hfstatus : w.front.status = v.front.status := hfstatus
  replace hfcode : w.front.code = v.front.code := hfcode
  replace hrstatus : w.rear.status = v.rear.status := hrstatus
  replace hrcode : w.rear.code = v.rear.code := hrcode
  unfold Booking.hasCodeOf
  simp only [or_and_right, exists_or, exists_eq_left, hfstatus, hfcode, hrstatus, hrcode]

theorem Visit.selectsLike.isMatchFor_iff (h : w.selectsLike v) (threshold : Nat) (b : Booking) :
    b.isMatchFor threshold w ↔ b.isMatchFor threshold v := by
  obtain ⟨-, hplate, hconfidence⟩ := id h
  unfold Booking.isMatchFor
  rw [h.hasCodeOf_iff, hplate, hconfidence]

theorem Visit.selectsLike.selectedByTable_iff (h : w.selectsLike v) (threshold : Nat) (wc : Window)
    (table : List (Option Booking)) (b : Booking) :
    selectedByTable threshold w wc table b ↔ selectedByTable threshold v wc table b := by
  unfold selectedByTable ranksBefore
  simp only [h.hasCodeOf_iff, h.isMatchFor_iff]

theorem Visit.selectsLike.missByTable_iff (h : w.selectsLike v) (threshold : Nat) (table : List (Option Booking))
    (r : Reason) : missByTable threshold w table r ↔ missByTable threshold v table r := by
  cases r <;> simp only [missByTable, h.isMatchFor_iff]

end

/-! ### A pass ended at portal close (R116, R121) -/

section
variable {s : State} {n : VisitNumber} {v w : Visit} {p : Pass} {b : Booking}

/-- The record of a visit whose open pass portal close has ended. -/
def Visit.truncated (p : Pass) (v : Visit) : Visit :=
  (v.updSlot p.target (fun c => { c with pass := some p.data })).addReason .passTruncated

theorem Visit.truncated_keeps (p : Pass) (v : Visit) : (v.truncated p).moves = v.moves ∧
    (v.truncated p).claimHeld = v.claimHeld ∧ (v.truncated p).selectsLike v ∧
    ∀ q, ((v.truncated p).slot q).seals = (v.slot q).seals := by
  unfold Visit.truncated Visit.selectsLike
  rw [Visit.addReason_eq]
  cases p.target with
  | front => exact ⟨rfl, rfl, ⟨fun q => by cases q <;> exact ⟨rfl, rfl⟩, rfl, rfl⟩, fun q => by cases q <;> rfl⟩
  | rear => exact ⟨rfl, rfl, ⟨fun q => by cases q <;> exact ⟨rfl, rfl⟩, rfl, rfl⟩, fun q => by cases q <;> rfl⟩

theorem State.truncatePass_other (h : ∀ p ∈ s.survey.pass, p.visit ≠ n) : s.truncatePass n = s := by
  unfold State.truncatePass
  cases hp : s.survey.pass with
  | none => rfl
  | some p => exact if_neg (h p hp)

theorem State.settleDark_survey (d : PassSummary) (s : State) :
    (s.settleDark d).visits = s.visits ∧
      (s.settleDark d).survey = { s.survey with darkRuns := darkRunsAfter s.zones d s.survey.darkRuns } := by
  unfold State.settleDark
  dsimp only
  split
  · simp
  · split <;> simp

theorem State.truncatePass_ends (hp : s.survey.pass = some p) (hn : p.visit = n) (hv : s.visit? n = some v) :
    (s.truncatePass n).visit? n = some (v.truncated p) ∧
      (s.truncatePass n).survey = { s.survey with
        pass := none, darkRuns := darkRunsAfter s.zones p.data s.survey.darkRuns } := by
  subst hn
  have heq : s.truncatePass p.visit = (((s.setPass none).updVisit p.visit
      (Visit.updSlot p.target fun c => { c with pass := some p.data })).settleDark p.data).updVisit p.visit
        (Visit.addReason .passTruncated) := by
    unfold State.truncatePass State.endPass
    rw [hp]
    exact if_pos rfl
  obtain ⟨hvisits, hsurvey⟩ := ((s.setPass none).updVisit p.visit
    (Visit.updSlot p.target fun c => { c with pass := some p.data })).settleDark_survey p.data
  rw [heq]
  refine ⟨?_, hsurvey⟩
  rw [State.visit?_updVisit_same (Visit.addReason_number _), State.visit?_of_visits hvisits,
    State.visit?_updVisit_same (Visit.updSlot_number _ _), State.visit?_of_visits (s := s) (t := s.setPass none) rfl, hv]
  rfl

/-! ### The booking selected (R71 to R74) -/

/-- The record of a visit once its plate is weighed (R71). -/
def Visit.plateWeighed (threshold : Nat) (v : Visit) : Visit :=
  if v.confidence < threshold then v.addReason .plateLowConf else v

theorem Visit.plateWeighed_eq (threshold : Nat) (v : Visit) :
    v.plateWeighed threshold = { v with active := (v.plateWeighed threshold).active } := by
  unfold Visit.plateWeighed
  split
  · exact Visit.addReason_eq _ _
  · rfl

theorem Visit.plateWeighed_given {threshold : Nat} {r : Reason} : (v.plateWeighed threshold).given r ↔
    v.given r ∨ (r = .plateLowConf ∧ v.confidence < threshold) := by
  unfold Visit.plateWeighed
  split
  next h => simp [Visit.given_addReason, h]
  next h => simp [h]

/-- The state once the visit's plate is weighed. -/
def State.plateWeighed (v : Visit) (s : State) : State :=
  if v.confidence < s.general.plateThreshold then s.updVisit v.number (Visit.addReason .plateLowConf) else s

theorem State.plateWeighed_visit (hv : s.visit? v.number = some v) :
    (s.plateWeighed v).visit? v.number = some (v.plateWeighed s.general.plateThreshold) := by
  unfold State.plateWeighed Visit.plateWeighed
  split
  · rw [State.visit?_updVisit_same (Visit.addReason_number _), hv]
    rfl
  · exact hv

theorem State.plateWeighed_leaves (v : Visit) (s : State) : (s.plateWeighed v).booking = s.booking ∧
    (s.plateWeighed v).bus = s.bus ∧ (s.plateWeighed v).survey = s.survey ∧ (s.plateWeighed v).clock = s.clock := by
  unfold State.plateWeighed
  split <;> exact ⟨rfl, rfl, rfl, rfl⟩

theorem State.selectFor_none
    (h : selectBooking s.general.plateThreshold v s.clock.window s.booking.table = none) :
    s.selectFor v = (none, (s.plateWeighed v).updVisit v.number
      (Visit.addReasons (missReasons s.general.plateThreshold v s.booking.table))) := by
  unfold State.selectFor
  dsimp only
  rw [h]
  rfl

theorem State.selectFor_some
    (h : selectBooking s.general.plateThreshold v s.clock.window s.booking.table = some b) :
    s.selectFor v = (some b.window, (s.plateWeighed v).takeClaim v.number b) := by
  unfold State.selectFor
  dsimp only
  rw [h]
  rfl

/-- The record of a visit that has a booking. -/
def Visit.booked (b : Booking) (v : Visit) : Visit := { v with ref := some b.ref, moves := b.moves, claimHeld := true }

theorem State.takeClaim_spec (hv : s.visit? n = some v) :
    (s.takeClaim n b).visit? n = some (v.booked b) ∧
      (s.takeClaim n b).booking.table =
        updRecord b.ref (fun r => some { r with state := .here s.point n }) s.booking.table ∧
      (s.outbox? .bookingStore = none → (s.takeClaim n b).holdsFrame (.claim b.ref s.point)) := by
  refine ⟨?_, ?_, fun houtbox => State.handClass0_holds houtbox⟩
  · rw [State.visit?_of_visits (t := s.takeClaim n b) (s := s.updVisit n (Visit.booked b))
      (by unfold State.takeClaim; rw [State.handClass0_frame _ _ _ |>.2.2.2.1]; rfl),
      State.visit?_updVisit_same (f := Visit.booked b) fun _ => rfl, hv]
    rfl
  · unfold State.takeClaim
    simp only [State.handClass0_frame]
    rfl

end

end Sys2Proof.Machine
end

section
/-! O27: LOOP_P vacated. -/

namespace Sys2Proof.Machine

section
variable {s s2 t : State} {n : VisitNumber} {v v1 v2 : Visit} {booked : Option Window}

/-! ### The portal stage closed (R25, R27) -/

theorem State.portalClose_eq (hv1 : (s.truncatePass n).visit? n = some v1)
    (hselect : (s.truncatePass n).selectFor v1 = (booked, s2)) :
    s.portalClose n = s2.updVisit n (Visit.finishPortal s.general s.zones s.profiles booked s.point) := by
  unfold State.portalClose
  dsimp only
  rw [hv1]
  dsimp only
  rw [hselect]

theorem State.loopPVacated_none (h : s.portal? = none) : s.loopPVacated = s := by
  unfold State.loopPVacated
  rw [h]

/-- The record of a visit whose portal stage has closed, from the record that selection left. -/
def Visit.portalClosed (s : State) (booked : Option Window) (v : Visit) : Visit :=
  { v.finishPortal s.general s.zones s.profiles booked s.point with state := .toStop }

theorem State.loopPVacated_closed (hportal : s.portal? = some v)
    (hv1 : (s.truncatePass v.number).visit? v.number = some v1)
    (hselect : (s.truncatePass v.number).selectFor v1 = (booked, s2)) (hv2 : s2.visit? v.number = some v2)
    (ht : t = s.loopPVacated) :
    t = { s with visits := t.visits, booking := t.booking, outcome := t.outcome, bus := t.bus, survey := t.survey } ∧
      t.visit? v.number = some (v2.portalClosed s booked) ∧ t.booking = s2.booking ∧ t.bus = s2.bus ∧
      t.survey = (s.truncatePass v.number).survey := by
  have hclosed : s.loopPVacated = (s.portalClose v.number).setVisitState v.number .toStop := by
    unfold State.loopPVacated
    rw [hportal]
  have hsurvey : s2.survey = (s.truncatePass v.number).survey := by
    have hkept : ((s.truncatePass v.number).selectFor v1).2.survey = (s.truncatePass v.number).survey := by simp
    rwa [hselect] at hkept
  have heq := State.portalClose_eq hv1 hselect
  subst ht
  rw [hclosed]
  refine ⟨State.eq_of_blocks (by simp [State.setVisitState]), ?_, ?_, ?_, ?_⟩
  · unfold State.setVisitState
    rw [State.visit?_updVisit_same (f := fun v => { v with state := .toStop }) fun _ => rfl, heq,
      State.visit?_updVisit_same fun v => v.finishPortal_number _ _ _ _ _, hv2]
    rfl
  · rw [heq]
    rfl
  · rw [heq]
    rfl
  · rw [heq]
    exact hsurvey

/-- The record `v1` that is closed: the visit's, or the one that its pass has ended in. -/
theorem State.truncatePass_visit (hv : s.visit? n = some v)
    (hpass : (∀ p ∈ s.survey.pass, p.visit ≠ n) ∧ v1 = v ∨ ∃ p ∈ s.survey.pass, p.visit = n ∧ v1 = v.truncated p) :
    (s.truncatePass n).visit? n = some v1 ∧ v1.moves = v.moves ∧ v1.claimHeld = v.claimHeld ∧ v1.selectsLike v ∧
      ∀ q, (v1.slot q).seals = (v.slot q).seals := by
  rcases hpass with ⟨hother, rfl⟩ | ⟨p, hp, hn, rfl⟩
  · rw [State.truncatePass_other hother]
    exact ⟨hv, rfl, rfl, ⟨fun _ => ⟨rfl, rfl⟩, rfl, rfl⟩, fun _ => rfl⟩
  · exact ⟨(State.truncatePass_ends hp hn hv).1, v.truncated_keeps p⟩

/-- With no record selected no record changes, and the visit has the reasons of R74. -/
theorem State.selectFor_unselected (hn : v.number = n) (hv : s.visit? n = some v)
    (hnone : ∀ b, some b ∈ s.booking.table → b.state = .available → ¬ b.isMatchFor s.general.plateThreshold v) :
    ∃ s2 v2, s.selectFor v = (none, s2) ∧ s2.visit? n = some v2 ∧ v2.moves = v.moves ∧ v2.claimHeld = v.claimHeld ∧
      (∀ r, v2.given r ↔ v.given r ∨ (r = .plateLowConf ∧ v.confidence < s.general.plateThreshold) ∨
        missByTable s.general.plateThreshold v s.booking.table r) ∧ s2.booking = s.booking ∧ s2.bus = s.bus := by
  subst hn
  obtain ⟨hbooking, hbus, -, -⟩ := s.plateWeighed_leaves v
  refine ⟨_, (v.plateWeighed s.general.plateThreshold).addReasons (missReasons s.general.plateThreshold v s.booking.table),
    State.selectFor_none ((selectBooking_eq_none_iff _ _ _ _).mpr hnone), ?_, ?_, ?_, fun r => ?_, hbooking, hbus⟩
  · rw [State.visit?_updVisit_same (Visit.addReasons_number _), State.plateWeighed_visit hv]
    rfl
  · rw [Visit.addReasons_eq, Visit.plateWeighed_eq]
  · rw [Visit.addReasons_eq, Visit.plateWeighed_eq]
  · rw [Visit.given_addReasons, Visit.plateWeighed_given, or_assoc, mem_missReasons_iff _ _ _ hnone]

/-- The record selected is HERE, the visit has its claim, and the CLAIM finds a place (R73). -/
theorem State.selectFor_selected {b : Booking} (hn : v.number = n) (hv : s.visit? n = some v)
    (hb : selectedByTable s.general.plateThreshold v s.clock.window s.booking.table b) :
    ∃ s2 v2, s.selectFor v = (some b.window, s2) ∧ s2.visit? n = some v2 ∧ v2.ref = some b.ref ∧ v2.moves = b.moves ∧
      v2.claimHeld = true ∧ (∀ p, v2.slot p = v.slot p) ∧
      (∀ r, v2.given r ↔ v.given r ∨ (r = .plateLowConf ∧ v.confidence < s.general.plateThreshold)) ∧
      s2.booking.table = updRecord b.ref (fun r => some { r with state := .here s.point n }) s.booking.table ∧
      (s.outbox? .bookingStore = none → s2.holdsFrame (.claim b.ref s.point)) := by
  subst hn
  obtain ⟨hbooking, hbus, -, hclock⟩ := s.plateWeighed_leaves v
  obtain ⟨hvisit, htable, hframe⟩ := State.takeClaim_spec (b := b) (State.plateWeighed_visit hv)
  have hpoint : (s.plateWeighed v).point = s.point := by
    unfold State.point
    rw [hclock]
  have houtbox : (s.plateWeighed v).outbox? .bookingStore = s.outbox? .bookingStore := by
    unfold State.outbox?
    rw [hbus]
  rw [hpoint, hbooking] at htable
  rw [hpoint, houtbox] at hframe
  refine ⟨_, _, State.selectFor_some ((selectBooking_eq_some_iff _ _ _ _ _).mpr hb), hvisit, rfl, rfl, rfl, fun p => ?_,
    fun r => (Visit.plateWeighed_given (v := v)), htable, hframe⟩
  rw [Visit.plateWeighed_eq]
  cases p <;> rfl

/-! ### The containers (R27, R56, R104, R124) -/

theorem Visit.dropOf_eq (h : v.inbound = min 2 v.drops.length) :
    v.dropOf .front = v.drops[0]? ∧ v.dropOf .rear = v.drops[1]? := by
  unfold Visit.dropOf
  dsimp only
  rw [h]
  refine ⟨?_, ?_⟩
  · split
    · rfl
    · rw [List.getElem?_eq_none (by omega)]
  · split
    · rfl
    · rw [List.getElem?_eq_none (by omega)]

/-- What the closed record shows of its containers, by the record before the checks. -/
theorem Visit.containers_byTable {g : General} {zs : List Zone} {profiles : List (List Nat)} {w x : Visit}
    {drop : Position → Option Move} {c : Position → ContainerSlot} {set : Position → List SealEntry}
    {peaks : Position → Move → List (Zone × Option Nat)}
    (hslots : ∀ p, (w.slot p).closure = (x.slotChecked g zs profiles p).closure ∧
      (w.slot p).band = (x.slotChecked g zs profiles p).band ∧
      (w.slot p).score = (x.slotChecked g zs profiles p).score ∧
      (w.slot p).unsurveyed = (x.slotChecked g zs profiles p).unsurveyed)
    (hdrop : ∀ p, drop p = x.dropOf p) (hset : ∀ p, set p = x.readSet p)
    (hpeaks : ∀ p (m : Move), peaks p m = zonePeaks zs profiles[m.profile]? (x.surveyData p))
    (hcodes : ∀ p m, drop p = some m → (x.slot p).status = (c p).status ∧ (x.slot p).code = (c p).code) :
    (∀ p m, drop p = some m → ∃ o bd, (w.slot p).closure = some o ∧ (w.slot p).band = some bd ∧
      closureByTable m.seals (set p) o ∧ (w.slot p).score = scoreByTable (peaks p m) ∧
      (w.slot p).unsurveyed = (peaks p m).countP (fun x => x.2.isNone) ∧
      bandByTable g (peaks p m) (w.slot p).unsurveyed (w.slot p).score bd) ∧
    (∀ p, drop p = none → (w.slot p).closure = some .notChecked) ∧
    ∀ r, (∃ p, r ∈ x.slotGives g zs profiles p) ↔ ∃ p m o bd, drop p = some m ∧ (w.slot p).closure = some o ∧
      (w.slot p).band = some bd ∧ checkGives m (c p) (set p) o bd r := by
  refine ⟨fun p m hm => ?_, fun p hnone => ?_, fun r => exists_congr fun p => ?_⟩
  · obtain ⟨hclosure, hband, hscore, hunsurveyed⟩ := hslots p
    obtain ⟨hclosure', hband', hscore', hunsurveyed'⟩ :=
      Visit.slotChecked_byTable (g := g) ((hdrop p).symm.trans hm) (hpeaks p m)
    rw [hscore, hunsurveyed, hscore', hunsurveyed', hset, ← damageScore_eq]
    exact ⟨_, _, hclosure.trans hclosure', hband.trans hband', closureOf_byTable _ _, rfl, rfl, bandOf_byTable _ _⟩
  · rw [(hslots p).1]
    exact (Visit.slotChecked_none ((hdrop p).symm.trans hnone)).1
  · obtain ⟨hclosure, hband, -⟩ := hslots p
    rw [Visit.mem_slotGives_iff (c := c p) fun m hm => hcodes p m ((hdrop p).trans hm), hclosure, hband, hdrop, hset]

theorem Visit.portalClosed_slot (p : Position) :
    ((v.portalClosed s booked).slot p) = (v.finishPortal s.general s.zones s.profiles booked s.point).slot p := by
  cases p <;> rfl

/-- With no drop move no container is checked, and the passes are discarded (R123). -/
theorem Visit.portalClosed_of_no_moves {w : Visit} (hmoves : v.moves = []) (hw : w = v.portalClosed s none) :
    w.inbound = 0 ∧ w.front.closure = some .notChecked ∧ w.rear.closure = some .notChecked ∧ w.front.pass = none ∧
      w.rear.pass = none ∧ ∀ r, w.given r ↔ v.given r := by
  subst hw
  have hzero : inboundCount v = 0 := by
    unfold inboundCount Visit.drops
    rw [hmoves]
    rfl
  obtain ⟨-, -, -, hinbound, -, hpasses, hslots, hgiven⟩ := Visit.finishPortal_spec (g := s.general) (zs := s.zones)
    (profiles := s.profiles) (booked := none) (stamp := s.point) (v := v) rfl rfl
  obtain ⟨-, hxmoves, -, hxinbound, -⟩ :=
    Visit.prepared_keeps (g := s.general) (booked := none) (stamp := s.point) (v := v)
  generalize v.prepared s.general none s.point = x at *
  have hdrop (p : Position) : x.dropOf p = none := by
    obtain ⟨hfront, hrear⟩ := x.dropOf_eq (hxinbound.trans (by unfold inboundCount Visit.drops; rw [hxmoves]))
    unfold Visit.drops at hfront hrear
    rw [hxmoves, hmoves] at hfront hrear
    cases p with
    | front => exact hfront
    | rear => exact hrear
  refine ⟨hinbound.trans hzero, ?_, ?_, (hpasses hzero).1, (hpasses hzero).2, fun r => (hgiven r).trans ?_⟩
  · exact (hslots .front).1.trans (Visit.slotChecked_none (hdrop .front)).1
  · exact (hslots .rear).1.trans (Visit.slotChecked_none (hdrop .rear)).1
  · have hgives (p : Position) : x.slotGives s.general s.zones s.profiles p = [] := (Visit.slotChecked_none (hdrop p)).2
    simp [hgives, arrivalOf, arrivalReason]

/-- What the Booking Store and the record read of a lane stays when its pass ends. -/
theorem State.truncatePass_leaves (n : VisitNumber) (s : State) :
    (s.truncatePass n).booking = s.booking ∧ (s.truncatePass n).general = s.general ∧
      (s.truncatePass n).point = s.point ∧ (s.truncatePass n).clock = s.clock ∧
      ∀ o, (s.truncatePass n).outbox? o = s.outbox? o := by
  have hstart : (s.truncatePass n).start = s.start := by simp
  have hclock : (s.truncatePass n).clock = s.clock := by simp
  refine ⟨by simp, ?_, ?_, hclock, ((State.onlyReports.refl s).truncatePass).outbox?⟩
  · unfold State.general
    rw [hstart]
  · unfold State.point
    rw [hclock]

/-- The portal stage closes with no record selected (R74). -/
theorem State.loopPVacated_unselected (hportal : s.portal? = some v) (hv : s.visit? v.number = some v)
    (hpass : (∀ p ∈ s.survey.pass, p.visit ≠ v.number) ∧ v1 = v ∨
      ∃ p ∈ s.survey.pass, p.visit = v.number ∧ v1 = v.truncated p)
    (hnone : ∀ b, some b ∈ s.booking.table → b.state = .available → ¬ b.isMatchFor s.general.plateThreshold v)
    (ht : t = s.loopPVacated) :
    ∃ w, t = { s with
        visits := t.visits, booking := t.booking, outcome := t.outcome, bus := t.bus, survey := t.survey } ∧
      t.visit? v.number = some w ∧ w.state = .toStop ∧ t.survey = (s.truncatePass v.number).survey ∧
      t.booking = s.booking ∧ (s.survey.pass = none → t.bus = s.bus) ∧ w.claimHeld = v.claimHeld ∧ w.arrival = .none ∧
      (v.moves = [] → w.inbound = 0 ∧ w.front.closure = some .notChecked ∧ w.rear.closure = some .notChecked ∧
        w.front.pass = none ∧ w.rear.pass = none ∧
        ∀ r, w.given r ↔ v1.given r ∨ (r = .plateLowConf ∧ v.confidence < s.general.plateThreshold) ∨
          missByTable s.general.plateThreshold v s.booking.table r) := by
  obtain ⟨hv1, hmoves, hclaim, hlike, -⟩ := State.truncatePass_visit hv hpass
  obtain ⟨hbooking, hgeneral, -, -, -⟩ := s.truncatePass_leaves v.number
  have hnone1 : ∀ b, some b ∈ s.booking.table → b.state = .available → ¬ b.isMatchFor s.general.plateThreshold v1 :=
    fun b hb havailable => by
      rw [hlike.isMatchFor_iff]
      exact hnone b hb havailable
  obtain ⟨s2, v2, hselect, hs2, hmoves2, hclaim2, hgiven2, hs2booking, hs2bus⟩ :=
    State.selectFor_unselected (State.visit?_number hv1) hv1 (by rwa [hbooking, hgeneral])
  rw [hbooking, hgeneral, hlike.2.2] at hgiven2
  obtain ⟨heq, hw, htbooking, htbus, htsurvey⟩ := State.loopPVacated_closed hportal hv1 hselect hs2 ht
  obtain ⟨-, -, hclaim', -, harrival, -⟩ := Visit.finishPortal_spec (g := s.general) (zs := s.zones)
    (profiles := s.profiles) (booked := none) (stamp := s.point) (v := v2) rfl rfl
  refine ⟨_, heq, hw, rfl, htsurvey, htbooking.trans (hs2booking.trans hbooking), fun hno => ?_,
    hclaim'.trans (hclaim2.trans hclaim), harrival, fun hempty => ?_⟩
  · rw [htbus, hs2bus, State.truncatePass_other (by simp [hno])]
  · obtain ⟨hinbound, hfront, hrear, hfpass, hrpass, hgiven⟩ := Visit.portalClosed_of_no_moves (s := s)
      (hmoves2.trans (hmoves.trans hempty)) rfl
    refine ⟨hinbound, hfront, hrear, hfpass, hrpass, fun r => ?_⟩
    rw [hgiven, hgiven2, hlike.missByTable_iff]

/-- The record of a visit with a booking, once closed: its arrival class by R17, its containers by the record `x` before
the checks, and its reasons. -/
theorem Visit.portalClosed_booked {w x : Visit} {b : Booking} (hw : w = v.portalClosed s (some b.window))
    (hx : x = v.prepared s.general (some b.window) s.point) (hmoves : v.moves = b.moves) :
    w.ref = v.ref ∧ w.moves = b.moves ∧ w.claimHeld = v.claimHeld ∧ w.inbound = min 2 (b.moves.filter Move.isDrop).length ∧
      arrivalByTable s.general b.window s.point w.arrival ∧
      (∀ p, (w.slot p).closure = (x.slotChecked s.general s.zones s.profiles p).closure ∧
        (w.slot p).band = (x.slotChecked s.general s.zones s.profiles p).band ∧
        (w.slot p).score = (x.slotChecked s.general s.zones s.profiles p).score ∧
        (w.slot p).unsurveyed = (x.slotChecked s.general s.zones s.profiles p).unsurveyed) ∧
      ∀ r, w.given r ↔ v.given r ∨ (r = .tooEarly ∧ w.arrival = .tooEarly) ∨ (r = .tooLate ∧ w.arrival = .tooLate) ∨
        ∃ p, r ∈ x.slotGives s.general s.zones s.profiles p := by
  obtain ⟨href, hmoves', hclaim, hinbound, harrival, -, hslots, hgiven⟩ := Visit.finishPortal_spec (g := s.general)
    (zs := s.zones) (profiles := s.profiles) (booked := some b.window) (stamp := s.point) (v := v) rfl hx
  have harrival' : w.arrival = arrivalOf s.general (some b.window) s.point := by
    rw [hw]
    exact harrival
  subst hw
  refine ⟨href, hmoves'.trans hmoves, hclaim, hinbound.trans (by unfold inboundCount Visit.drops; rw [hmoves]), ?_,
    fun p => ?_, fun r => (hgiven r).trans ?_⟩
  · rw [harrival']
    exact arrivalClass_byTable _ _ _
  · rw [Visit.portalClosed_slot]
    exact hslots p
  · rw [mem_arrivalReason_iff, harrival', or_assoc]

/-- The record before its checks, as the obligation reads it: drop moves, codes, read sets and survey data (R27, R56,
R104, R124). -/
theorem Visit.prepared_reads {g : General} {stamp : GatePoint} {x : Visit} {one : Bool}
    (hx : x = v.prepared g booked stamp) (hone : one = (v.drops.length == 1)) :
    (x.dropOf .front = v.drops[0]? ∧ x.dropOf .rear = v.drops[1]?) ∧
      (∀ p, x.readSet p = if one then v.rear.seals.foldl (fun l e => addSeal e l) v.front.seals else (v.slot p).seals) ∧
      (∀ p, x.surveyData p = if one then ({ v with inbound := 1 } : Visit).surveyData p else (v.slot p).pass) ∧
      (one = true → (x.slot .front).status = (mergeCodes v.front v.rear).status ∧
        (x.slot .front).code = (mergeCodes v.front v.rear).code) ∧
      (one = false → ∀ p, x.slot p = v.slot p) := by
  obtain ⟨-, hmoves, -, hinbound, -, hslots⟩ := Visit.prepared_keeps (g := g) (booked := booked) (stamp := stamp) (v := v)
  obtain ⟨hmerged, hown⟩ := Visit.prepared_codes (g := g) (booked := booked) (stamp := stamp) (v := v)
  rw [← hx] at hmoves hinbound hslots hmerged hown
  have hdrops : x.drops = v.drops := by
    unfold Visit.drops
    rw [hmoves]
  have hinbound1 : inboundCount v = 1 ↔ one = true := by
    rw [hone, beq_iff_eq]
    unfold inboundCount
    omega
  have hfront : x.front.seals = v.front.seals ∧ x.front.pass = v.front.pass := hslots .front
  have hrear : x.rear.seals = v.rear.seals ∧ x.rear.pass = v.rear.pass := hslots .rear
  have hcount : x.inbound = 1 ↔ one = true := by rw [hinbound, hinbound1]
  refine ⟨?_, fun p => ?_, fun p => ?_, fun h => hmerged (hinbound1.mpr h), fun h => hown ?_⟩
  · rw [← hdrops]
    exact x.dropOf_eq (by rw [hinbound, hdrops]; rfl)
  · unfold Visit.readSet
    simp only [hcount, hfront.1, hrear.1, (hslots p).1]
  · unfold Visit.surveyData
    simp only [hcount, hfront.2, hrear.2, (hslots p).2, if_true]
  · rw [Ne, hinbound1, h]
    decide

/-- The survey data of a lone container come of the slots alone (R124). -/
theorem Visit.surveyData_lone {y : Visit} (hfront : y.front = v.front) (hrear : y.rear = v.rear) (p : Position) :
    ({ y with inbound := 1 } : Visit).surveyData p = ({ v with inbound := 1 } : Visit).surveyData p := by
  unfold Visit.surveyData
  dsimp only
  rw [hfront, hrear]
  rfl

theorem mergedByTable_congr {front rear front' rear' c : ContainerSlot}
    (hfront : front'.status = front.status ∧ front'.code = front.code)
    (hrear : rear'.status = rear.status ∧ rear'.code = rear.code) :
    mergedByTable front' rear' c ↔ mergedByTable front rear c := by
  unfold mergedByTable
  rw [hfront.1, hfront.2, hrear.1, hrear.2]

/-- The codes that the checks compare are those of R56, by a record `v` alike in its codes. -/
theorem Visit.prepared_codes_byTable {g : General} {stamp : GatePoint} {x y : Visit} {one : Bool}
    {c : Position → ContainerSlot} (hx : x = y.prepared g booked stamp) (hone : one = (y.drops.length == 1))
    (hlike : ∀ p, (y.slot p).status = (v.slot p).status ∧ (y.slot p).code = (v.slot p).code)
    (hc : if one then mergedByTable v.front v.rear (c .front) else ∀ p, c p = v.slot p) (p : Position) (m : Move)
    (hm : x.dropOf p = some m) : (x.slot p).status = (c p).status ∧ (x.slot p).code = (c p).code := by
  obtain ⟨⟨-, hrear⟩, -, -, hmerged, hown⟩ := Visit.prepared_reads hx hone
  cases hone1 : one with
  | false =>
    rw [hone1, if_neg (by decide)] at hc
    rw [hc p, hown hone1 p]
    exact hlike p
  | true =>
    cases p with
    | front =>
      rw [hone1, if_pos rfl] at hc
      have hc' : mergedByTable y.front y.rear (c .front) := (mergedByTable_congr (hlike .front) (hlike .rear)).mpr hc
      obtain ⟨hstatus, hcode⟩ := mergedByTable_eq _ _ _ hc'
      obtain ⟨hstatus', hcode'⟩ := hmerged hone1
      exact ⟨hstatus'.trans hstatus.symm, hcode'.trans hcode.symm⟩
    | rear =>
      have hlength : y.drops.length = 1 := by simpa [hone1] using hone.symm
      rw [hrear, List.getElem?_eq_none (by omega)] at hm
      cases hm

/-- The pass that ends with the portal stage, and the dark runs after it (R116, R121). -/
theorem State.truncatePass_survey (hv : s.visit? n = some v) (ht : t.survey = (s.truncatePass n).survey) :
    ((∀ p ∈ s.survey.pass, p.visit ≠ n) → t.survey = s.survey) ∧
      ∀ p ∈ s.survey.pass, p.visit = n → t.survey.pass = none ∧
        darkRunsByTable s.zones p.data s.survey.darkRuns t.survey.darkRuns := by
  rw [ht]
  refine ⟨fun hother => by rw [State.truncatePass_other hother], fun p hp hn => ?_⟩
  rw [(State.truncatePass_ends hp hn hv).2]
  exact ⟨rfl, darkRunsAfter_byTable _ _ _⟩

/-- The portal stage closes with the record `b` selected: the booking, the claim, and the record `x` that the checks
take, made of `y` (R71 to R73). -/
theorem State.loopPVacated_selected {b : Booking} (hportal : s.portal? = some v) (hv : s.visit? v.number = some v)
    (hpass : (∀ p ∈ s.survey.pass, p.visit ≠ v.number) ∧ v1 = v ∨
      ∃ p ∈ s.survey.pass, p.visit = v.number ∧ v1 = v.truncated p)
    (hb : selectedByTable s.general.plateThreshold v s.clock.window s.booking.table b) (ht : t = s.loopPVacated) :
    ∃ y : Visit, y.moves = b.moves ∧ y.ref = some b.ref ∧ y.claimHeld = true ∧ (∀ p, y.slot p = v1.slot p) ∧
      (∀ r, y.given r ↔ v1.given r ∨ (r = .plateLowConf ∧ v.confidence < s.general.plateThreshold)) ∧
      t = { s with
        visits := t.visits, booking := t.booking, outcome := t.outcome, bus := t.bus, survey := t.survey } ∧
      t.visit? v.number = some (y.portalClosed s (some b.window)) ∧ t.survey = (s.truncatePass v.number).survey ∧
      t.booking.table = updRecord b.ref (fun r => some { r with state := .here s.point v.number }) s.booking.table ∧
      (s.outbox? .bookingStore = none → t.holdsFrame (.claim b.ref s.point)) := by
  obtain ⟨hv1, -, -, hlike, -⟩ := State.truncatePass_visit hv hpass
  obtain ⟨hbooking, hgeneral, hpoint, hclock, houtbox⟩ := s.truncatePass_leaves v.number
  obtain ⟨s2, y, hselect, hy, href, hmoves, hclaim, hslots, hgiven, htable, hframe⟩ :=
    State.selectFor_selected (b := b) (State.visit?_number hv1) hv1
      (by rwa [hbooking, hgeneral, hclock, hlike.selectedByTable_iff])
  rw [hgeneral, hlike.2.2] at hgiven
  rw [hpoint, hbooking] at htable
  rw [hpoint, houtbox] at hframe
  obtain ⟨heq, hw, htbooking, htbus, htsurvey⟩ := State.loopPVacated_closed hportal hv1 hselect hy ht
  refine ⟨y, hmoves, href, hclaim, hslots, hgiven, heq, hw, htsurvey, ?_, fun hempty => ?_⟩
  · rw [htbooking, htable]
  · unfold State.holdsFrame
    rw [htbus]
    exact hframe hempty

end

/-- Settles O27: the pass ends, selection finds a record or none, and the closed record shows its containers by the record
before the checks. -/
theorem loopPVacatedClosesThePortal : Obligations.LoopPVacatedClosesThePortal := by
  intro s u h hu hmode
  subst hu
  have hexec : exec (.debounceExpiry .loopP) s = .next (s.debouncedTo .loopP false).loopPVacated :=
    (State.exec_debounceExpiry_edge h).trans (congrArg Host.Outcome.next (if_neg hmode))
  refine ⟨fun hnone => hexec.trans (congrArg Host.Outcome.next (State.loopPVacated_none hnone)),
    fun v v1 hportal hv hpass => ?_⟩
  by_cases hsome : ∃ b, selectedByTable s.general.plateThreshold v s.clock.window s.booking.table b
  · obtain ⟨b, hb⟩ := hsome
    obtain ⟨y, hmoves, href, hclaim, hslots, hgiven, heq, hw, hsurvey, htable, hframe⟩ := State.loopPVacated_selected
      (s := s.debouncedTo .loopP false) hportal hv hpass hb rfl
    obtain ⟨hother, hended⟩ := State.truncatePass_survey (s := s.debouncedTo .loopP false) hv hsurvey
    refine ⟨_, _, hexec, heq, hw, rfl, hother, hended, fun hnone => ?_, fun b' hb' => ?_⟩
    · obtain ⟨i, hi, havailable, hmatch, -⟩ := hb
      exact absurd hmatch (hnone b (List.mem_of_getElem? hi) havailable)
    · obtain ⟨-, -, -, hlike, hseals⟩ := State.truncatePass_visit (s := s.debouncedTo .loopP false) hv hpass
      have hselected := (selectBooking_eq_some_iff _ _ _ _ _).mpr hb
      obtain rfl := Option.some.inj (hselected.symm.trans ((selectBooking_eq_some_iff _ _ _ _ _).mpr hb'))
      obtain ⟨x, hx⟩ : ∃ x, x = y.prepared s.general (some b.window) s.point := ⟨_, rfl⟩
      obtain ⟨hwref, hwmoves, hwclaim, hinbound, harrival, hchecked, hreasons⟩ :=
        Visit.portalClosed_booked (s := s.debouncedTo .loopP false) rfl hx hmoves
      refine ⟨htable, hwref.trans href, hwmoves, hwclaim.trans hclaim, harrival, hframe, hinbound,
        fun one drop c set data peaks hone hdrop hc hset hdata hpeaks => ?_⟩
      replace hone : one = (y.drops.length == 1) := hone.trans (by unfold Visit.drops; rw [hmoves])
      obtain ⟨⟨hfirst, hsecond⟩, hread, hsurveyed, -, -⟩ := Visit.prepared_reads hx hone
      have hdrop' (p : Position) : drop p = x.dropOf p := by
        unfold Visit.drops at hfirst hsecond
        rw [hmoves] at hfirst hsecond
        cases p with
        | front => exact (hdrop .front).trans hfirst.symm
        | rear => exact (hdrop .rear).trans hsecond.symm
      have hset' (p : Position) : set p = x.readSet p := by
        have hfront : y.front.seals = v.front.seals := (congrArg (·.seals) (hslots .front)).trans (hseals .front)
        have hrear : y.rear.seals = v.rear.seals := (congrArg (·.seals) (hslots .rear)).trans (hseals .rear)
        rw [hset, hread, hfront, hrear, hslots, hseals]
      have hdata' (p : Position) : data p = x.surveyData p := by
        rw [hdata, hsurveyed, hslots, Visit.surveyData_lone (hslots .front) (hslots .rear)]
        rfl
      have hpeaks' (p : Position) (m : Move) :
          peaks p m = zonePeaks s.zones s.profiles[m.profile]? (x.surveyData p) := by
        rw [← hdata']
        exact (peaksByTable_iff _ _ _ _).mp (hpeaks p m)
      have hcodes' (p : Position) (m : Move) (hm : drop p = some m) :=
        Visit.prepared_codes_byTable (v := v) hx hone (fun p => by rw [hslots]; exact hlike.1 p) hc p m
          ((hdrop' p).symm.trans hm)
      obtain ⟨hbyTable, hnotChecked, hgives⟩ := Visit.containers_byTable hchecked hdrop' hset' hpeaks' hcodes'
      refine ⟨hbyTable, hnotChecked, fun r => ?_⟩
      rw [hreasons, hgiven, hgives, or_assoc]
      rfl
  · have hnone := (selectBooking_eq_none_iff s.general.plateThreshold v s.clock.window s.booking.table).mp (by
      refine Option.eq_none_iff_forall_ne_some.mpr fun b hb => hsome ⟨b, (selectBooking_eq_some_iff _ _ _ _ _).mp hb⟩)
    obtain ⟨w, heq, hw, hstate, hsurvey, hbooking, hbus, hclaim, harrival, hempty⟩ := State.loopPVacated_unselected
      (s := s.debouncedTo .loopP false) hportal hv hpass hnone rfl
    obtain ⟨hother, hended⟩ := State.truncatePass_survey (s := s.debouncedTo .loopP false) hv hsurvey
    exact ⟨_, w, hexec, heq, hw, hstate, hother, hended, fun _ => ⟨hbooking, hbus, hclaim, harrival, hempty⟩,
      fun b hb => absurd ⟨b, hb⟩ hsome⟩

end Sys2Proof.Machine
end

section
/-! Rules about claims that a peer or the office station ends: the record's new state, and what reaches its holder (R28, R69, R76 to
R80). -/

namespace Sys2Proof.Machine

/-! ### The table -/

theorem updRecord_some (ref : Text) (g : Booking → Booking) (t : List (Option Booking)) :
    updRecord ref (fun b => some (g b)) t = t.map (fun o => o.map (fun r => if r.ref = ref then g r else r)) := by
  refine List.map_congr_left fun o _ => ?_
  cases o with
  | none => rfl
  | some b => exact (apply_ite some (b.ref = ref) (g b) b).symm

section
variable (s : State) (f : RxFrame) (rest : List RxFrame)

@[simp] theorem State.handedOn_laneId : (s.handedOn f rest).laneId = s.laneId := by simp [State.laneId]

@[simp] theorem State.handedOn_booking? (ref : Text) : (s.handedOn f rest).booking? ref = s.booking? ref := by
  simp [State.booking?]

@[simp] theorem State.handedOn_visit? (n : VisitNumber) : (s.handedOn f rest).visit? n = s.visit? n :=
  State.visit?_of_visits (by simp) n

end

section
variable {s : State} {n : VisitNumber} {v : Visit}

theorem State.updVisit_visit {f : Visit → Visit} (hf : ∀ v, (f v).number = v.number) (hv : s.visit? n = some v) :
    (s.updVisit n f).visit? n = some (f v) := by
  rw [State.visit?_updVisit_same hf, hv]
  rfl

/-! ### A cancelled booking (R28, R69) -/

/-- What the cancelling of its booking writes into the record of a visit in the state `st` (R28). -/
def Visit.cancelNoted (st : SlotState) (w : Visit) : Visit :=
  match st with
  | .toStop => w.addReason .bookingCancelled
  | .hold | .awaitLoan | .exiting | .parked => w.addOutcomeNote .bookingCancelled
  | .approach | .atPortal => w

theorem Visit.cancelNoted_keeps (st : SlotState) (w : Visit) :
    (w.cancelNoted st).number = w.number ∧ (w.cancelNoted st).state = w.state ∧ (w.cancelNoted st).verdict = w.verdict ∧
      (w.cancelNoted st).claimHeld = w.claimHeld := by
  cases st
  case toStop =>
    rw [show w.cancelNoted .toStop = w.addReason .bookingCancelled from rfl, Visit.addReason_eq]
    exact ⟨rfl, rfl, rfl, rfl⟩
  all_goals exact ⟨rfl, rfl, rfl, rfl⟩

theorem State.claimCancelled_eq (hv : s.visit? n = some v) :
    s.claimCancelled n = s.updVisit n fun w => ({ w with claimHeld := false } : Visit).cancelNoted v.state := by
  have hlost : (s.updVisit n fun w => { w with claimHeld := false }).visit? n = some { v with claimHeld := false } :=
    State.updVisit_visit (fun _ => rfl) hv
  unfold State.claimCancelled
  dsimp only
  rw [hlost, ← State.updVisit_updVisit (f := fun w => { w with claimHeld := false }) fun _ => rfl]
  dsimp only
  unfold Visit.cancelNoted
  cases v.state
  case approach | atPortal => exact (State.updVisit_id _ _).symm
  all_goals rfl

theorem State.claimCancelled_visit (hv : s.visit? n = some v) :
    (s.claimCancelled n).visit? n = some (({ v with claimHeld := false } : Visit).cancelNoted v.state) := by
  rw [State.claimCancelled_eq hv]
  exact State.updVisit_visit (fun _ => (Visit.cancelNoted_keeps _ _).1) hv

/-! ### A claim lost to a peer (R28, R78) -/

/-- What the loss of its claim writes into the record of a visit in the state `st` (R28). -/
def Visit.duplicateNoted (st : SlotState) (w : Visit) : Visit :=
  match st with
  | .toStop | .hold | .awaitLoan => w.addReason .duplicate
  | .exiting | .parked => w.addOutcomeNote .duplicate
  | .approach | .atPortal => w

theorem Visit.duplicateNoted_keeps (st : SlotState) (w : Visit) :
    (w.duplicateNoted st).number = w.number ∧ (w.duplicateNoted st).claimHeld = w.claimHeld := by
  have hreason : (w.addReason .duplicate).number = w.number ∧ (w.addReason .duplicate).claimHeld = w.claimHeld := by
    rw [Visit.addReason_eq]
    exact ⟨rfl, rfl⟩
  cases st
  case toStop | hold | awaitLoan => exact hreason
  all_goals exact ⟨rfl, rfl⟩

/-- The claim-held flag of a visit in the state `st` has cleared, and DUPLICATE has reached its record. -/
def State.duplicateWritten (n : VisitNumber) (st : SlotState) (s : State) : State :=
  s.updVisit n fun w => ({ w with claimHeld := false } : Visit).duplicateNoted st

theorem State.duplicateWritten_visit (hv : s.visit? n = some v) (st : SlotState) :
    (s.duplicateWritten n st).visit? n = some (({ v with claimHeld := false } : Visit).duplicateNoted st) :=
  State.updVisit_visit (fun _ => (Visit.duplicateNoted_keeps _ _).1) hv

theorem State.duplicateWritten_other {m : VisitNumber} (hm : m ≠ n) (st : SlotState) :
    (s.duplicateWritten n st).visit? m = s.visit? m :=
  State.visit?_updVisit_ne hm fun _ => (Visit.duplicateNoted_keeps _ _).1

@[simp] theorem State.duplicateWritten_capacity (n : VisitNumber) (st : SlotState) (s : State) :
    (s.duplicateWritten n st).capacity = s.capacity := by rfl

theorem State.claimLost_eq (hv : s.visit? n = some v) : s.claimLost n =
    if v.state = .awaitLoan then ((s.duplicateWritten n v.state).enterClerkHold n).removeWaiter n
    else s.duplicateWritten n v.state := by
  have hlost : (s.updVisit n fun w => { w with claimHeld := false }).visit? n = some { v with claimHeld := false } :=
    State.updVisit_visit (fun _ => rfl) hv
  unfold State.claimLost State.duplicateWritten
  dsimp only
  rw [hlost, ← State.updVisit_updVisit (f := fun w => { w with claimHeld := false }) fun _ => rfl]
  dsimp only
  unfold Visit.duplicateNoted
  cases v.state
  case approach | atPortal => exact (State.updVisit_id _ _).symm
  all_goals rfl

theorem State.claimLost_waits (hv : s.visit? n = some v) (hstate : v.state = .awaitLoan) :
    s.claimLost n = ((s.duplicateWritten n .awaitLoan).enterClerkHold n).removeWaiter n := by
  rw [State.claimLost_eq hv, hstate, if_pos rfl]

theorem State.claimLost_other (hv : s.visit? n = some v) (hstate : v.state ≠ .awaitLoan) :
    s.claimLost n = s.duplicateWritten n v.state := (State.claimLost_eq hv).trans (if_neg hstate)

theorem State.claimLost_visit (hv : s.visit? n = some v) (hstate : v.state ≠ .awaitLoan) :
    (s.claimLost n).visit? n = some (({ v with claimHeld := false } : Visit).duplicateNoted v.state) := by
  rw [State.claimLost_other hv hstate]
  exact State.duplicateWritten_visit hv v.state

/-! ### A visit leaves the Loan Wait List (R88, R94) -/

theorem State.removeWaiter_notOldest (h : s.capacity.waitList.head? ≠ some n) :
    s.removeWaiter n = s.setWaitList (s.capacity.waitList.filter fun m => m ≠ n) := by
  unfold State.removeWaiter
  cases hwait : s.capacity.waitList with
  | nil =>
    show s = s.setWaitList []
    rw [← hwait]
    rfl
  | cons m rest =>
    have hm : m ≠ n := by simpa [hwait] using h
    dsimp only
    rw [if_neg hm]
    congr 1
    exact List.filter_congr fun x _ => by simp [bne, beq_eq_decide]

theorem State.removeWaiter_oldest {ns : List VisitNumber} (h : s.capacity.waitList = n :: ns) :
    s.removeWaiter n = State.nextAsk .own ns.length ((s.setWaitList ns).setAsk none) := by
  unfold State.removeWaiter
  rw [h]
  exact if_pos rfl

/-- The visits taken from the Loan Wait List keep their claims. -/
theorem State.nextAsk_claimHeld {src : FlexSource} {fuel : Nat} {s : State} {v : Visit} (hv : s.visit? n = some v) :
    ∃ w, (State.nextAsk src fuel s).visit? n = some w ∧ w.claimHeld = v.claimHeld := by
  induction fuel generalizing s v with
  | zero => exact ⟨v, hv, rfl⟩
  | succ fuel ih =>
    cases hwait : s.capacity.waitList with
    | nil => exact ⟨v, (State.nextAsk_other (by simp [hwait])).trans hv, rfl⟩
    | cons m rest =>
      rw [State.nextAsk_cons hwait]
      split
      · by_cases hm : n = m
        · subst hm
          obtain ⟨w, hw, hclaim⟩ := ih (State.admitWith_visit (s := s.useUnit.setWaitList rest) hv)
          exact ⟨w, hw, hclaim⟩
        · exact ih ((State.admitWith_other hm src _).trans hv)
      · split
        · exact ⟨v, (State.visit?_of_visits s.openAsk_leaves.1 n).trans hv, rfl⟩
        · by_cases hm : n = m
          · subst hm
            obtain ⟨w, hw, hclaim⟩ := ih (State.giveNoCapacity_visit (s := s.setWaitList rest) hv)
            refine ⟨w, hw, hclaim.trans ?_⟩
            rw [Visit.addReason_eq]
            rfl
          · exact ih ((State.giveNoCapacity_other hm _).trans hv)

theorem State.removeWaiter_claimHeld (hv : s.visit? n = some v) :
    ∃ w, (s.removeWaiter n).visit? n = some w ∧ w.claimHeld = v.claimHeld := by
  by_cases hhead : s.capacity.waitList.head? = some n
  · obtain ⟨ns, hns⟩ := List.head?_eq_some_iff.mp hhead
    rw [State.removeWaiter_oldest hns]
    exact State.nextAsk_claimHeld hv
  · rw [State.removeWaiter_notOldest hhead]
    exact ⟨v, hv, rfl⟩

theorem State.removeWaiter_visit (hnodup : s.capacity.waitList.Nodup) : (s.removeWaiter n).visit? n = s.visit? n := by
  by_cases hhead : s.capacity.waitList.head? = some n
  · obtain ⟨ns, hns⟩ := List.head?_eq_some_iff.mp hhead
    rw [hns] at hnodup
    rw [State.removeWaiter_oldest hns]
    exact State.nextAsk_other (List.nodup_cons.mp hnodup).1
  · rw [State.removeWaiter_notOldest hhead]
    rfl

/-- The taking of waiting visits, from another state that agrees on these visits and on what an Ask depends on. -/
theorem State.waitersTaken.congr_left {s s' t : State} {ns : List VisitNumber} {src : FlexSource} {q : Quota}
    (h : s'.waitersTaken t ns src q) (hvisit : ∀ m ∈ ns, s'.visit? m = s.visit? m)
    (hdegraded : s'.bus.degraded = s.bus.degraded) (houtbox : s'.outbox? .capacityUnit = s.outbox? .capacityUnit)
    (hpeer : s'.capacity.peerTimer = s.capacity.peerTimer) (hcounter : s'.capacity.askCounter = s.capacity.askCounter) :
    s.waitersTaken t ns src q := by
  intro k hk
  have hk' := h k hk
  rw [hdegraded, houtbox, hpeer, hcounter] at hk'
  obtain ⟨hquota, hserved, hasked, hrefused⟩ := hk'
  refine ⟨hquota, fun n hn v hv => hserved n hn v ((hvisit n (List.mem_of_mem_take hn)).trans hv), fun hheard hroom => ?_,
    fun hnone => ?_⟩
  · obtain ⟨hwait, hkept, hask⟩ := hasked hheard hroom
    exact ⟨hwait, fun n hn => (hkept n hn).trans (hvisit n (List.mem_of_mem_drop hn)), hask⟩
  · obtain ⟨hwait, hask, hask', hheld⟩ := hrefused hnone
    exact ⟨hwait, hask, hask', fun n hn v hv => hheld n hn v ((hvisit n (List.mem_of_mem_drop hn)).trans hv)⟩

end

end Sys2Proof.Machine
end

section
/-! O51 and O52: BOOKING_CANCEL, CLAIM and CLAIM_END. -/

namespace Sys2Proof.Machine

section
variable {s : State} {ref : Text} {b : Booking}

/-! ### The record's new state (R69, R77, R78, R80) -/

/-- The record with the reference takes the state `st`. -/
def State.recordSet (ref : Text) (st : BookingState) (s : State) : State :=
  s.setTable (updRecord ref (fun b => some { b with state := st }) s.booking.table)

theorem State.recordSet_eq (ref : Text) (st : BookingState) (s : State) : s.recordSet ref st =
    { s with booking := { s.booking with
      table := s.booking.table.map (fun o => o.map (fun r => if r.ref = ref then { r with state := st } else r)) } } :=
  congrArg (s.setTable ·) (updRecord_some ref _ _)

theorem State.recordSet_visit? (ref : Text) (st : BookingState) (s : State) (n : VisitNumber) :
    (s.recordSet ref st).visit? n = s.visit? n := by rfl

theorem State.takeCancel_unknown (h : s.booking? ref = none) : s.takeCancel ref = s := by
  unfold State.takeCancel
  rw [h]

theorem State.takeCancel_ended (hb : s.booking? ref = some b) (h : b.state = .used ∨ b.state = .cancelled) :
    s.takeCancel ref = s := by
  unfold State.takeCancel
  rw [hb]
  dsimp only
  rcases h with h | h <;> rw [h]

theorem State.takeCancel_free (hb : s.booking? ref = some b)
    (h : b.state = .available ∨ ∃ c k, b.state = .elsewhere c k) : s.takeCancel ref = s.recordSet ref .cancelled := by
  unfold State.takeCancel
  rw [hb]
  dsimp only
  rcases h with h | ⟨c, k, h⟩ <;> rw [h] <;> rfl

theorem State.takeCancel_here {k : GatePoint} {n : VisitNumber} (hb : s.booking? ref = some b) (h : b.state = .here k n) :
    s.takeCancel ref = (s.recordSet ref .cancelled).claimCancelled n := by
  unfold State.takeCancel
  rw [hb]
  dsimp only
  rw [h]
  rfl

section
variable {source : LaneId} {key : GatePoint}

theorem State.takeClaimFrame_unknown (h : s.booking? ref = none) : s.takeClaimFrame source ref key = s := by
  unfold State.takeClaimFrame
  rw [h]

theorem State.takeClaimFrame_ended (hb : s.booking? ref = some b) (h : b.state = .used ∨ b.state = .cancelled) :
    s.takeClaimFrame source ref key = s := by
  unfold State.takeClaimFrame
  rw [hb]
  dsimp only
  rcases h with h | h <;> rw [h]

theorem State.takeClaimFrame_available (hb : s.booking? ref = some b) (h : b.state = .available) :
    s.takeClaimFrame source ref key = s.recordSet ref (.elsewhere source key) := by
  unfold State.takeClaimFrame
  rw [hb]
  dsimp only
  rw [h]
  rfl

theorem State.takeClaimFrame_elsewhere {c : LaneId} {k : GatePoint} (hb : s.booking? ref = some b)
    (h : b.state = .elsewhere c k) : s.takeClaimFrame source ref key =
      if c = source then s.recordSet ref (.elsewhere source key)
      else if claimEarlier key source k c then s.recordSet ref (.elsewhere source key) else s := by
  unfold State.takeClaimFrame
  rw [hb]
  dsimp only
  rw [h]
  rfl

theorem State.takeClaimFrame_here {k : GatePoint} {n : VisitNumber} (hb : s.booking? ref = some b)
    (h : b.state = .here k n) : s.takeClaimFrame source ref key =
      if claimEarlier key source k s.laneId then (s.recordSet ref (.elsewhere source key)).claimLost n else s := by
  unfold State.takeClaimFrame
  rw [hb]
  dsimp only
  rw [h]
  rfl

end

/-- CLAIM_END as the rules have it: the claimant's record leaves ELSEWHERE, or leaves the table (R80). -/
theorem State.takeClaimEnd_eq (source : LaneId) (ref : Text) (r : ClaimResult) (s : State) :
    s.takeClaimEnd source ref r = { s with booking := { s.booking with
      table := s.booking.table.map (fun o => o.bind (fun b =>
        match b.state with
        | .elsewhere c _ =>
          if b.ref = ref ∧ c = source then s.keepUnlessExpired { b with state := if r = .used then .used else .available }
          else some b
        | _ => some b)) } } := by
  refine congrArg (s.setTable ·) (List.map_congr_left fun o _ => ?_)
  cases o with
  | none => rfl
  | some b =>
    show (if b.ref = ref then _ else some b) = _
    obtain ⟨bref, bplate, bwindow, bmoves, bstate⟩ := b
    cases bstate <;> simp only [Option.bind_some, ite_self, ClaimResult.state_eq]
    next c _ _ => exact (ite_and (bref = ref) (c = source) _ _).symm

end

/-! ### BOOKING_CANCEL (R69) -/

/-- Settles O51. -/
theorem bookingCancelByRecordState : Obligations.BookingCancelByRecordState := by
  intro s u f rest hf hu
  have hexec : exec .bookingCancelFrame s = .next (u.cancelPayload f.payload) := by
    rw [hu]
    exact congrArg _ (State.onFrame_taken hf)
  have hbooking : u.booking = s.booking := by simp [hu]
  rw [hexec]
  refine ⟨fun hform => by rw [State.cancelPayload, hform], fun ref hform => ?_⟩
  have hpayload : u.cancelPayload f.payload = u.takeCancel ref := by rw [State.cancelPayload, hform]
  have hfind : u.booking? ref = s.booking? ref := by simp [hu]
  rw [hpayload, ← hfind]
  refine ⟨fun hnone => congrArg _ (State.takeCancel_unknown hnone),
    fun b hb table htable => ⟨fun h => congrArg _ (State.takeCancel_ended hb h), fun h => ?_,
      fun k n v h hv => ?_⟩⟩
  · rw [State.takeCancel_free hb h, State.recordSet_eq, htable, hbooking]
  · have hv' : (u.recordSet ref .cancelled).visit? n = some v := by
      rw [State.recordSet_visit?, hu, State.handedOn_visit?, hv]
    obtain ⟨-, hstate, hverdict, hclaim⟩ := Visit.cancelNoted_keeps v.state { v with claimHeld := false }
    rw [State.takeCancel_here hb h]
    refine ⟨_, _, rfl, ?_, State.claimCancelled_visit hv', hclaim, hstate, hverdict, fun hst => ?_, fun hst => ?_⟩
    · rw [State.claimCancelled_eq hv', State.recordSet_eq, htable, hbooking]
      rfl
    · rw [hst]
      rfl
    · rcases hst with hst | hst | hst | hst <;> rw [hst] <;> rfl

/-! ### CLAIM (R77, R78) -/

/-- A holder in AWAIT_LOAN that has lost its claim stands in a clerk hold with DUPLICATE, and the Loan Wait List has gone on without it
(R28, R88, R94). -/
theorem State.claimLost_awaitLoan {s : State} {n : VisitNumber} {v : Visit} (hv : s.visit? n = some v)
    (hstate : v.state = .awaitLoan) (hnodup : s.capacity.waitList.Nodup) :
    (s.claimLost n).visit? n =
        some ((({ v with claimHeld := false } : Visit).addReason .duplicate).heldByClerk s.point) ∧
      (s.capacity.waitList.head? ≠ some n → (s.claimLost n).capacity =
        { s.capacity with waitList := s.capacity.waitList.filter (fun m => m ≠ n) }) ∧
      ∀ ns q, s.capacity.waitList = n :: ns → s.capacity.quota = some q → s.waitersTaken (s.claimLost n) ns .own q := by
  have hheld : ((s.duplicateWritten n .awaitLoan).enterClerkHold n).visit? n =
      some ((({ v with claimHeld := false } : Visit).addReason .duplicate).heldByClerk s.point) :=
    State.enterClerkHold_visit (State.duplicateWritten_visit hv .awaitLoan)
  have hcapacity : ((s.duplicateWritten n .awaitLoan).enterClerkHold n).capacity = s.capacity := by simp
  have hreports : s.onlyReports ((s.duplicateWritten n .awaitLoan).enterClerkHold n) :=
    State.onlyReports.enterClerkHold (State.onlyReports.refl s).updVisit
  rw [State.claimLost_waits hv hstate]
  refine ⟨?_, fun hhead => ?_, fun ns q hwait hq => ?_⟩
  · rw [State.removeWaiter_visit (by rwa [hcapacity])]
    exact hheld
  · rw [State.removeWaiter_notOldest (by rwa [hcapacity])]
    simp only [State.setWaitList_capacity, hcapacity]
  · rw [hwait, List.nodup_cons] at hnodup
    rw [State.removeWaiter_oldest (by rwa [hcapacity])]
    refine State.waitersTaken.congr_left (State.nextAsk_waitersTaken hnodup.2 rfl
      (by simpa [hcapacity] using hq) rfl) (fun m hm => ?_) hreports.degraded (hreports.outbox? _) ?_ ?_
    · have hne : m ≠ n := fun h => hnodup.1 (h ▸ hm)
      exact (State.enterClerkHold_other hne _).trans (State.duplicateWritten_other hne _)
    · simp
    · simp

/-- Whatever its state, the holder that has lost its claim no longer holds it. -/
theorem State.claimLost_claimHeld {s : State} {n : VisitNumber} {v : Visit} (hv : s.visit? n = some v) :
    ∃ w, (s.claimLost n).visit? n = some w ∧ w.claimHeld = false := by
  have hwritten := State.duplicateWritten_visit hv v.state
  have hclaim := (Visit.duplicateNoted_keeps v.state { v with claimHeld := false }).2
  rw [State.claimLost_eq hv]
  split
  · obtain ⟨w, hw, hkept⟩ := State.removeWaiter_claimHeld (State.enterClerkHold_visit hwritten)
    exact ⟨w, hw, hkept.trans hclaim⟩
  · exact ⟨_, hwritten, hclaim⟩

/-- Settles O52. -/
theorem peerClaimsByRecordState : Obligations.PeerClaimsByRecordState := by
  refine ⟨fun s u f rest hf hu => ?_, fun s u f rest hf hu => ?_⟩
  · have hexec : exec .claimFrame s = .next (u.claimPayload f.source f.payload) := by
      rw [hu]
      exact congrArg _ (State.onFrame_taken hf)
    have hbooking : u.booking = s.booking := by simp [hu]
    rw [hexec]
    refine ⟨fun hform => by rw [State.claimPayload, hform], fun ref key hform table htable => ?_⟩
    have hpayload : u.claimPayload f.source f.payload = u.takeClaimFrame f.source ref key := by
      rw [State.claimPayload, hform]
    have hfind : u.booking? ref = s.booking? ref := by simp [hu]
    have hset : u.recordSet ref (.elsewhere f.source key) = { u with booking := { u.booking with table := table } } := by
      rw [State.recordSet_eq, htable, hbooking]
    rw [hpayload, ← hfind]
    refine ⟨fun hnone => congrArg _ (State.takeClaimFrame_unknown hnone),
      fun b hb => ⟨fun h => congrArg _ (State.takeClaimFrame_ended hb h), fun h => ?_,
        fun c k h => ⟨fun hfollow => ?_, fun hother hlater => ?_⟩, fun k n h => ⟨fun hlater => ?_, fun hearlier v hv => ?_⟩⟩⟩
    · rw [State.takeClaimFrame_available hb h, hset]
    · rw [State.takeClaimFrame_elsewhere hb h, hset]
      rcases hfollow with hsame | hearlier
      · rw [if_pos hsame]
      · rw [if_pos hearlier, ite_self]
    · rw [State.takeClaimFrame_elsewhere hb h, if_neg hother, if_neg (by simp [hlater])]
    · rw [State.takeClaimFrame_here hb h, if_neg (by simp [hu, hlater])]
    · rw [State.takeClaimFrame_here hb h, if_pos (by simp [hu, hearlier])]
      have hv' : (u.recordSet ref (.elsewhere f.source key)).visit? n = some v := by
        rw [State.recordSet_visit?, hu, State.handedOn_visit?, hv]
      have hrest : (u.recordSet ref (.elsewhere f.source key)).capacity = s.capacity ∧
          (u.recordSet ref (.elsewhere f.source key)).point = s.point := by simp [hu, State.recordSet, State.point]
      obtain ⟨w, hw, hclaim⟩ := State.claimLost_claimHeld hv'
      have hgiven {x : Visit} (hx : ((u.recordSet ref (.elsewhere f.source key)).claimLost n).visit? n = some x) :
          w = x := Option.some.inj (hw.symm.trans hx)
      refine ⟨_, w, rfl, by simp [hset], hw, hclaim, fun hst => ?_, fun hst => ?_, fun hst hnodup => ?_⟩
      · rw [hgiven (State.claimLost_visit hv' (by rcases hst with hst | hst <;> simp [hst]))]
        rcases hst with hst | hst <;> rw [hst] <;> rfl
      · rw [hgiven (State.claimLost_visit hv' (by rcases hst with hst | hst <;> simp [hst]))]
        rcases hst with hst | hst <;> rw [hst] <;> rfl
      · obtain ⟨hcapacity, hpoint⟩ := hrest
        obtain ⟨hheld, hremoved, htaken⟩ := State.claimLost_awaitLoan hv' hst (by rwa [hcapacity])
        rw [hcapacity] at hremoved htaken
        refine ⟨?_, hremoved, fun ns q hwait hq => (htaken ns q hwait hq).congr_left (fun m _ => ?_) ?_ ?_ ?_ ?_⟩
        · rw [hgiven hheld, hpoint]
          rfl
        · rw [State.recordSet_visit?, hu, State.handedOn_visit?]
        · simp [hu, State.recordSet]
        · simp [hu, State.recordSet, State.outbox?]
        · rw [hcapacity]
        · rw [hcapacity]
  · have hexec : exec .claimEndFrame s = .next (u.claimEndPayload f.source f.payload) := by
      rw [hu]
      exact congrArg _ (State.onFrame_taken hf)
    have hkeep (b : Booking) : u.keepUnlessExpired b = s.keepUnlessExpired b := by
      simp [hu, State.keepUnlessExpired]
    have hbooking : u.booking = s.booking := by simp [hu]
    rw [hexec]
    refine ⟨fun hform => by rw [State.claimEndPayload, hform], fun ref r hform => ?_⟩
    have hpayload : u.claimEndPayload f.source f.payload = u.takeClaimEnd f.source ref r := by
      rw [State.claimEndPayload, hform]
    rw [hpayload, State.takeClaimEnd_eq]
    simp only [hkeep, hbooking]
    rfl

end Sys2Proof.Machine
end

section
/-! Rules about sending: the head that begins to be sent, the frame that leaves the queue with what its owner then does, and what a
reception adds to the Transmit Queue (R154, R157, R163, R166 to R169). -/

namespace Sys2Proof.Machine

/-! ### A reception adds to the Transmit Queue, and no frame of it is in transmission -/

/-- From `s` to `t` the Transmit Queue has kept its frames, and the frames it has gained are not in transmission. -/
def State.queueGrows (s t : State) : Prop :=
  (∀ x ∈ s.bus.txQueue, x ∈ t.bus.txQueue) ∧ ∀ x ∈ t.bus.txQueue, x ∈ s.bus.txQueue ∨ x.sending = false

section
variable {r s t : State}

theorem State.queueGrows.of_same (h : t.bus.txQueue = s.bus.txQueue) : s.queueGrows t := by
  unfold State.queueGrows
  rw [h]
  exact ⟨fun _ hx => hx, fun _ hx => .inl hx⟩

theorem State.queueGrows.trans (h : r.queueGrows s) (h' : s.queueGrows t) : r.queueGrows t :=
  ⟨fun x hx => h'.1 x (h.1 x hx), fun x hx => (h'.2 x hx).elim (h.2 x) .inr⟩

theorem State.queueGrows.enqueue (f : TxFrame) (s : State) : s.queueGrows (s.enqueue f) :=
  ⟨fun x hx => (mem_insertFrame _ x _).mpr (.inr hx), fun x hx => by
    rcases (mem_insertFrame _ x _).mp hx with rfl | hx
    · exact .inr rfl
    · exact .inl hx⟩

theorem State.queueGrows.latch (f : AlertFlag) (s : State) : s.queueGrows (s.latch f) := by
  unfold State.latch State.flagSetChanged State.reportStatus State.handStatus
  repeat' split
  · exact .of_same rfl
  · exact .of_same rfl
  · exact .of_same rfl
  · exact .enqueue _ _

theorem State.queueGrows.count (k : Counter) (s : State) : s.queueGrows (s.count k) := by
  unfold State.count
  dsimp only
  split
  · exact .trans (s := s.setCounters (s.outcome.counters.put k (satAdd 255 (s.outcome.counters.get k) 1))) (.of_same rfl)
      (.latch .bus _)
  · exact .of_same rfl

theorem State.queueGrows.offerOutcome (s : State) : s.queueGrows s.offerOutcome := by
  unfold State.offerOutcome
  repeat' split
  · exact .of_same rfl
  · exact .enqueue _ _
  · exact .of_same rfl

theorem State.queueGrows.stationHeard (source : LaneId) (s : State) : s.queueGrows (s.stationHeard source) := by
  unfold State.stationHeard State.officeHeard
  repeat' split
  · exact .of_same rfl
  · exact State.queueGrows.offerOutcome (({ s with bus := { s.bus with
      silence := .running 5000, degraded := false } } : State).endCondition .gatewaySilent)
  · exact .of_same rfl
  · exact .of_same rfl

theorem State.queueGrows.bufferFrame (f : RawFrame) (s : State) : s.queueGrows (s.bufferFrame f) := by
  unfold State.bufferFrame
  repeat' split
  · exact .count _ _
  · exact .count _ _
  · exact .of_same rfl
  · exact .of_same rfl

theorem State.queueGrows.receive (stopFault : Bool) (bytes : List Byte) (s : State) :
    s.queueGrows (s.receive stopFault bytes) := by
  unfold State.receive
  repeat' split
  · exact .count _ _
  · exact .latch .idClash s
  · exact (State.queueGrows.stationHeard _ s).trans (.bufferFrame _ _)
  · exact .stationHeard _ s
  · exact .of_same rfl

end

/-! ### What a reception leaves -/

section
variable {s : State} {stopFault : Bool} {bytes : List Byte} {f : RawFrame}

/-- Of the Capacity Unit a reception touches the peer timer alone (R89). -/
theorem State.receive_capacity (stopFault : Bool) (bytes : List Byte) (s : State) :
    (s.receive stopFault bytes).capacity =
      { s.capacity with peerTimer := (s.receive stopFault bytes).capacity.peerTimer } := by
  have hheard (source : LaneId) :
      (s.stationHeard source).capacity = { s.capacity with peerTimer := (s.stationHeard source).capacity.peerTimer } := by
    unfold State.stationHeard
    repeat' split
    · rfl
    · simp
    · rfl
  unfold State.receive
  dsimp only
  repeat' split
  · simp
  · simp
  next f _ _ _ => simpa using hheard f.source
  · exact hheard _
  · rfl

theorem State.receive_eq (stopFault : Bool) (bytes : List Byte) (s : State) :
    s.receive stopFault bytes = { s with
      capacity := { s.capacity with peerTimer := (s.receive stopFault bytes).capacity.peerTimer }
      outcome := (s.receive stopFault bytes).outcome, bus := (s.receive stopFault bytes).bus } :=
  State.eq_of_blocks (by simp [← State.receive_capacity])

theorem State.receive_dead (h : s.alive = false) : s.receive stopFault bytes = s := if_neg (by simp [h])

theorem State.receive_damaged (h : s.alive = true) (hbytes : parseFrame stopFault bytes = none) :
    s.receive stopFault bytes = s.count .crcErrors := by
  unfold State.receive
  rw [if_pos h, hbytes]

/-- A frame of a peer to another lane is heard, and no more (R89, R169). -/
theorem State.receive_peerElsewhere (h : s.alive = true) (hbytes : parseFrame stopFault bytes = some f)
    (hown : f.source ≠ s.laneId) (hzero : f.source ≠ 0) (hoffice : f.source ≠ 31) (hall : f.dest ≠ 0)
    (hlane : f.dest ≠ s.laneId) : s.receive stopFault bytes = s.peerHeard := by
  unfold State.receive State.stationHeard
  rw [if_pos h, hbytes]
  dsimp only
  rw [if_neg hown, if_neg fun h => h.elim hall hlane, if_neg hzero, if_neg hoffice]

end

/-! ### The frame in transmission (R163, R168) -/

section
variable {s : State}

theorem State.sending?_eq_none (h : ∀ x ∈ s.bus.txQueue, x.sending = false) : s.sending? = none :=
  List.find?_eq_none.mpr fun x hx => by simp [h x hx]

theorem State.sending?_isSome (h : ∃ x ∈ s.bus.txQueue, x.sending = true) : s.sending?.isSome = true :=
  List.find?_isSome.mpr h

theorem State.beginSending_starts {e : TxEntry} {es : List TxEntry} (hq : s.bus.txQueue = e :: es)
    (halive : s.alive = true) (h : ∀ x ∈ s.bus.txQueue, x.sending = false) :
    s.beginSending = s.setTxQueue ({ e with sending := true } :: es) := by
  unfold State.beginSending
  rw [hq, State.sending?_eq_none h, halive]
  rfl

theorem State.beginSending_idle
    (h : s.bus.txQueue = [] ∨ s.alive = false ∨ ∃ x ∈ s.bus.txQueue, x.sending = true) : s.beginSending = s := by
  unfold State.beginSending
  cases hq : s.bus.txQueue with
  | nil => rfl
  | cons e es =>
    refine if_neg ?_
    rcases h with h | h | h
    · simp [hq] at h
    · simp [h]
    · obtain ⟨x, hx⟩ := Option.isSome_iff_exists.mp (State.sending?_isSome h)
      simp [hx]

/-- The Transmit Queue with no frame in transmission (R163). -/
def State.notSending (s : State) : State :=
  s.setTxQueue (s.bus.txQueue.map fun x => { x with sending := false })

theorem State.loseContention_eq (stopFault : Bool) (bytes : List Byte) (h : ∃ x ∈ s.bus.txQueue, x.sending = true) :
    s.loseContention stopFault bytes = s.notSending.receive stopFault bytes := if_pos (State.sending?_isSome h)

theorem State.loseContention_idle (stopFault : Bool) (bytes : List Byte)
    (h : ∀ x ∈ s.bus.txQueue, x.sending = false) : s.loseContention stopFault bytes = s :=
  if_neg (by simp [State.sending?_eq_none h])

/-! ### A frame has been sent (R154, R157, R167, R168) -/

/-- The frame of `e` is on the bus, and `q` is left of the Transmit Queue. -/
def State.frameOut (e : TxEntry) (q : List TxEntry) (s : State) : State :=
  (s.setTxQueue q).emit (.busFrame (e.frame.bytes s.laneId))

theorem State.sent_eq {before after : List TxEntry} {e : TxEntry} (hq : s.bus.txQueue = before ++ e :: after)
    (he : e.sending = true) (hbefore : ∀ x ∈ before, x.sending = false) :
    s.sent = (((s.frameOut e (before ++ after)).drainOutbox).ownerTold e.frame).offerOutcome := by
  have hnone : before.find? (·.sending) = none := List.find?_eq_none.mpr fun x hx => by simp [hbefore x hx]
  have hfind : s.sending? = some e := by
    unfold State.sending?
    rw [hq, List.find?_append, hnone, List.find?_cons_of_pos he]
    rfl
  have hleft : s.bus.txQueue.eraseP (·.sending) = before ++ after := by
    rw [hq, List.eraseP_append_right _ fun x hx => by simp [hbefore x hx], List.eraseP_cons_of_pos he]
  unfold State.sent
  rw [hfind, hleft]
  rfl

theorem State.sent_idle (h : ∀ x ∈ s.bus.txQueue, x.sending = false) : s.sent = s := by
  unfold State.sent
  rw [State.sending?_eq_none h]

theorem State.drainOutbox_nil (h : s.bus.outboxes = []) : s.drainOutbox = s := by
  unfold State.drainOutbox
  rw [h]

theorem State.drainOutbox_cons {x : OutboxEntry} {xs : List OutboxEntry} (h : s.bus.outboxes = x :: xs)
    (hroom : s.bus.txQueue.length < 8) : s.drainOutbox = (s.enqueue x.frame).setOutboxes xs := by
  unfold State.drainOutbox
  rw [h]
  exact if_pos (by unfold State.txFree; omega)

theorem State.ownerTold_other {f : TxFrame} (houtcome : f.kind ≠ .outcome) (hstatus : f.kind ≠ .status) :
    s.ownerTold f = s := by
  cases f
  case outcome => exact absurd rfl houtcome
  case status => exact absurd rfl hstatus
  all_goals rfl

theorem State.ownerTold_outcome {f : TxFrame} (h : f.kind = .outcome) : s.ownerTold f = s.dropOffered := by
  cases f
  case outcome => rfl
  all_goals exact nomatch h

theorem State.ownerTold_status {f : TxFrame} (h : f.kind = .status) :
    s.ownerTold f = if s.outcome.statusDue then (s.setStatusDue false).handStatus else s := by
  cases f
  case status => rfl
  all_goals exact nomatch h

theorem State.handStatus_room (h : s.bus.txQueue.length < 8) :
    s.handStatus = s.enqueue (.status s.flagWord s.visits.mode) := if_neg (by unfold State.txFree; omega)

theorem State.offerOutcome_waits (h : s.outcome.filled = [] ∨ s.bus.degraded = true ∨ s.outcome.offered = true ∨
    7 ≤ s.bus.txQueue.length) : s.offerOutcome = s := by
  unfold State.offerOutcome
  cases hfilled : s.outcome.filled with
  | nil => rfl
  | cons r rs =>
    refine if_neg ?_
    unfold State.txFree
    rcases h with h | h | h | h
    · simp [hfilled] at h
    · simp [h]
    · simp [h]
    · simp; omega

theorem State.offerOutcome_offers {r : OutcomeRecord} {rs : List OutcomeRecord} (hfilled : s.outcome.filled = r :: rs)
    (hdegraded : s.bus.degraded = false) (hnone : s.outcome.offered = false) (hroom : s.bus.txQueue.length ≤ 6) :
    s.offerOutcome = { s.enqueue (.outcome r) with outcome := { s.outcome with offered := true } } := by
  unfold State.offerOutcome
  rw [hfilled]
  have hfree : 2 ≤ s.txFree := by
    unfold State.txFree
    omega
  exact if_pos (by simp [hdegraded, hnone, hfree])

/-! ### A place freed by an OUTCOME sent (R29, R152) -/

/-- The oldest FILLED place is FREE, and no place is offered. -/
def State.placeReleased (s : State) : State :=
  { s with outcome := { s.outcome with filled := s.outcome.filled.tail, offered := false } }

theorem State.dropOffered_eq (s : State) : s.dropOffered = s.placeReleased.placeFreed := by rfl

theorem State.placeFreed_nobody (h : s.oldest? Visit.isPlaceHold = none) : s.placeFreed = s.endCondition .records := by
  unfold State.placeFreed
  rw [h]

theorem State.placeFreed_reserves {v : Visit} (h : s.oldest? Visit.isPlaceHold = some v) (hfree : s.placesUsed < 16) :
    s.placeFreed = (s.withPlace v.number).combine v.number := by
  unfold State.placeFreed
  rw [h]
  exact if_pos hfree

theorem State.openAsk_filled (s : State) : s.openAsk.outcome.filled = s.outcome.filled := by
  unfold State.openAsk
  split
  · rfl
  · exact (State.handClass0_leaves _ _ _).2.1

theorem State.flexStep_filled (n : VisitNumber) (s : State) : (s.flexStep n).outcome.filled = s.outcome.filled := by
  have hwaits : (s.waitingForLoan n).outcome.filled = s.outcome.filled :=
    ((State.onlyReports.refl s).updVisit.reportHolds).2.2.2
  rw [State.flexStep_eq]
  split
  · exact (State.onlyReports.admitWith (s := s.useUnit) (State.onlyReports.refl s)).2.2.2
  · split
    · split
      · exact (State.openAsk_filled _).trans hwaits
      · exact hwaits
    · exact ((State.onlyReports.refl s).giveNoCapacity).2.2.2

/-- Whatever verdict is combined, the FILLED places stay. -/
theorem State.combine_filled (n : VisitNumber) (s : State) : (s.combine n).outcome.filled = s.outcome.filled := by
  cases hv : s.visit? n with
  | none =>
    unfold State.combine
    rw [hv]
  | some v =>
    rw [State.combine_eq hv]
    split
    · exact (State.refuseVisit_records hv).2.1
    · split
      · exact ((State.onlyReports.refl s).enterClerkHold).2.2.2
      · split
        · exact State.flexStep_filled n s
        · exact ((State.onlyReports.refl s).giveVerdict).2.2.2

theorem State.withPlace_filled (n : VisitNumber) (s : State) : (s.withPlace n).outcome.filled = s.outcome.filled := by
  unfold State.withPlace State.reservePlace
  dsimp only
  split
  · exact (State.onlyReports.latch (State.onlyReports.refl _)).2.2.2
  · rfl

theorem State.placeFreed_filled (s : State) : s.placeFreed.outcome.filled = s.outcome.filled := by
  unfold State.placeFreed
  repeat' split
  · exact (State.combine_filled _ (s.withPlace _)).trans (State.withPlace_filled _ s)
  · rfl
  · rfl

theorem State.enterClerkHold_yard {n : VisitNumber} {v : Visit} (hv : s.visit? n = some v)
    (h : .recordFull ∈ v.active) : (s.enterClerkHold n).yard = s.yard := by
  rw [State.enterClerkHold_eq hv, if_pos h]
  simp

end

end Sys2Proof.Machine
end

section
/-! O60: TX_START, CONTENTION_LOST and FRAME_SENT. -/

namespace Sys2Proof.Machine

/-! ### The place hold that takes the freed place (R29 to R33, R85, R152) -/

/-- The visit `v`, in a place hold until then, has been evaluated with its place from `s` to `t`, `w` being its record after that. -/
def State.evaluatedAfresh (s t : State) (v w : Visit) : Prop :=
  (v.active.any Reason.isRefuse = true → w.state = .exiting ∧ w.verdict = .refuse ∧ w.stops = []) ∧
  (v.active.any Reason.isRefuse = false → v.active.any Reason.isClerkHold = true →
    w.state = .hold ∧ w.verdict = .hold ∧ w.holdStart = some s.point ∧ t.booking = s.booking ∧
      (.recordFull ∈ v.active → t.yard = s.yard)) ∧
  (v.active.any Reason.isRefuse = false → v.active.any Reason.isClerkHold = false →
    v.needsFlex = false ∨ (∃ q, s.capacity.quota = some q ∧ q.lent + q.used < q.share + q.borrowed ∧
      s.capacity.waitList = []) →
    w.state = .exiting ∧ w.verdict = v.admission ∧ w.flex = (if v.needsFlex then .own else v.flex) ∧
      t.booking = s.booking) ∧
  (v.active.any Reason.isRefuse = false → v.active.any Reason.isClerkHold = false → v.needsFlex = true →
    ∀ q, s.capacity.quota = some q → q.share + q.borrowed ≤ q.lent + q.used →
      ((s.bus.degraded = false ∨ s.capacity.peerTimer.isRunning = true) → q.borrowed < 15 →
        w.state = .awaitLoan ∧ t.capacity.waitList = s.capacity.waitList ++ [v.number]) ∧
      ((s.bus.degraded = true ∧ s.capacity.peerTimer.isRunning = false) ∨ 15 ≤ q.borrowed →
        w.state = .hold ∧ w.verdict = .hold ∧ w.given .noCapacity ∧ t.capacity = s.capacity))

theorem State.evaluatedAfresh.congr {s s' t t' : State} {v w : Visit} (h : s'.evaluatedAfresh t' v w)
    (hs : s'.clock = s.clock ∧ s'.booking = s.booking ∧ s'.capacity = s.capacity ∧ s'.yard = s.yard ∧
      s'.bus.degraded = s.bus.degraded)
    (ht : t'.booking = t.booking ∧ t'.capacity = t.capacity ∧ t'.yard = t.yard) : s.evaluatedAfresh t v w := by
  obtain ⟨hclock, hbooking, hcapacity, hyard, hdegraded⟩ := hs
  obtain ⟨hbooking', hcapacity', hyard'⟩ := ht
  unfold State.evaluatedAfresh State.point at h ⊢
  rwa [hclock, hbooking, hcapacity, hyard, hdegraded, hbooking', hcapacity', hyard'] at h

section
variable {s : State} {n : VisitNumber} {v : Visit}

/-- The flex step where the spare is 0: the visit waits for a loan, or none can be asked (R31, R89). -/
theorem State.flexStep_noSpare {q : Quota} (hv : s.visit? n = some v) (hq : s.capacity.quota = some q)
    (hspare : q.share + q.borrowed ≤ q.lent + q.used) :
    ((s.bus.degraded = false ∨ s.capacity.peerTimer.isRunning = true) → q.borrowed < 15 →
      ∃ w, (s.flexStep n).visit? n = some w ∧ w.state = .awaitLoan ∧
        (s.flexStep n).capacity.waitList = s.capacity.waitList ++ [n]) ∧
    ((s.bus.degraded = true ∧ s.capacity.peerTimer.isRunning = false) ∨ 15 ≤ q.borrowed →
      ∃ w, (s.flexStep n).visit? n = some w ∧ w.state = .hold ∧ w.verdict = .hold ∧ w.given .noCapacity ∧
        (s.flexStep n).capacity = s.capacity) := by
  have hnone : s.spare = 0 := by
    rw [State.spare_eq hq]
    omega
  refine ⟨fun hheard hroom => ?_, fun hcannot => ?_⟩
  · obtain ⟨hvisit, -, hopen, hask⟩ := State.flexStep_asks hv hq hnone ((State.canAsk_iff hq).mpr ⟨hheard, hroom⟩) rfl
    refine ⟨_, hvisit, rfl, ?_⟩
    by_cases h : s.capacity.ask = none
    · rw [(hask h).1]
    · rw [hopen h]
  · have hask : s.canAsk = false := by
      rw [← Bool.not_eq_true, State.canAsk_iff hq]
      rintro ⟨hheard, hroom⟩
      rcases hcannot with ⟨hdegraded, hsilent⟩ | hfull
      · rcases hheard with h | h
        · simp [h] at hdegraded
        · simp [h] at hsilent
      · omega
    rw [State.flexStep_noCapacity hnone hask]
    exact ⟨_, State.giveNoCapacity_visit hv, rfl, rfl, Visit.addReason_given .noCapacity v, by simp⟩

theorem State.combine_evaluatedAfresh (hv : s.visit? v.number = some v) :
    ∃ w, (s.combine v.number).visit? v.number = some w ∧ w.placeReserved = v.placeReserved ∧
      s.evaluatedAfresh (s.combine v.number) v w := by
  obtain ⟨-, w, hw, hplace⟩ := State.combine_leaves hv
  have hthe {x : Visit} (hx : (s.combine v.number).visit? v.number = some x) : w = x :=
    Option.some.inj (hw.symm.trans hx)
  refine ⟨w, hw, hplace, fun hrefuse => ?_, fun hrefuse hhold => ?_, fun hrefuse hhold hunit => ?_,
    fun hrefuse hhold hflex q hq hspare => ?_⟩
  · obtain ⟨x, hx, hstate, hverdict, hstops, -⟩ := State.combine_refuses hv hrefuse rfl
    rw [hthe hx]
    exact ⟨hstate, hverdict, hstops⟩
  · obtain ⟨hx, -, hbooking, -⟩ := State.combine_holds hv hrefuse hhold rfl
    rw [hthe hx]
    refine ⟨rfl, rfl, rfl, hbooking, fun hfull => ?_⟩
    rw [State.combine_eq hv, if_neg (by simp [hrefuse]), if_pos hhold]
    exact State.enterClerkHold_yard hv hfull
  · obtain ⟨x, hx, hstate, hverdict, -, hbooking, hkept, hown, -⟩ := State.combine_admits hv hrefuse hhold hunit rfl
    rw [hthe hx]
    refine ⟨hstate, hverdict, ?_, hbooking⟩
    cases hflex : v.needsFlex with
    | false => exact (hkept hflex).2
    | true => exact (hown hflex).1
  · obtain ⟨hwaits, hnone⟩ := State.flexStep_noSpare hv hq hspare
    rw [State.combine_flex hv hrefuse hhold hflex] at hthe ⊢
    refine ⟨fun hheard hroom => ?_, fun hcannot => ?_⟩
    · obtain ⟨x, hx, hstate, hlist⟩ := hwaits hheard hroom
      rw [hthe hx]
      exact ⟨hstate, hlist⟩
    · obtain ⟨x, hx, hstate, hverdict, hgiven, hcapacity⟩ := hnone hcannot
      rw [hthe hx]
      exact ⟨hstate, hverdict, hgiven, hcapacity⟩

/-- The freed place goes to the oldest place hold, and that visit is evaluated afresh. -/
theorem State.placeFreed_evaluates (hold : s.oldest? Visit.isPlaceHold = some v) (hv : s.visit? v.number = some v)
    (hfree : s.placesUsed < 16) :
    s.placeFreed.outcome.reserved = s.outcome.reserved ++ [v.number] ∧
      ∃ w, s.placeFreed.visit? v.number = some w ∧ w.placeReserved = true ∧ s.evaluatedAfresh s.placeFreed v w := by
  have hplaced := State.withPlace_visit (s := s) hv
  obtain ⟨-, hclock, hbooking, hcapacity, hyard⟩ := s.withPlace_leaves v.number
  obtain ⟨hreserved, -, hdegraded, -⟩ := s.withPlace_bus v.number
  obtain ⟨w, hw, hplace, hfresh⟩ :=
    State.combine_evaluatedAfresh (v := { v with placeReserved := true }) hplaced
  rw [State.placeFreed_reserves hold hfree]
  exact ⟨(State.combine_leaves hplaced).1.trans hreserved, w, hw, hplace,
    State.evaluatedAfresh.congr (v := v) hfresh ⟨hclock, hbooking, hcapacity, hyard, hdegraded⟩ ⟨rfl, rfl, rfl⟩⟩

end

/-! ### The frame sent and what its owner does (R154, R157, R167, R168) -/

section
variable {s : State} {before after : List TxEntry} {e : TxEntry}

/-- The state in which a place of the Outcome Queue has become FREE, the OUTCOME frame of `e` having been sent. -/
def State.outcomeSent (e : TxEntry) (q : List TxEntry) (s : State) : State :=
  ((s.frameOut e q).drainOutbox).placeReleased

@[simp] theorem State.drainOutbox_degraded (s : State) : s.drainOutbox.bus.degraded = s.bus.degraded := by
  unfold State.drainOutbox
  repeat' split
  all_goals rfl

theorem State.outcomeSent_leaves (e : TxEntry) (q : List TxEntry) (s : State) :
    (s.outcomeSent e q).clock = s.clock ∧ (s.outcomeSent e q).visits = s.visits ∧
      (s.outcomeSent e q).booking = s.booking ∧ (s.outcomeSent e q).capacity = s.capacity ∧
      (s.outcomeSent e q).yard = s.yard ∧ (s.outcomeSent e q).bus.degraded = s.bus.degraded ∧
      (s.outcomeSent e q).outcome = { s.outcome with filled := s.outcome.filled.tail, offered := false } := by
  simp [State.outcomeSent, State.placeReleased, State.frameOut]

theorem State.offerOutcome_outcome (s : State) :
    s.offerOutcome.outcome = { s.outcome with offered := s.offerOutcome.outcome.offered } := by
  unfold State.offerOutcome
  repeat' split
  all_goals rfl

variable (hq : s.bus.txQueue = before ++ e :: after) (he : e.sending = true) (hbefore : ∀ x ∈ before, x.sending = false)
include hq he hbefore

theorem State.sent_other (houtcome : e.frame.kind ≠ .outcome) (hstatus : e.frame.kind ≠ .status) :
    s.sent = ((s.frameOut e (before ++ after)).drainOutbox).offerOutcome := by
  rw [State.sent_eq hq he hbefore, State.ownerTold_other houtcome hstatus]

theorem State.sent_outcome (houtcome : e.frame.kind = .outcome) :
    s.sent = (s.outcomeSent e (before ++ after)).placeFreed.offerOutcome := by
  rw [State.sent_eq hq he hbefore, State.ownerTold_outcome houtcome]
  rfl

theorem State.sent_outcome_nobody (houtcome : e.frame.kind = .outcome) (h : s.oldest? Visit.isPlaceHold = none) :
    s.sent = ((s.outcomeSent e (before ++ after)).endCondition .records).offerOutcome := by
  obtain ⟨-, hvisits, -⟩ := s.outcomeSent_leaves e (before ++ after)
  rw [State.sent_outcome hq he hbefore houtcome, State.placeFreed_nobody (by rwa [State.oldest?, hvisits])]

/-- An OUTCOME sent frees the oldest FILLED place; with no place hold it stays FREE, and the RECORDS condition has ended (R152,
R154). -/
theorem State.sent_outcome_frees (houtcome : e.frame.kind = .outcome) :
    s.sent.outcome.filled = s.outcome.filled.tail ∧
      (s.oldest? Visit.isPlaceHold = none → s.sent.outcome.reserved = s.outcome.reserved ∧
        s.sent.flag .records = ⟨(s.flag .records).isSet, false⟩) := by
  obtain ⟨-, -, -, -, -, -, hrecords⟩ := s.outcomeSent_leaves e (before ++ after)
  refine ⟨?_, fun hnobody => ?_⟩
  · rw [State.sent_outcome hq he hbefore houtcome, State.offerOutcome_outcome]
    exact (State.placeFreed_filled _).trans (by rw [hrecords])
  · have hflag : (s.outcomeSent e (before ++ after)).flag .records = s.flag .records := by
      unfold State.flag
      rw [hrecords]
    rw [State.sent_outcome_nobody hq he hbefore houtcome hnobody]
    refine ⟨?_, ?_⟩
    · rw [State.offerOutcome_outcome]
      show (s.outcomeSent e (before ++ after)).outcome.reserved = _
      rw [hrecords]
    · rw [State.flag, State.offerOutcome_outcome, ← hflag]
      exact State.flag_putFlag_same .records _ _

/-- The next FILLED record is offered at once where two places of the Transmit Queue are free (R154). -/
theorem State.sent_outcome_offers {r₀ r : OutcomeRecord} {rs : List OutcomeRecord} (houtcome : e.frame.kind = .outcome)
    (hfilled : s.outcome.filled = r₀ :: r :: rs) (hempty : s.bus.outboxes = [])
    (hnobody : s.oldest? Visit.isPlaceHold = none) (hdegraded : s.bus.degraded = false)
    (hroom : (before ++ after).length ≤ 6) :
    s.sent.outcome.offered = true ∧ s.sent.bus.txQueue = insertFrame ⟨.outcome r, false⟩ (before ++ after) := by
  have hdrained : (s.frameOut e (before ++ after)).drainOutbox = s.frameOut e (before ++ after) :=
    State.drainOutbox_nil hempty
  obtain ⟨-, -, -, -, -, hdegraded', hrecords⟩ := s.outcomeSent_leaves e (before ++ after)
  rw [State.sent_outcome_nobody hq he hbefore houtcome hnobody, State.offerOutcome_offers (r := r) (rs := rs)]
  · refine ⟨rfl, ?_⟩
    rw [State.outcomeSent, hdrained]
    rfl
  · exact (congrArg OutcomeUnit.filled hrecords).trans (by rw [hfilled]; rfl)
  · exact hdegraded'.trans hdegraded
  · exact congrArg OutcomeUnit.offered hrecords
  · rw [State.outcomeSent, hdrained]
    exact hroom

/-- The place freed goes to the oldest place hold, which is evaluated afresh (R29, R152). -/
theorem State.sent_outcome_reserves {v : Visit} (houtcome : e.frame.kind = .outcome) (hsound : s.placesSound)
    (hfilled : s.outcome.filled ≠ []) (hold : s.oldest? Visit.isPlaceHold = some v) (hv : s.visit? v.number = some v) :
    ∃ w, s.sent.outcome.reserved = s.outcome.reserved ++ [v.number] ∧ s.sent.visit? v.number = some w ∧
      w.placeReserved = true ∧ s.evaluatedAfresh s.sent v w := by
  obtain ⟨hclock, hvisits, hbooking, hcapacity, hyard, hdegraded, hrecords⟩ := s.outcomeSent_leaves e (before ++ after)
  have hfree : (s.outcomeSent e (before ++ after)).placesUsed < 16 := by
    have hpos := List.length_pos_iff.mpr hfilled
    unfold State.placesSound at hsound
    unfold State.placesUsed
    rw [hrecords]
    simp only [List.length_tail]
    omega
  obtain ⟨hreserved, w, hw, hplace, hfresh⟩ := State.placeFreed_evaluates (s := s.outcomeSent e (before ++ after)) (v := v)
    (by rwa [State.oldest?, hvisits]) ((State.visit?_of_visits hvisits _).trans hv) hfree
  rw [State.sent_outcome hq he hbefore houtcome]
  refine ⟨w, ?_, (State.visit?_of_visits (by simp) _).trans hw, hplace,
    hfresh.congr ⟨hclock, hbooking, hcapacity, hyard, hdegraded⟩ (by simp)⟩
  rw [State.offerOutcome_outcome]
  exact hreserved.trans (by rw [hrecords])

end

/-- Settles O60. -/
theorem sendingFollowsTheQueue : Obligations.SendingFollowsTheQueue := by
  refine ⟨fun s => ⟨fun e es hq halive hnone => ?_, fun h => congrArg _ (State.beginSending_idle h)⟩,
    fun s stopFault bytes => ⟨fun h => congrArg _ (State.loseContention_eq stopFault bytes h), fun w h hw => ?_,
      fun h => ⟨congrArg _ (State.loseContention_idle stopFault bytes h), congrArg _ (State.sent_idle h)⟩⟩,
    fun s before after e hq he hbefore hsound => ?_⟩
  · exact congrArg _ (State.beginSending_starts hq halive (by rwa [hq]))
  · have hexec : exec (.contentionLost stopFault bytes) s = .next (w.receive stopFault bytes) := by
      rw [hw]
      exact congrArg _ (State.loseContention_eq stopFault bytes h)
    obtain ⟨hkept, hgained⟩ := State.queueGrows.receive stopFault bytes w
    have halive : w.alive = s.alive := by rw [hw]; rfl
    have hlane : w.laneId = s.laneId := by rw [hw]; rfl
    rw [hexec]
    refine ⟨fun hdead => congrArg _ (State.receive_dead (halive.trans hdead)),
      fun hlive hbytes => congrArg _ (State.receive_damaged (halive.trans hlive) hbytes),
      fun f hlive hbytes hown hzero hoffice hall hother => congrArg _ (State.receive_peerElsewhere (halive.trans hlive)
        hbytes (hlane ▸ hown) hzero hoffice hall (hlane ▸ hother)),
      _, rfl, ?_, fun x hx => hkept _ ?_, fun x hx => (hgained x hx).elim (fun hx => ?_) id⟩
    · exact (State.receive_eq stopFault bytes w).trans (by rw [hw])
    · rw [hw]
      exact List.mem_map_of_mem hx
    · rw [hw] at hx
      obtain ⟨y, -, rfl⟩ := List.mem_map.mp hx
      rfl
  · have hexec : exec .frameSent s = .next s.sent := by rfl
    have hdrained (h : s.bus.outboxes = []) :
        (s.frameOut e (before ++ after)).drainOutbox = s.frameOut e (before ++ after) := State.drainOutbox_nil h
    have hroom : (before ++ after).length < 8 := by
      have hlength := hsound.1
      simp only [hq, List.length_append, List.length_cons] at hlength ⊢
      omega
    rw [hexec]
    refine ⟨fun r rs houtcome hstatus hfilled hempty => ?_, fun r₀ r rs houtcome hfilled hempty hnobody hdegraded hfree =>
      ⟨_, rfl, State.sent_outcome_offers hq he hbefore houtcome hfilled hempty hnobody hdegraded hfree⟩,
      fun houtcome hstatus hfilled => ⟨fun hempty => ?_, fun x xs hboxes => ?_⟩,
      fun houtcome => ⟨_, rfl, State.sent_outcome_frees hq he hbefore houtcome⟩,
      fun v houtcome hplaces hfilled hold hv => ?_, fun hstatus hfilled hempty => ⟨fun hdue => ?_, fun hdue => ?_⟩⟩
    · rw [State.sent_other hq he hbefore houtcome hstatus, hdrained hempty]
      refine ⟨fun hdegraded hoffered hfree => ?_, fun hwaits => ?_⟩
      · exact congrArg Host.Outcome.next (State.offerOutcome_offers hfilled hdegraded hoffered hfree)
      · exact congrArg Host.Outcome.next (State.offerOutcome_waits (.inr hwaits))
    · rw [State.sent_other hq he hbefore houtcome hstatus, hdrained hempty]
      exact congrArg Host.Outcome.next (State.offerOutcome_waits (.inl hfilled))
    · rw [State.sent_other hq he hbefore houtcome hstatus,
        State.drainOutbox_cons (s := s.frameOut e (before ++ after)) hboxes hroom]
      exact congrArg Host.Outcome.next (State.offerOutcome_waits (.inl hfilled))
    · obtain ⟨w, hreserved, hw, hplace, hfresh⟩ :=
        State.sent_outcome_reserves hq he hbefore houtcome hplaces hfilled hold hv
      exact ⟨_, w, rfl, hreserved, (State.sent_outcome_frees hq he hbefore houtcome).1, hw, hplace, hfresh⟩
    · rw [State.sent_eq hq he hbefore, hdrained hempty, State.ownerTold_status hstatus,
        if_neg (by simp [State.frameOut, hdue])]
      exact congrArg Host.Outcome.next (State.offerOutcome_waits (.inl hfilled))
    · rw [State.sent_eq hq he hbefore, hdrained hempty, State.ownerTold_status hstatus,
        if_pos (by simp [State.frameOut, hdue]),
        State.handStatus_room (s := (s.frameOut e (before ++ after)).setStatusDue false) hroom]
      exact congrArg Host.Outcome.next (State.offerOutcome_waits (.inl hfilled))

end Sys2Proof.Machine
end

section
/-! Rules about the clerk's decisions: whom RELEASE and REFUSE name, the holds overridden with the unit granted, and the stops
and the message of the verdict (R36 to R40, R87, R134 to R141). -/

namespace Sys2Proof.Machine

/-! ### Whom a clerk frame names (R36, R39) -/

section
variable {s : State} {n : VisitNumber} {v : Visit}

section
variable {f : RxFrame} {rest : List RxFrame}

theorem State.exec_releaseFrame (hf : takeFirst .release s.bus.rx = some (f, rest)) :
    exec .releaseFrame s = .next ((s.handedOn f rest).clerkFrame State.takeRelease f.payload) :=
  congrArg _ (State.onFrame_taken hf)

theorem State.exec_refuseFrame (hf : takeFirst .refuse s.bus.rx = some (f, rest)) :
    exec .refuseFrame s = .next ((s.handedOn f rest).clerkFrame State.takeRefuse f.payload) :=
  congrArg _ (State.onFrame_taken hf)

end

section
variable {act : VisitNumber → State → State} {payload : List Byte} {lane : Byte}

theorem State.clerkFrame_thisLane (h : clerkForm payload = some (lane, n)) (hlane : lane.toNat = s.laneId.toNat) :
    s.clerkFrame act payload = act n s := by
  unfold State.clerkFrame
  rw [h]
  exact if_pos hlane

theorem State.clerkFrame_otherLane (h : clerkForm payload = some (lane, n)) (hlane : lane.toNat ≠ s.laneId.toNat) :
    s.clerkFrame act payload = s.count .framesIgnored := by
  unfold State.clerkFrame
  rw [h]
  exact if_neg hlane

end

/-- The visit `n` is unknown, or waits for no clerk. -/
def State.notForClerk (s : State) (n : VisitNumber) : Prop :=
  s.visit? n = none ∨ ∃ v, s.visit? n = some v ∧ v.isClerkHold = false ∧ v.state ≠ .parked

theorem State.takeRelease_ignored (h : s.notForClerk n) : s.takeRelease n = s.count .framesIgnored := by
  unfold State.takeRelease
  rcases h with h | ⟨v, h, hhold, hparked⟩
  · rw [h]
  · rw [h]
    dsimp only
    rw [if_neg (by simp [hhold]), if_neg hparked]

theorem State.takeRefuse_ignored (h : s.notForClerk n) : s.takeRefuse n = s.count .framesIgnored := by
  unfold State.takeRefuse
  rcases h with h | ⟨v, h, hhold, hparked⟩
  · rw [h]
  · rw [h]
    dsimp only
    rw [if_neg (by simp [hhold]), if_neg hparked]

theorem State.takeRelease_hold (hv : s.visit? n = some v) (hhold : v.isClerkHold = true) :
    s.takeRelease n = (s.overrideVisit v).giveVerdict n v.admission := by
  unfold State.takeRelease
  rw [hv]
  exact if_pos hhold

theorem State.takeRefuse_hold (hv : s.visit? n = some v) (hhold : v.isClerkHold = true) :
    s.takeRefuse n = s.refuseVisit n := by
  unfold State.takeRefuse
  rw [hv]
  exact if_pos hhold

theorem Visit.not_isClerkHold_of_parked (h : v.state = .parked) : v.isClerkHold = false := by
  simp [Visit.isClerkHold, h]

theorem State.takeRelease_parked (hv : s.visit? n = some v) (hparked : v.state = .parked) : s.takeRelease n =
    (((s.overrideVisit v).giveParkedAdmission n v.admission).closeVisit n).retakeDeferred := by
  unfold State.takeRelease
  rw [hv]
  dsimp only
  rw [if_neg (by simp [Visit.not_isClerkHold_of_parked hparked]), if_pos hparked]

theorem State.takeRefuse_parked (hv : s.visit? n = some v) (hparked : v.state = .parked) :
    s.takeRefuse n = ((s.writeVerdict n .refuse).closeVisit n).retakeDeferred := by
  unfold State.takeRefuse
  rw [hv]
  dsimp only
  rw [if_neg (by simp [Visit.not_isClerkHold_of_parked hparked]), if_pos hparked]

/-! ### The holds overridden and the unit granted (R37, R38, R87) -/

/-- The record of a visit with its holds overridden by the clerk, and with the unit of `src` where one is granted. -/
def Visit.overriddenWith (src : Option FlexSource) (v : Visit) : Visit :=
  { v.overrideHolds with clerkOverride := true, flex := src.getD v.flex }

theorem mem_foldl_addOnce {r : Reason} (rs acc : List Reason) :
    r ∈ rs.foldl (fun l r => addOnce r l) acc ↔ r ∈ acc ∨ r ∈ rs := by
  have hadd (x : Reason) (l : List Reason) : r ∈ addOnce x l ↔ r ∈ l ∨ r = x := by
    unfold addOnce
    split
    next hx => exact ⟨.inl, fun h => h.elim id fun e => e ▸ hx⟩
    next => simp
  induction rs generalizing acc with
  | nil => simp
  | cons x xs ih => exact (ih (addOnce x acc)).trans (by rw [hadd, List.mem_cons, or_assoc])

theorem Visit.mem_overridden (r : Reason) (src : Option FlexSource) (v : Visit) :
    r ∈ (v.overriddenWith src).overridden ↔ r ∈ v.overridden ∨ (r ∈ v.active ∧ r.isHold = true) :=
  (mem_foldl_addOnce _ v.overridden).trans (by rw [List.mem_filter])

/-- The unit that a clerk's RELEASE grants to a visit whose arrival needs one (R87). -/
def State.unitGranted (s : State) (v : Visit) : Option FlexSource :=
  if v.needsFlex then some (if 0 < s.spare then .own else .forced) else none

/-- The account once a clerk's RELEASE has taken a unit of the spare for a visit whose arrival needs one (R87). -/
def State.unitTaken (s : State) (v : Visit) : State := if v.needsFlex = true ∧ 0 < s.spare then s.useUnit else s

theorem State.unitTaken_visits (v : Visit) (s : State) : (s.unitTaken v).visits = s.visits := by
  unfold State.unitTaken
  split <;> rfl

theorem State.forcedGrant_spare (h : 0 < s.spare) :
    s.forcedGrant n = s.useUnit.updVisit n fun w => { w with flex := .own } := if_pos h

theorem State.forcedGrant_noSpare (h : ¬ 0 < s.spare) : s.forcedGrant n = s.updVisit n fun w => { w with flex := .forced } :=
  if_neg h

theorem State.overrideVisit_eq (v : Visit) (s : State) :
    s.overrideVisit v = (s.unitTaken v).updVisit v.number (Visit.overriddenWith (s.unitGranted v)) := by
  have htwice (u : State) (src : FlexSource) :
      (u.updVisit v.number (Visit.overriddenWith none)).updVisit v.number (fun w => { w with flex := src }) =
        u.updVisit v.number (Visit.overriddenWith (some src)) := State.updVisit_updVisit fun _ => rfl
  have hgrant : s.overrideVisit v = if v.needsFlex
      then (s.updVisit v.number (Visit.overriddenWith none)).forcedGrant v.number
      else s.updVisit v.number (Visit.overriddenWith none) := by rfl
  rw [hgrant]
  unfold State.unitGranted State.unitTaken
  by_cases hflex : v.needsFlex = true
  · rw [if_pos hflex, if_pos hflex]
    by_cases hspare : 0 < s.spare
    · rw [if_pos hspare, if_pos ⟨hflex, hspare⟩,
        State.forcedGrant_spare (s := s.updVisit v.number (Visit.overriddenWith none)) hspare]
      exact htwice s.useUnit .own
    · rw [if_neg hspare, if_neg fun h => hspare h.2,
        State.forcedGrant_noSpare (s := s.updVisit v.number (Visit.overriddenWith none)) hspare]
      exact htwice s .forced
  · rw [if_neg hflex, if_neg hflex, if_neg fun h => hflex h.1]

theorem State.overrideVisit_visits (v : Visit) (s : State) :
    (s.overrideVisit v).visits = (s.updVisit v.number (Visit.overriddenWith (s.unitGranted v))).visits := by
  rw [State.overrideVisit_eq, State.updVisit_visits, State.updVisit_visits, State.unitTaken_visits]

theorem State.overrideVisit_visit (hv : s.visit? n = some v) :
    (s.overrideVisit v).visit? n = some (v.overriddenWith (s.unitGranted v)) := by
  rw [State.visit?_of_visits (State.overrideVisit_visits v s), State.visit?_number hv]
  exact State.updVisit_visit (fun _ => rfl) hv

theorem State.overrideVisit_other {m : VisitNumber} (hm : m ≠ v.number) : (s.overrideVisit v).visit? m = s.visit? m :=
  (State.visit?_of_visits (State.overrideVisit_visits v s) m).trans (State.visit?_updVisit_ne hm fun _ => rfl)

/-! ### A verdict on a visit that stays where it stands -/

/-- The record of a visit with the verdict `vd` written and routed at `p`, in the state `st`. -/
def Visit.decided (vd : Verdict) (p : GatePoint) (stops : List Text) (st : SlotState) (v : Visit) : Visit :=
  { v.judged vd p stops with state := st }

section
variable {vd : Verdict}

theorem State.giveParkedAdmission_eq (hv : s.visit? n = some v) : s.giveParkedAdmission n vd =
    ((s.writeVerdict n vd).routeVerdict v vd).2.updVisit n
      (fun w => { w with stops := ((s.writeVerdict n vd).routeVerdict v vd).1 }) := by
  unfold State.giveParkedAdmission
  rw [hv]

theorem State.giveParkedAdmission_visits (hv : s.visit? n = some v) : (s.giveParkedAdmission n vd).visits =
    (s.updVisit n fun w => w.decided vd s.point (routeOf v vd s.yard.blocks).1 w.state).visits := by
  rw [State.giveParkedAdmission_eq hv, (State.routeVerdict_table v vd (s.writeVerdict n vd)).1]
  simp only [State.updVisit_visits, State.routeVerdict_frame, State.writeVerdict]
  rw [updNumbered_updNumbered, updNumbered_updNumbered]
  · rfl
  all_goals exact fun _ => rfl

theorem State.giveParkedAdmission_yard (hv : s.visit? n = some v) :
    (s.giveParkedAdmission n vd).yard = { s.yard with blocks := (routeOf v vd s.yard.blocks).2 } := by
  rw [State.giveParkedAdmission_eq hv]
  exact (State.routeVerdict_table v vd (s.writeVerdict n vd)).2

theorem State.onlyReports.giveParkedAdmission {r : State} (h : r.onlyReports s) :
    r.onlyReports (s.giveParkedAdmission n vd) := by
  unfold State.giveParkedAdmission
  split
  · exact h
  · exact State.onlyReports.updVisit (State.onlyReports.routeVerdict (h.of_same (by simp) (by simp) (by simp)))

theorem State.giveParkedAdmission_notes {w : Window} (hv : s.visit? n = some v) (hw : s.yard.window = some w)
    (hroom : s.bus.txQueue.length + v.drops.length ≤ 8) :
    ∀ x ∈ (routeByTable v.drops s.yard.blocks).1,
      ∃ e ∈ (s.giveParkedAdmission n .admitted).bus.txQueue, e.frame = .blockNote x w := by
  rw [State.giveParkedAdmission_eq hv]
  exact routeDrops_notes (s := s.writeVerdict n .admitted) hw hroom

end

/-! ### The record after a RELEASE (R37, R38, R134 to R138) -/

/-- The record of `v` after a RELEASE in `s`, in the slot state `st`. -/
def State.releasedRecord (s : State) (v : Visit) (st : SlotState) : Visit :=
  (v.overriddenWith (s.unitGranted v)).decided v.admission s.point (routeOf v v.admission s.yard.blocks).1 st

@[simp] theorem Visit.overriddenWith_drops (src : Option FlexSource) (v : Visit) : (v.overriddenWith src).drops = v.drops := by
  rfl

@[simp] theorem routeOf_overriddenWith (src : Option FlexSource) (v : Visit) (vd : Verdict) (bs : List BlockEntry) :
    routeOf (v.overriddenWith src) vd bs = routeOf v vd bs := by rfl

/-- The BLOCK_NOTEs of the drop moves of `v` are in the Transmit Queue of `t`, where that of `s` has room for them. -/
def State.dropsNoted (s t : State) (v : Visit) : Prop :=
  ∀ win, s.yard.window = some win → s.bus.txQueue.length + v.drops.length ≤ 8 →
    ∀ x ∈ (routeByTable v.drops s.yard.blocks).1, ∃ e ∈ t.bus.txQueue, e.frame = .blockNote x win

theorem State.unitTaken_capacity {q : Quota} (hflex : v.needsFlex = true) (hq : s.capacity.quota = some q)
    (hspare : q.lent + q.used < q.share + q.borrowed) :
    (s.unitTaken v).capacity = { s.capacity with quota := some { q with used := q.used + 1 } } := by
  have h : 0 < s.spare := by
    rw [State.spare_eq hq]
    omega
  unfold State.unitTaken State.useUnit State.updQuota
  rw [if_pos ⟨hflex, h⟩, hq]
  rfl

theorem State.spare_zero (h : ∀ q, s.capacity.quota = some q → q.share + q.borrowed ≤ q.lent + q.used) :
    ¬ 0 < s.spare := by
  cases hq : s.capacity.quota with
  | none => simp [State.spare, hq]
  | some q =>
    have hle := h q hq
    rw [State.spare_eq hq]
    omega

/-- What a RELEASE writes into the record, into the account, and into the Block Table. -/
theorem State.releaseWritten_of {t : State} {st : SlotState} (hcapacity : t.capacity = (s.unitTaken v).capacity)
    (hblocks : t.yard.blocks = (routeOf v v.admission s.yard.blocks).2)
    (hnotes : v.needsInspection = false → s.dropsNoted t v) : s.releaseWritten t v (s.releasedRecord v st) := by
  have hflexed : (s.releasedRecord v st).flex = (s.unitGranted v).getD v.flex := rfl
  have hstops : (s.releasedRecord v st).stops = (routeOf v v.admission s.yard.blocks).1 := rfl
  refine ⟨rfl, fun r => Visit.mem_overridden r (s.unitGranted v) v, fun hflex => ?_,
    fun hflex => ⟨fun q hq hspare => ?_, fun hspare => ?_⟩, fun hno => ?_, fun hyes => ?_⟩
  · rw [hflexed, hcapacity, State.unitGranted, State.unitTaken, if_neg (by simp [hflex]), if_neg (by simp [hflex])]
    exact ⟨rfl, rfl⟩
  · have hpos : 0 < s.spare := by
      rw [State.spare_eq hq]
      omega
    rw [hflexed, hcapacity, State.unitTaken_capacity hflex hq hspare, State.unitGranted, if_pos hflex, if_pos hpos]
    exact ⟨rfl, rfl⟩
  · have hzero : ¬ 0 < s.spare := State.spare_zero hspare
    rw [hflexed, hcapacity, State.unitGranted, State.unitTaken, if_pos hflex, if_neg hzero, if_neg fun h => hzero h.2]
    exact ⟨rfl, rfl⟩
  · rw [hstops, hblocks, show v.admission = .admitted from if_neg (by simp [hno])]
    exact ⟨rfl, rfl, hnotes hno⟩
  · rw [hstops, hblocks, show v.admission = .admitInspect from if_pos hyes]
    exact ⟨rfl, rfl⟩

/-! ### The message of a verdict (R32, R141) -/

section
variable {t : State} {m : Message} {vd : Verdict}

theorem State.messagePlaced.congr {s' t' : State} (h : s'.messagePlaced t' n m)
    (hs : s'.yard.queue = s.yard.queue ∧ s'.yard.held = s.yard.held)
    (ht : t'.yard.queue = t.yard.queue ∧ t'.yard.held = t.yard.held) : s.messagePlaced t n m := by
  obtain ⟨hqueue, hheld⟩ := hs
  obtain ⟨hqueue', hheld'⟩ := ht
  unfold State.messagePlaced at h ⊢
  rwa [hqueue, hheld, hqueue', hheld'] at h

/-- The state in which the message of a verdict is placed: the verdict written and routed. -/
def State.verdictRouted (n : VisitNumber) (v : Visit) (vd : Verdict) (s : State) : State :=
  ((s.writeVerdict n vd).routeVerdict v vd).2.updVisit n fun w => { w with stops := (routeOf v vd s.yard.blocks).1 }

theorem State.verdictRouted_yard (n : VisitNumber) (v : Visit) (vd : Verdict) (s : State) :
    (s.verdictRouted n v vd).yard = { s.yard with blocks := (routeOf v vd s.yard.blocks).2 } :=
  (State.routeVerdict_table v vd (s.writeVerdict n vd)).2

theorem State.giveVerdict_yard (hv : s.visit? n = some v) : (s.giveVerdict n vd).yard =
    ((s.verdictRouted n v vd).placeVisitMessage (verdictMessage n vd (routeOf v vd s.yard.blocks).1)).yard := by
  rw [State.giveVerdict_eq hv, (State.routeVerdict_table v vd (s.writeVerdict n vd)).1]
  simp only [State.reportHolds_frame]
  rfl

theorem State.giveVerdict_placed (hv : s.visit? n = some v) :
    s.messagePlaced (s.giveVerdict n vd) n (verdictMessage n vd (routeOf v vd s.yard.blocks).1) := by
  refine (State.placeVisitMessage_placed _ n (s.verdictRouted n v vd) (verdictMessage_visit n vd _)).congr ?_ ?_
  · rw [State.verdictRouted_yard]
    exact ⟨rfl, rfl⟩
  · rw [State.giveVerdict_yard hv]
    exact ⟨rfl, rfl⟩

end

/-! ### A clerk hold released (R37) -/

theorem State.release_hold_visit (hv : s.visit? n = some v) :
    ((s.overrideVisit v).giveVerdict n v.admission).visit? n = some (s.releasedRecord v .exiting) := by
  rw [State.giveVerdict_visit (State.overrideVisit_visit hv)]
  simp only [State.overrideVisit_frame, State.point, routeOf_overriddenWith]
  rfl

theorem State.release_hold_written (hv : s.visit? n = some v) :
    s.releaseWritten ((s.overrideVisit v).giveVerdict n v.admission) v (s.releasedRecord v .exiting) := by
  have hover := State.overrideVisit_visit hv
  refine State.releaseWritten_of ?_ ?_ fun hno win hwin hroom => ?_
  · simp [State.overrideVisit_eq]
  · rw [(State.giveVerdict_blocks hover).1]
    simp
  · rw [show v.admission = .admitted from if_neg (by simp [hno])]
    have hnotes := State.giveVerdict_notes (w := win) hover (by simpa using hwin) (by simpa using hroom)
    simpa using hnotes

theorem State.release_hold_placed (hv : s.visit? n = some v) :
    s.messagePlaced ((s.overrideVisit v).giveVerdict n v.admission) n
      (verdictMessage n v.admission (s.releasedRecord v .exiting).stops) := by
  have hplaced := State.giveVerdict_placed (vd := v.admission) (State.overrideVisit_visit hv)
  simp only [State.overrideVisit_frame, routeOf_overriddenWith] at hplaced
  exact hplaced.congr (by simp) ⟨rfl, rfl⟩

/-! ### A clerk hold refused (R40) -/

theorem State.refuseVisit_visit (hv : s.visit? n = some v) :
    ∃ held, (s.refuseVisit n).visit? n = some { v.judged .refuse s.point [] with claimHeld := held } := by
  have hgiven : (s.giveVerdict n .refuse).visit? n = some (v.judged .refuse s.point []) := State.giveVerdict_visit hv
  rw [State.refuseVisit_eq hv]
  split
  · cases href : v.ref with
    | none =>
      rw [State.endClaim_none hgiven href]
      exact ⟨_, hgiven⟩
    | some ref =>
      refine ⟨false, (State.visit?_of_visits (State.endClaim_spec hgiven href).1 n).trans ?_⟩
      exact State.updVisit_visit (fun _ => rfl) hgiven
  · exact ⟨_, hgiven⟩

end

end Sys2Proof.Machine
end

section
/-! Rules about a parked visit on which the clerk has decided: it closes, and its parked place goes to the oldest deferred
timeout (R36, R38, R40, R43). -/

namespace Sys2Proof.Machine

/-! ### What the routing of a visit leaves of the Block Table -/

/-- The identifier of the lowest-numbered block of a kind. -/
def blockOf (k : BlockKind) (bs : List BlockEntry) : Option Text := (bs.find? (fun e => e.kind == k)).map (·.ident)

theorem routeOf_park (v : Visit) (bs : List BlockEntry) : routeOf v .park bs = ((blockOf .buffer bs).toList, bs) := by rfl

section
variable (k : BlockKind)

theorem blockOf_bumpBlock (x : Text) (bs : List BlockEntry) : blockOf k (bumpBlock x bs) = blockOf k bs := by
  induction bs with
  | nil => rfl
  | cons e es ih =>
    have hkept : ∀ e' : BlockEntry, e'.kind = e.kind → e'.ident = e.ident →
        blockOf k (e' :: bumpBlock x es) = blockOf k (e :: es) := by
      intro e' hkind hident
      unfold blockOf at ih ⊢
      rw [List.find?_cons, List.find?_cons, hkind]
      split
      · exact congrArg some hident
      · exact ih
    show blockOf k ((if e.ident = x ∧ e.kind = .stack then _ else e) :: bumpBlock x es) = _
    split
    · exact hkept _ rfl rfl
    · exact hkept _ rfl rfl

theorem blockOf_routeByTable (ms : List Move) (bs : List BlockEntry) :
    blockOf k (routeByTable ms bs).2 = blockOf k bs := by
  induction ms generalizing bs with
  | nil => rfl
  | cons m ms ih =>
    cases h : m.blocks.find? (fun x => bs.any fun e => decide (e.ident = x ∧ e.kind = .stack ∧ e.count < e.cap)) with
    | some x =>
      rw [routeByTable_some h]
      exact (ih _).trans (blockOf_bumpBlock k x bs)
    | none =>
      rw [routeByTable_none h]
      exact ih bs

theorem blockOf_routeOf (v : Visit) (vd : Verdict) (bs : List BlockEntry) :
    blockOf k (routeOf v vd bs).2 = blockOf k bs := by
  cases vd
  case admitted => exact blockOf_routeByTable k v.drops bs
  all_goals rfl

end

/-! ### A frame that is not of class 2 stays (R167) -/

section
variable {s : State} {e : TxEntry}

theorem displaceYoungest_keeps {q rest : List TxEntry} {g : TxFrame} (h : displaceYoungest q = some (g, rest)) (he : e ∈ q)
    (hcls : e.frame.cls ≠ 2) : e ∈ rest := by
  induction q generalizing rest with
  | nil => cases he
  | cons x xs ih =>
    unfold displaceYoungest at h
    split at h
    next f left hleft =>
      cases h
      rcases List.mem_cons.mp he with rfl | he
      · exact List.mem_cons_self
      · exact List.mem_cons_of_mem x (ih hleft he)
    next =>
      split at h
      next hx =>
        cases h
        rcases List.mem_cons.mp he with rfl | he
        · simp [hcls] at hx
        · exact he
      next => cases h

theorem State.handClass0_keeps (o : OutboxOwner) (f : TxFrame) (he : e ∈ s.bus.txQueue) (hcls : e.frame.cls ≠ 2) :
    e ∈ (s.handClass0 o f).bus.txQueue := by
  have hdisplaced (g f' : TxFrame) (u : State) (hu : ∃ q, displaceYoungest s.bus.txQueue = some (g, q) ∧
      u.bus.txQueue = withFrame f' q) : e ∈ (u.displaced g).bus.txQueue := by
    obtain ⟨q, hq, hqueue⟩ := hu
    refine (State.onlyReports.displaced (State.onlyReports.refl u)).2.1 e ?_
    rw [hqueue]
    exact (mem_insertFrame _ e q).mpr (.inr (displaceYoungest_keeps hq he hcls))
  unfold State.handClass0
  split
  · exact (mem_insertFrame _ e _).mpr (.inr he)
  · split
    next g q hq _ => exact hdisplaced g _ _ ⟨q, hq, rfl⟩
    next g q _ hq _ => exact hdisplaced g _ _ ⟨q, hq, rfl⟩
    · exact he
    · exact he

theorem State.endClaim_keeps (n : VisitNumber) (r : ClaimResult) (he : e ∈ s.bus.txQueue) (hcls : e.frame.cls ≠ 2) :
    e ∈ (s.endClaim n r).bus.txQueue := by
  unfold State.endClaim
  repeat' split
  · exact he
  · exact he
  · exact State.handClass0_keeps _ _ he hcls

end

/-! ### The record of a visit closed (R43, R79) -/

section
variable {s : State} {n : VisitNumber} {v : Visit}

theorem State.recordClosed_held (h : v.claimHeld = true) : s.recordClosed v =
    (s.fillPlace (v.closing s.point)).endClaim v.number
      (if v.verdict = .admitted ∨ v.verdict = .admitInspect then .used else .released) := if_pos h

theorem State.recordClosed_unheld (h : v.claimHeld = false) : s.recordClosed v = s.fillPlace (v.closing s.point) :=
  if_neg (by simp [Visit.closing, h])

theorem State.recordClosed_frame (v : Visit) (s : State) :
    (s.recordClosed v).clock = s.clock ∧ (s.recordClosed v).reader = s.reader ∧
      (s.recordClosed v).capacity = s.capacity ∧ (s.recordClosed v).yard = s.yard ∧
      (s.recordClosed v).out = s.out := by simp [State.recordClosed]

theorem State.recordClosed_records (hplace : v.number ∈ s.outcome.reserved) :
    (s.recordClosed v).outcome.reserved = s.outcome.reserved.erase v.number ∧
      (s.recordClosed v).outcome.filled = s.outcome.filled ++ [(v.closing s.point).record s.laneId] := by
  obtain ⟨hreserved, hfilled⟩ := State.fillPlace_records (v.closing s.point) s hplace
  cases hclaim : v.claimHeld with
  | false =>
    rw [State.recordClosed_unheld hclaim]
    exact ⟨hreserved, hfilled⟩
  | true =>
    rw [State.recordClosed_held hclaim]
    obtain ⟨hreserved', hfilled', -⟩ := State.endClaim_records v.number
      (if v.verdict = .admitted ∨ v.verdict = .admitInspect then .used else .released) (s.fillPlace (v.closing s.point))
    exact ⟨hreserved'.trans hreserved, hfilled'.trans hfilled⟩

theorem State.recordClosed_keeps {e : TxEntry} (he : e ∈ s.bus.txQueue) (hcls : e.frame.cls ≠ 2) :
    e ∈ (s.recordClosed v).bus.txQueue := by
  have hfilled : e ∈ (s.fillPlace (v.closing s.point)).bus.txQueue := by
    unfold State.fillPlace
    split
    · exact (State.onlyReports.offerOutcome (State.onlyReports.refl _)).2.1 e he
    · exact he
  unfold State.recordClosed State.endClaimAtClose
  split
  · exact State.endClaim_keeps _ _ hfilled hcls
  · exact hfilled

/-- The claim of a closed record has ended: USED for an admission, RELEASED otherwise. -/
theorem State.recordClosed_claim (hv : s.visit? n = some v) {ref : Text} {r : ClaimResult} (hclaim : v.claimHeld = true)
    (href : v.ref = some ref) (hr : r = if v.verdict = .admitted ∨ v.verdict = .admitInspect then .used else .released) :
    (s.recordClosed v).booking = { s.booking with table := s.claimEnded n ref r.state } ∧
      (s.outbox? .bookingStore = none → (s.recordClosed v).holdsFrame (.claimEnd ref r)) := by
  have hv' : (s.fillPlace (v.closing s.point)).visit? n = some v := (State.visit?_of_visits (by simp) n).trans hv
  obtain ⟨-, hbooking, hframe⟩ := State.endClaim_spec (r := r) hv' href
  rw [State.recordClosed_held hclaim, ← hr, State.visit?_number hv, hbooking,
    State.claimEnded_congr (s := s) (by simp) (by simp)]
  exact ⟨by simp, fun h => hframe ((State.fillPlace_outbox _ s _).trans h)⟩

/-! ### A parked visit closes (R38, R40, R43) -/

/-- No visit of the lane queue has the number `n`. -/
def State.offLane (s : State) (n : VisitNumber) : Prop := s.visits.laneQueue.any (fun w => w.number == n) = false

theorem updNumbered_absent {f : Visit → Visit} {vs : List Visit} (h : vs.any (fun w => w.number == n) = false) :
    updNumbered n f vs = vs := by
  refine (List.map_congr_left fun w hw => if_neg fun e => ?_).trans (List.map_id vs)
  simpa [e] using List.any_eq_false.mp h w hw

theorem State.offLane.parked (h : s.offLane n) (hv : s.visit? n = some v) : n ∈ s.visits.parked.map (·.number) := by
  have hnone : s.visits.laneQueue.find? (fun w => w.number == n) = none :=
    List.find?_eq_none.mpr (List.any_eq_false.mp h)
  unfold State.visit? State.allVisits at hv
  rw [List.find?_append, hnone, Option.none_or] at hv
  exact List.mem_map.mpr ⟨v, List.mem_of_find?_eq_some hv, by simpa using List.find?_some hv⟩

/-- Off the lane queue, what is left at the close of a record: the claim-held flag cleared may touch a parked visit alone. -/
theorem State.recordClosed_lane (h : s.offLane v.number) (hv : s.visit? v.number = some v) :
    (s.recordClosed v).visits.laneQueue = s.visits.laneQueue := by
  have hfilled : (s.fillPlace (v.closing s.point)).visits = s.visits := by simp
  cases hclaim : v.claimHeld with
  | false => rw [State.recordClosed_unheld hclaim, hfilled]
  | true =>
    have hv' : (s.fillPlace (v.closing s.point)).visit? v.number = some v := (State.visit?_of_visits hfilled _).trans hv
    rw [State.recordClosed_held hclaim]
    cases href : v.ref with
    | none => rw [State.endClaim_none hv' href, hfilled]
    | some ref =>
      rw [(State.endClaim_spec hv' href).1, State.updVisit_visits, hfilled]
      exact updNumbered_absent h

theorem State.closeVisit_parked (h : s.offLane n) (hv : s.visit? n = some v) :
    s.closeVisit n = ((s.recordClosed v).freeSlot n).reportHolds := by
  unfold State.closeVisit
  rw [hv]
  dsimp only
  rw [if_neg (by rw [h]; simp)]
  rfl

theorem State.freeSlot_parked (h : s.offLane n) : (s.freeSlot n).visits =
    { s.visits with parked := s.visits.parked.eraseP (fun v => v.number == n) } := by
  unfold State.freeSlot
  rw [if_neg (by rw [h]; simp)]

theorem State.closeVisit_parked_visits (h : s.offLane n) (hv : s.visit? n = some v) :
    (s.closeVisit n).visits.laneQueue = s.visits.laneQueue ∧
      (s.closeVisit n).visits.parked.map (·.number) = (s.visits.parked.map (·.number)).erase n := by
  have hnumber := State.visit?_number hv
  have hlane : (s.recordClosed v).visits.laneQueue = s.visits.laneQueue := by
    rw [← hnumber] at h hv
    exact State.recordClosed_lane h hv
  have hroster := State.recordClosed_roster v s
  simp only [VisitEngine.roster, Prod.mk.injEq] at hroster
  obtain ⟨-, -, hparked, -⟩ := hroster
  have hoff : (s.recordClosed v).offLane n := by
    unfold State.offLane
    rwa [hlane]
  rw [State.closeVisit_parked h hv, (State.reportHolds_frame _).2.2.2.1, State.freeSlot_parked hoff]
  exact ⟨hlane, (map_number_eraseP n _).trans (by rw [hparked])⟩

/-- What the close of a parked visit leaves, and what it does of the record. -/
theorem State.closeVisit_parked_leaves (h : s.offLane n) (hv : s.visit? n = some v) :
    (s.closeVisit n).booking = (s.recordClosed v).booking ∧ (s.closeVisit n).reader = s.reader ∧
      (s.closeVisit n).yard = s.yard ∧ (s.closeVisit n).out = s.out ∧
      (s.recordClosed v).onlyReports (s.closeVisit n) := by
  obtain ⟨-, hreader, -, hyard, hout⟩ := State.recordClosed_frame v s
  rw [State.closeVisit_parked h hv]
  refine ⟨by simp, by simp [hreader], by simp [hyard], by simp [hout], State.onlyReports.reportHolds ?_⟩
  exact (State.onlyReports.refl _).of_same (by simp) (by simp) (by simp)

/-! ### The parked place that has freed (R36) -/

theorem State.retakeDeferred_none (h : s.oldest? (fun v => v.isClerkHold && v.timeoutRun) = none) :
    s.retakeDeferred = s := by
  unfold State.retakeDeferred
  rw [h]

theorem State.retakeDeferred_some (h : s.oldest? (fun v => v.isClerkHold && v.timeoutRun) = some v) :
    s.retakeDeferred = if s.parkedRoom then s.giveVerdict v.number .park else s := by
  unfold State.retakeDeferred
  rw [h]

theorem State.onlyReports.retakeDeferred {r : State} (h : r.onlyReports s) : r.onlyReports s.retakeDeferred := by
  unfold State.retakeDeferred
  repeat' split
  · exact h.giveVerdict
  · exact h
  · exact h

theorem State.giveVerdict_park_blocks (n : VisitNumber) (s : State) :
    (s.giveVerdict n .park).yard.blocks = s.yard.blocks := by
  cases hv : s.visit? n with
  | none =>
    unfold State.giveVerdict
    rw [hv]
  | some v => exact (State.giveVerdict_blocks hv).1

theorem State.retakeDeferred_blocks (s : State) : s.retakeDeferred.yard.blocks = s.yard.blocks := by
  unfold State.retakeDeferred
  repeat' split
  · exact State.giveVerdict_park_blocks _ s
  · rfl
  · rfl

/-- A visit of the lane queue is looked up there alone. -/
theorem State.visit?_of_lane {t : State} (hlane : t.visits.laneQueue = s.visits.laneQueue)
    (hmem : v ∈ s.visits.laneQueue) : t.visit? v.number = s.visit? v.number := by
  unfold State.visit? State.allVisits
  rw [List.find?_append, List.find?_append, hlane]
  cases hfind : s.visits.laneQueue.find? (fun w => w.number == v.number) with
  | none => simpa using List.find?_eq_none.mp hfind v hmem
  | some w => rfl

/-- The state `c` is `s` with one parked place less in use, for what the freed place depends on. -/
structure State.oneParkedLess (s c : State) : Prop where
  lane : c.visits.laneQueue = s.visits.laneQueue
  parked : c.visits.parked.length + 1 = s.visits.parked.length
  clock : c.clock = s.clock
  reader : c.reader = s.reader
  out : c.out = s.out
  queue : c.yard.queue = s.yard.queue
  held : c.yard.held = s.yard.held
  buffer : blockOf .buffer c.yard.blocks = blockOf .buffer s.yard.blocks

theorem State.oneParkedLess.parkedRoom {c : State} (h : s.oneParkedLess c) (hroom : s.parkedInUse ≤ 4) :
    c.parkedRoom = true := by
  have hparked := h.parked
  unfold State.parkedRoom
  unfold State.parkedInUse at hroom ⊢
  rw [h.lane]
  exact decide_eq_true (by omega)

theorem State.oneParkedLess.retakeDeferred {c : State} (h : s.oneParkedLess c) : s.parkedPlaceFreed c.retakeDeferred := by
  have hlane := h.lane
  have hbuffer := h.buffer
  refine ⟨fun hnone => ?_, fun d hold hd hroom => ?_⟩
  · rw [State.retakeDeferred_none (by rw [State.oldest?, hlane]; exact hnone)]
    exact ⟨hlane, h.queue, h.held, h.reader, h.out⟩
  · have hmem : d ∈ s.visits.laneQueue := List.mem_of_find?_eq_some hold
    have hd' : c.visit? d.number = some d := (State.visit?_of_lane hlane hmem).trans hd
    have hgiven : c.retakeDeferred = c.giveVerdict d.number .park := by
      rw [State.retakeDeferred_some (by rw [State.oldest?, hlane]; exact hold), if_pos (h.parkedRoom hroom)]
    have hplaced := State.giveVerdict_placed (vd := .park) hd'
    have hvisit := State.giveVerdict_visit (vd := .park) hd'
    rw [routeOf_park, hbuffer] at hplaced hvisit
    rw [hgiven]
    refine ⟨⟨_, hvisit, ?_, hplaced.congr ⟨h.queue, h.held⟩ ⟨rfl, rfl⟩⟩, fun x hx hne => ?_⟩
    · rw [State.point, h.clock]
      rfl
    · rw [State.giveVerdict_visits hd', State.updVisit_visits, hlane]
      exact List.mem_map.mpr ⟨x, hx, if_neg hne⟩

/-! ### The clerk decides on a parked visit, and it closes -/

/-- From `s` to `d` the clerk has decided on the parked visit `n`, whose record is `w` after that: besides it, only the account,
the counts of the Block Table and the Transmit Queue may have changed. -/
structure State.decidedParked (s d : State) (n : VisitNumber) (w : Visit) : Prop where
  visit : d.visit? n = some w
  lane : d.visits.laneQueue = s.visits.laneQueue
  parked : d.visits.parked.map (·.number) = s.visits.parked.map (·.number)
  start : d.start = s.start
  clock : d.clock = s.clock
  reader : d.reader = s.reader
  booking : d.booking = s.booking
  out : d.out = s.out
  queue : d.yard.queue = s.yard.queue
  held : d.yard.held = s.yard.held
  buffer : blockOf .buffer d.yard.blocks = blockOf .buffer s.yard.blocks
  reports : s.onlyReports d

/-- From `s` to `t` the parked visit `n` has closed with the record `w`, its claim ended as `res`, and its parked place has
freed. -/
structure State.parkedClosed (s t : State) (n : VisitNumber) (w : Visit) (res : ClaimResult) : Prop where
  lane : t.visits.laneQueue.map (·.number) = s.visits.laneQueue.map (·.number)
  parked : t.visits.parked.map (·.number) = (s.visits.parked.map (·.number)).erase n
  reserved : t.outcome.reserved = s.outcome.reserved.erase n
  filled : t.outcome.filled = s.outcome.filled ++ [(w.closing s.point).record s.laneId]
  freed : s.parkedPlaceFreed t
  unclaimed : w.claimHeld = false → t.booking = s.booking
  claimed : ∀ ref, w.claimHeld = true → w.ref = some ref →
    t.booking = { s.booking with table := s.claimEnded n ref res.state } ∧
      (s.outbox? .bookingStore = none → t.holdsFrame (.claimEnd ref res))

section
variable {d : State} {w : Visit}

theorem State.decidedParked.offLane (h : s.decidedParked d n w) (hoff : s.offLane n) : d.offLane n := by
  unfold State.offLane
  rwa [h.lane]

theorem State.decidedParked.oneParkedLess (h : s.decidedParked d n w) (hoff : s.offLane n) :
    s.oneParkedLess (d.closeVisit n) := by
  have hoff' := h.offLane hoff
  have hin : n ∈ s.visits.parked.map (·.number) := by
    rw [← h.parked]
    exact hoff'.parked h.visit
  obtain ⟨hlane, hparked⟩ := State.closeVisit_parked_visits hoff' h.visit
  obtain ⟨-, hreader, hyard, hout, -⟩ := State.closeVisit_parked_leaves hoff' h.visit
  refine ⟨hlane.trans h.lane, ?_, by simp [h.clock], hreader.trans h.reader, hout.trans h.out, by rw [hyard, h.queue],
    by rw [hyard, h.held], by rw [hyard, h.buffer]⟩
  have hlength := congrArg List.length hparked
  rw [h.parked, List.length_erase_of_mem hin, List.length_map, List.length_map] at hlength
  have hpos : 0 < s.visits.parked.length := by simpa using List.length_pos_of_mem hin
  omega

/-- What follows the clerk's decision adds to the Transmit Queue, and to bookings only what the close does. -/
theorem State.decidedParked.closed (h : s.decidedParked d n w) (hoff : s.offLane n) :
    (d.closeVisit n).retakeDeferred.booking = (d.recordClosed w).booking ∧
      (d.recordClosed w).onlyReports (d.closeVisit n).retakeDeferred := by
  obtain ⟨hbooking, -, -, -, hreports⟩ := State.closeVisit_parked_leaves (h.offLane hoff) h.visit
  exact ⟨by rw [(State.retakeDeferred_frame _).2.2.2.1, hbooking], hreports.retakeDeferred⟩

theorem State.decidedParked.closes {res : ClaimResult} (h : s.decidedParked d n w) (hoff : s.offLane n)
    (hplace : n ∈ s.outcome.reserved)
    (hres : res = if w.verdict = .admitted ∨ w.verdict = .admitInspect then .used else .released) :
    s.parkedClosed (d.closeVisit n).retakeDeferred n w res := by
  have hnumber := State.visit?_number h.visit
  have hpoint : d.point = s.point := by simp [State.point, h.clock]
  have hlaneId : d.laneId = s.laneId := by simp [State.laneId, h.start]
  obtain ⟨hbooking, hrest⟩ := h.closed hoff
  obtain ⟨hlane, hparked⟩ := State.closeVisit_parked_visits (h.offLane hoff) h.visit
  have hroster := State.retakeDeferred_roster (d.closeVisit n)
  simp only [VisitEngine.roster, Prod.mk.injEq] at hroster
  obtain ⟨-, hlane', hparked', -⟩ := hroster
  obtain ⟨-, -, hreserved, hfilled⟩ := h.reports
  obtain ⟨hreserved', hfilled'⟩ := State.recordClosed_records (s := d) (v := w) (by rwa [hnumber, hreserved])
  rw [hnumber, hreserved] at hreserved'
  rw [hfilled, hpoint, hlaneId] at hfilled'
  refine ⟨hlane'.trans (by rw [hlane, h.lane]), hparked'.trans (by rw [hparked, h.parked]), hrest.2.2.1.trans hreserved',
    hrest.2.2.2.trans hfilled', (h.oneParkedLess hoff).retakeDeferred, fun hclaim => ?_, fun ref hclaim href => ?_⟩
  · rw [hbooking, State.recordClosed_unheld hclaim, (State.fillPlace_frame _ _).2.2.2.2.2.1, h.booking]
  · obtain ⟨hended, hframe⟩ := State.recordClosed_claim h.visit hclaim href hres
    rw [hbooking, hended, h.booking, State.claimEnded_congr h.booking h.start]
    exact ⟨rfl, fun hbox => hrest.holdsFrame (hframe ((h.reports.outbox? _).trans hbox))⟩

/-- What the close and the freed place leave of the account, the Block Table and the Transmit Queue. -/
theorem State.decidedParked.closes_leaves (h : s.decidedParked d n w) (hoff : s.offLane n) :
    (d.closeVisit n).retakeDeferred.capacity = d.capacity ∧ (d.closeVisit n).retakeDeferred.yard.blocks = d.yard.blocks ∧
      ∀ e ∈ d.bus.txQueue, e.frame.cls ≠ 2 → e ∈ (d.closeVisit n).retakeDeferred.bus.txQueue := by
  obtain ⟨-, -, hyard, -⟩ := State.closeVisit_parked_leaves (h.offLane hoff) h.visit
  obtain ⟨-, hrest⟩ := h.closed hoff
  exact ⟨by simp, by rw [State.retakeDeferred_blocks, hyard], fun e he hcls =>
    hrest.2.1 e (State.recordClosed_keeps he hcls)⟩

end

/-! ### The two decisions on a parked visit (R38, R40) -/

/-- The record of a parked visit that the clerk has refused. -/
def Visit.refusedParked (p : GatePoint) (v : Visit) : Visit :=
  { v with verdict := .refuse, verdictStamp := some p, timeoutRun := false }

theorem State.refused_decidedParked (hoff : s.offLane n) (hv : s.visit? n = some v) :
    s.decidedParked (s.writeVerdict n .refuse) n (v.refusedParked s.point) :=
  ⟨State.updVisit_visit (fun _ => rfl) hv, updNumbered_absent hoff, map_number_updNumbered fun _ => rfl,
    rfl, rfl, rfl, rfl, rfl, rfl, rfl, rfl, State.onlyReports.refl s⟩

theorem State.released_decidedParked (hoff : s.offLane n) (hv : s.visit? n = some v) :
    s.decidedParked ((s.overrideVisit v).giveParkedAdmission n v.admission) n (s.releasedRecord v v.state) := by
  have hover := State.overrideVisit_visit hv
  have hdecided := State.giveParkedAdmission_visits (vd := v.admission) hover
  have hyard := State.giveParkedAdmission_yard (vd := v.admission) hover
  rw [(State.overrideVisit_frame v s).2.2.2.2.2.2.1, routeOf_overriddenWith] at hyard
  have hoverridden := State.overrideVisit_visits v s
  rw [State.visit?_number hv] at hoverridden
  refine ⟨?_, ?_, ?_, by simp, by simp, by simp, by simp, by simp, by rw [hyard], by rw [hyard], ?_, ?_⟩
  · rw [State.visit?_of_visits hdecided, State.updVisit_visit (f := fun w => w.decided _ _ _ w.state) (fun _ => rfl) hover]
    simp only [State.overrideVisit_frame, State.point, routeOf_overriddenWith]
    rfl
  · rw [hdecided, State.updVisit_visits, hoverridden, State.updVisit_visits]
    dsimp only
    rw [updNumbered_absent hoff, updNumbered_absent hoff]
  · have hroster : ((s.overrideVisit v).giveParkedAdmission n v.admission).visits.roster = s.visits.roster := by simp
    exact congrArg (fun r => r.2.2.1) hroster
  · rw [hyard]
    exact blockOf_routeOf .buffer v v.admission s.yard.blocks
  · exact ((State.onlyReports.refl s).of_same (by simp) (by simp) (by simp)).giveParkedAdmission

theorem State.dropsNoted.kept {d t : State} (h : s.dropsNoted d v)
    (hkept : ∀ e ∈ d.bus.txQueue, e.frame.cls ≠ 2 → e ∈ t.bus.txQueue) : s.dropsNoted t v := by
  intro win hwin hroom x hx
  obtain ⟨e, he, hframe⟩ := h win hwin hroom x hx
  have hclass : e.frame.cls = 1 := by
    rw [hframe]
    rfl
  exact ⟨e, hkept e he (by rw [hclass]; decide), hframe⟩

/-- The drop moves of a parked visit that the clerk has released are noted. -/
theorem State.released_parked_notes (hv : s.visit? n = some v) (hno : v.needsInspection = false) :
    s.dropsNoted ((s.overrideVisit v).giveParkedAdmission n v.admission) v := by
  intro win hwin hroom
  rw [show v.admission = .admitted from if_neg (by simp [hno])]
  have hnotes := State.giveParkedAdmission_notes (w := win) (State.overrideVisit_visit hv) (by simpa using hwin)
    (by simpa using hroom)
  simpa using hnotes

theorem State.release_parked_written (hoff : s.offLane n) (hv : s.visit? n = some v) :
    s.releaseWritten (((s.overrideVisit v).giveParkedAdmission n v.admission).closeVisit n).retakeDeferred v
      (s.releasedRecord v v.state) := by
  obtain ⟨hcapacity, hblocks, hkept⟩ := (State.released_decidedParked hoff hv).closes_leaves hoff
  refine State.releaseWritten_of ?_ ?_ fun hno => (State.released_parked_notes hv hno).kept hkept
  · rw [hcapacity]
    simp [State.overrideVisit_eq]
  · rw [hblocks, State.giveParkedAdmission_yard (State.overrideVisit_visit hv)]
    simp

end

end Sys2Proof.Machine
end

section
/-! O40 and O41: RELEASE and REFUSE. -/

namespace Sys2Proof.Machine

section
variable {s u : State} {f : RxFrame} {rest : List RxFrame} {lane : Byte} {n : VisitNumber}

/-- RELEASE that names a visit of this lane acts on it. -/
theorem State.exec_releaseFrame_thisLane (hf : takeFirst .release s.bus.rx = some (f, rest)) (hu : u = s.handedOn f rest)
    (hform : clerkForm f.payload = some (lane, n)) (hlane : lane.toNat = s.laneId.toNat) :
    exec .releaseFrame s = .next (u.takeRelease n) := by
  rw [State.exec_releaseFrame hf, ← hu, State.clerkFrame_thisLane hform (by simpa [hu] using hlane)]

theorem State.exec_refuseFrame_thisLane (hf : takeFirst .refuse s.bus.rx = some (f, rest)) (hu : u = s.handedOn f rest)
    (hform : clerkForm f.payload = some (lane, n)) (hlane : lane.toNat = s.laneId.toNat) :
    exec .refuseFrame s = .next (u.takeRefuse n) := by
  rw [State.exec_refuseFrame hf, ← hu, State.clerkFrame_thisLane hform (by simpa [hu] using hlane)]

/-- A clerk frame to another lane, of an unknown visit, or of one that waits for no clerk is counted as ignored. -/
theorem State.clerkFrame_ignored {act : VisitNumber → State → State} (hu : u = s.handedOn f rest)
    (hform : clerkForm f.payload = some (lane, n)) (hact : u.notForClerk n → act n u = u.count .framesIgnored)
    (h : lane.toNat ≠ s.laneId.toNat ∨ s.notForClerk n) : u.clerkFrame act f.payload = u.count .framesIgnored := by
  have hlaneId : u.laneId = s.laneId := by simp [hu]
  by_cases hlane : lane.toNat = u.laneId.toNat
  · rw [State.clerkFrame_thisLane hform hlane]
    refine hact ?_
    unfold State.notForClerk at h ⊢
    rw [hu, State.handedOn_visit?]
    exact h.resolve_left fun hne => hne (by rw [hlane, hlaneId])
  · exact State.clerkFrame_otherLane hform hlane

end

theorem Visit.admission_cases (v : Visit) : v.admission = .admitted ∨ v.admission = .admitInspect := by
  unfold Visit.admission
  split
  · exact .inr rfl
  · exact .inl rfl

/-- The direction message of an admission; that INSPECT names the inspection block alone is log 17. -/
theorem verdictMessage_admission (n : VisitNumber) (v : Visit) (stops : List Text) :
    verdictMessage n v.admission stops =
      if v.needsInspection then ⟨.inspect, some n, stops.take 1⟩ else ⟨.proceed, some n, stops⟩ := by
  unfold Visit.admission
  split
  · rfl
  · rfl

theorem State.recordOf.congr {s t : State} {v : Visit} {r : OutcomeRecord} (h : t.recordOf v r) (hlane : t.laneId = s.laneId)
    (hclock : t.clock = s.clock) : s.recordOf v r := by
  unfold State.recordOf at h ⊢
  rwa [hlane, hclock] at h

/-- Settles O40. -/
theorem releaseActsByVisitState : Obligations.ReleaseActsByVisitState := by
  intro s u f rest lane n hf hu hform
  refine ⟨fun h => ?_, fun v hlane hv => ?_⟩
  · rw [State.exec_releaseFrame hf, ← hu, State.clerkFrame_ignored hu hform State.takeRelease_ignored h]
  · have hexec := State.exec_releaseFrame_thisLane hf hu hform hlane
    have hv' : u.visit? n = some v := by simpa [hu] using hv
    have hlaneId : u.laneId = s.laneId := by simp [hu]
    rw [hexec]
    subst hu
    refine ⟨fun hhold => ?_, fun hparked hplace (hoff : (s.handedOn f rest).offLane n) => ?_⟩
    · rw [State.takeRelease_hold hv' hhold]
      have hplaced := State.release_hold_placed hv'
      rw [verdictMessage_admission] at hplaced
      refine ⟨_, _, rfl, State.release_hold_visit hv', rfl, State.release_hold_written hv', rfl, by simp, hplaced,
        fun hflex => ?_, fun m hm => ?_⟩
      · have hgranted : (s.handedOn f rest).unitGranted v = some (if 0 < s.spare then .own else .forced) := if_pos hflex
        rw [State.releasedRecord, hgranted]
        rfl
      · rw [State.giveVerdict_other hm, State.overrideVisit_other (by rwa [State.visit?_number hv']),
          State.handedOn_visit?]
    · rw [State.takeRelease_parked hv' hparked]
      have hclosed := (State.released_decidedParked hoff hv').closes (res := .used) hoff hplace
        (if_pos (Visit.admission_cases v)).symm
      have hwritten := State.release_parked_written hoff hv'
      have hrecord := State.recordOf_closing (s.handedOn f rest) ((s.handedOn f rest).releasedRecord v v.state)
      refine ⟨_, (s.handedOn f rest).releasedRecord v v.state, _, rfl, ?_, hrecord.congr hlaneId rfl, hclosed.lane,
        hclosed.parked, hclosed.reserved, hclosed.filled, hclosed.freed, hclosed.unclaimed, hclosed.claimed⟩
      exact hwritten

/-- Settles O41. -/
theorem refuseActsByVisitState : Obligations.RefuseActsByVisitState := by
  intro s u f rest lane n hf hu hform
  refine ⟨fun h => ?_, fun v hlane hv => ?_⟩
  · rw [State.exec_refuseFrame hf, ← hu, State.clerkFrame_ignored hu hform State.takeRefuse_ignored h]
  · have hexec := State.exec_refuseFrame_thisLane hf hu hform hlane
    have hv' : u.visit? n = some v := by simpa [hu] using hv
    have hlaneId : u.laneId = s.laneId := by simp [hu]
    rw [hexec]
    subst hu
    refine ⟨fun hhold => ?_, fun hparked hplace (hoff : (s.handedOn f rest).offLane n) => ?_⟩
    · rw [State.takeRefuse_hold hv' hhold]
      obtain ⟨held, hvisit⟩ := State.refuseVisit_visit hv'
      obtain ⟨w, hw, -, -, -, -, -, hclaim, hkept, hended⟩ := State.refuseVisit_spec hv'
      obtain rfl : w = _ := Option.some.inj (hw.symm.trans hvisit)
      have hyard := State.refuseVisit_yard hv'
      refine ⟨_, _, rfl, hvisit, rfl, by simp, ?_, ?_, fun m hm => ?_, hclaim, hkept, hended⟩
      · rw [hyard]
        exact (State.giveVerdict_blocks hv').1
      · exact (State.giveVerdict_placed (vd := .refuse) hv').congr ⟨rfl, rfl⟩ (by rw [hyard]; exact ⟨rfl, rfl⟩)
      · rw [State.refuseVisit_other hm hv', State.handedOn_visit?]
    · rw [State.takeRefuse_parked hv' hparked]
      have hdecided := State.refused_decidedParked hoff hv'
      have hclosed := hdecided.closes (res := .released) hoff hplace rfl
      obtain ⟨hcapacity, hblocks, -⟩ := hdecided.closes_leaves hoff
      have hrecord := State.recordOf_closing (s.handedOn f rest) (v.refusedParked (s.handedOn f rest).point)
      exact ⟨_, _, rfl, hrecord.congr hlaneId rfl, hclosed.lane, hclosed.parked, hclosed.reserved, hclosed.filled,
        hcapacity, hblocks, hclosed.freed, hclosed.unclaimed, hclosed.claimed⟩

end Sys2Proof.Machine
end

section
/-! Rules about the Direction Queue and its delivery: what is sent, which held message joins, and what the end of a delivery does to
its visit and the barrier (R58, R59, R142, R143, R145). -/

namespace Sys2Proof.Machine

section
variable {s t u : State} {n : VisitNumber} {m : Message} {f : Visit → Visit} {toggle : Bool}

/-! ### Sending -/

/-- A message is sent: its bytes go out with the send toggle, and the answer is awaited (R58, R59). -/
theorem State.sendMessage_eq (m : Message) (busy : Nat) (s : State) :
    s.sendMessage m busy =
      { s with reader := { s.reader with display := ⟨.sent, s.reader.display.sendToggle, busy, .running 200, .stopped⟩ }
               out := .display (m.bytes s.reader.display.sendToggle) :: s.out } := by rfl

/-- Nothing is sent while a delivery is under way (R58). -/
theorem State.pumpDisplay_underWay (h : s.reader.display.delivery ≠ .idle) : s.pumpDisplay = s := if_neg h

/-- From an idle channel the head of the Direction Queue is sent, where there is one (R58). -/
theorem State.pumpDisplay_idle (h : s.reader.display = ⟨.idle, toggle, 0, .stopped, .stopped⟩) :
    s.pumpDisplay.reader.display = (if s.yard.queue = [] then ⟨.idle, toggle, 0, .stopped, .stopped⟩
        else ⟨.sent, toggle, 0, .running 200, .stopped⟩) ∧
      s.pumpDisplay.out = (s.yard.queue.head?.map (fun x => .display (x.bytes toggle))).toList ++ s.out := by
  unfold State.pumpDisplay
  rw [if_pos (by rw [h])]
  split
  next hq => simp [hq, h]
  next x q hq => simp [hq, h, State.sendMessage_eq]

/-! ### A held message joins (R142) -/

/-- With a place free the oldest held message that may join does (R142; log 18). -/
theorem State.joinHeld_joins (h : s.yard.queue.length < 4) :
    s.joinHeld.yard.queue = s.yard.queue ++ (s.yard.held.find? (fun x => x.mayJoin s.yard.queue)).toList ∧
      s.joinHeld.yard.held = s.yard.held.eraseP (fun x => x.mayJoin s.yard.queue) := by
  unfold State.joinHeld
  split
  next x hx =>
    rw [if_pos h, State.joinQueue_yard, hx]
    exact ⟨rfl, rfl⟩
  next hnone =>
    rw [hnone, List.eraseP_of_forall_not (by simpa using hnone)]
    simp

/-- A message that joins during a delivery is not sent. -/
theorem State.joinHeld_underWay (h : s.reader.display.delivery ≠ .idle) :
    s.joinHeld.reader = s.reader ∧ s.joinHeld.out = s.out := by
  unfold State.joinHeld
  repeat' split
  next x _ _ =>
    have hsame : ∀ u : State, u.reader = s.reader → u.joinQueue x = u.setQueue (u.yard.queue ++ [x]) := fun u hu =>
      State.pumpDisplay_underWay (by rwa [State.setQueue_reader, hu])
    rw [hsame _ (by simp)]
    exact ⟨rfl, rfl⟩
  · exact ⟨rfl, rfl⟩
  · exact ⟨rfl, rfl⟩

/-! ### The Direction Queue under the barrier's operations -/

@[simp] theorem State.barrierSeenUp_messages (s : State) :
    s.barrierSeenUp.yard.queue = s.yard.queue ∧ s.barrierSeenUp.yard.held = s.yard.held := by
  unfold State.barrierSeenUp
  dsimp only
  split <;> exact ⟨rfl, rfl⟩

@[simp] theorem State.raiseFor_messages (n : VisitNumber) (s : State) :
    (s.raiseFor n).yard.queue = s.yard.queue ∧ (s.raiseFor n).yard.held = s.yard.held := by
  unfold State.raiseFor
  dsimp only
  split <;> simp

@[simp] theorem State.testRaise_messages (s : State) :
    s.testRaise.yard.queue = s.yard.queue ∧ s.testRaise.yard.held = s.yard.held := by
  unfold State.testRaise
  repeat' split
  · exact ⟨rfl, rfl⟩
  · exact s.raiseFor_messages _
  · exact ⟨rfl, rfl⟩

/-! ### The visit of a message -/

/-- A record changed by `f` where the message is for its visit. -/
def Visit.forMessage (m : Message) (f : Visit → Visit) (v : Visit) : Visit := if m.visit = some v.number then f v else v

/-- The records of a message's visit changed, wherever they stand. -/
def VisitEngine.forMessage (m : Message) (f : Visit → Visit) (e : VisitEngine) : VisitEngine :=
  { e with laneQueue := e.laneQueue.map (Visit.forMessage m f), parked := e.parked.map (Visit.forMessage m f) }

theorem map_forMessage_id (h : m.visit = none ∨ ∀ v, f v = v) (vs : List Visit) : vs.map (Visit.forMessage m f) = vs := by
  refine (List.map_congr_left fun v _ => ?_).trans (List.map_id _)
  rcases h with h | h <;> simp [Visit.forMessage, h]

theorem updNumbered_eq_forMessage (h : m.visit = some n) (f : Visit → Visit) (vs : List Visit) :
    updNumbered n f vs = vs.map (Visit.forMessage m f) := by
  refine List.map_congr_left fun v _ => ?_
  simp [Visit.forMessage, h, eq_comm]

theorem VisitEngine.forMessage_id (h : m.visit = none ∨ ∀ v, f v = v) (e : VisitEngine) : e.forMessage m f = e := by
  unfold VisitEngine.forMessage
  rw [map_forMessage_id h, map_forMessage_id h]

theorem State.updVisit_forMessage (h : m.visit = some n) (f : Visit → Visit) (s : State) :
    (s.updVisit n f).visits = s.visits.forMessage m f := by
  rw [State.updVisit_visits, updNumbered_eq_forMessage h, updNumbered_eq_forMessage h]
  rfl

/-- The settled mark that the end of a message's delivery gives a record (R143). -/
def Visit.settledBy (m : Message) (v : Visit) : Visit := { v with settled := v.settled || m.kind.isFinal }

theorem State.settleDirection_visits (m : Message) (s : State) :
    (s.settleDirection m).visits =
      { s.visits with laneQueue := s.visits.laneQueue.map (Visit.forMessage m (Visit.settledBy m)) } := by
  have hfinal (h : m.kind.isFinal = true) : Visit.settledBy m = fun v => { v with settled := true } := by
    funext v
    simp [Visit.settledBy, h]
  have hother (h : ¬ m.kind.isFinal = true) (v : Visit) : v.settledBy m = v := by
    simp [Visit.settledBy, h]
  unfold State.settleDirection
  split
  next n hn =>
    split
    next h => rw [updNumbered_eq_forMessage hn, hfinal h]
    next h => rw [map_forMessage_id (.inr (hother h))]
  next hn => rw [map_forMessage_id (.inl hn)]

/-! ### The raise conditions tested (R145) -/

/-- A record but for its exit check. -/
def Visit.unchecked (v : Visit) : Visit := { v with exitCheck := .stopped }

/-- From `s` to `t` no visit changes but in its exit check. -/
def State.onlyExitChecks (s t : State) : Prop :=
  t.visits = { s.visits with laneQueue := t.visits.laneQueue, parked := t.visits.parked } ∧
    t.visits.laneQueue.map Visit.unchecked = s.visits.laneQueue.map Visit.unchecked ∧
    t.visits.parked.map Visit.unchecked = s.visits.parked.map Visit.unchecked

theorem State.onlyExitChecks.of_visits (h : t.visits = s.visits) : s.onlyExitChecks t := by
  unfold State.onlyExitChecks
  rw [h]
  exact ⟨rfl, rfl, rfl⟩

theorem map_unchecked_updNumbered (n : VisitNumber) (x : Timer) (vs : List Visit) :
    (updNumbered n (fun v => { v with exitCheck := x }) vs).map Visit.unchecked = vs.map Visit.unchecked := by
  unfold updNumbered
  rw [List.map_map]
  refine List.map_congr_left fun v _ => ?_
  simp only [Function.comp_apply]
  split <;> rfl

theorem State.onlyExitChecks.raiseFor (s : State) (n : VisitNumber) : s.onlyExitChecks (s.raiseFor n) := by
  unfold State.raiseFor State.barrierSeenUp
  dsimp only
  split
  · exact ⟨by simp, by simp [map_unchecked_updNumbered], by simp [map_unchecked_updNumbered]⟩
  · exact .of_visits (by simp)

theorem State.onlyExitChecks.testRaise (s : State) : s.onlyExitChecks s.testRaise := by
  unfold State.testRaise
  repeat' split
  · exact .of_visits rfl
  · exact .raiseFor s _
  · exact .of_visits rfl

/-- RAISE asserted for a visit: RAISING while BAR_UP is down, seen up at once where it is up (R145, R146). -/
theorem State.raiseFor_raisedFor (n : VisitNumber) (s : State) : (s.raiseFor n).raisedFor n := by
  have hlevel := (State.onlyRaises.raiseFor s n).level .barUp
  cases hup : s.level .barUp with
  | false =>
    obtain ⟨-, hraise, hyard⟩ := State.raiseFor_down (n := n) hup
    unfold State.raisedFor
    rw [hlevel, hup, hyard]
    exact ⟨hraise, rfl, fun _ => ⟨rfl, rfl⟩, fun h => by cases h⟩
  | true =>
    have hup' : (({ s with yard := { s.yard with barrier := .raising, raiseVisit := some n, upCheck := .running 4000 } }
        : State).driveRaise true).level .barUp = true := (State.onlyRaises.driveRaise _ true).level .barUp |>.trans hup
    unfold State.raisedFor
    rw [hlevel, hup]
    unfold State.raiseFor State.barrierSeenUp
    dsimp only
    rw [if_pos hup']
    have hcheck (v : Visit) (hv : (if v.number = n then { v with exitCheck := .running 60000 } else v).number = n) :
        (if v.number = n then { v with exitCheck := .running 60000 } else v).exitCheck = .running 60000 := by
      by_cases h : v.number = n
      · rw [if_pos h]
      · rw [if_neg h] at hv
        exact absurd hv h
    simpa [updNumbered] using fun v _ => hcheck v

/-! ### The end of a delivery, acted on (R143, R145) -/

/-- `t` has the lines and the barrier of `s`. -/
def State.sameBarrier (s t : State) : Prop :=
  t.line = s.line ∧ t.yard.barrier = s.yard.barrier ∧ t.yard.raiseVisit = s.yard.raiseVisit ∧
    t.yard.upCheck = s.yard.upCheck ∧ t.yard.settle = s.yard.settle

/-- What a note written into a record leaves: all that the barrier asks of a visit. -/
def Visit.keptForBarrier (note : Visit → Visit) : Prop :=
  ∀ v, (note v).number = v.number ∧ (note v).state = v.state ∧ (note v).settled = v.settled ∧
    (note v).exitCheck = v.exitCheck

theorem Visit.keptForBarrier_addReason (r : Reason) : Visit.keptForBarrier (Visit.addReason r) := by
  intro v
  unfold Visit.addReason
  split <;> exact ⟨rfl, rfl, rfl, rfl⟩

theorem State.raisedFor.of_same (h : s.raisedFor n) (hb : s.sameBarrier t) (hv : t.visits = s.visits) : t.raisedFor n := by
  obtain ⟨hline, hbarrier, hraise, hcheck, -⟩ := hb
  unfold State.raisedFor State.level at h ⊢
  rwa [hline, hbarrier, hraise, hcheck, hv]

theorem State.sameBarrier.trans (h : s.sameBarrier u) (h' : u.sameBarrier t) : s.sameBarrier t := by
  obtain ⟨hline, hbarrier, hraise, hcheck, hsettle⟩ := h
  unfold State.sameBarrier at h' ⊢
  rwa [hline, hbarrier, hraise, hcheck, hsettle] at h'

/-- A record after the note and the settled mark. -/
def Visit.directed (m : Message) (note : Visit → Visit) (v : Visit) : Visit :=
  (v.forMessage m note).forMessage m (Visit.settledBy m)

theorem Visit.directed_eq {note : Visit → Visit} (hnote : Visit.keptForBarrier note) (m : Message) (v : Visit) :
    v.directed m note =
      if m.visit = some v.number then { note v with settled := v.settled || m.kind.isFinal } else v := by
  obtain ⟨hnumber, -, hsettled, -⟩ := hnote v
  unfold Visit.directed Visit.forMessage
  by_cases h : m.visit = some v.number
  · rw [if_pos h, if_pos h, hnumber, if_pos h, Visit.settledBy, hsettled]
  · rw [if_neg h, if_neg h, if_neg h]

theorem Visit.directed_kept {note : Visit → Visit} (hnote : Visit.keptForBarrier note) (m : Message) (v : Visit) :
    (v.directed m note).number = v.number ∧ (v.directed m note).state = v.state ∧
      (v.directed m note).exitCheck = v.exitCheck ∧
      ((v.directed m note).settled = true ↔ v.settled = true ∨ (m.kind.isFinal = true ∧ m.visit = some v.number)) := by
  obtain ⟨hnumber, hstate, -, hcheck⟩ := hnote v
  rw [Visit.directed_eq hnote]
  split
  next h => exact ⟨hnumber, hstate, hcheck, by simp [h]⟩
  next h => exact ⟨rfl, rfl, rfl, by simp [h]⟩

theorem State.settleDirection_directed {note : Visit → Visit} (hu : u.visits = s.visits.forMessage m note) :
    (u.settleDirection m).visits = { s.visits with
      laneQueue := s.visits.laneQueue.map (Visit.directed m note)
      parked := s.visits.parked.map (Visit.forMessage m note) } := by
  rw [State.settleDirection_visits, hu]
  unfold VisitEngine.forMessage
  rw [List.map_map]
  rfl

/-- The note is written, the direction is settled and the raise conditions are tested: the end has been acted on. -/
theorem State.directionEnded_of {note : Visit → Visit} (hnote : Visit.keptForBarrier note)
    (hu : u.visits = s.visits.forMessage m note) (hsu : s.sameBarrier u)
    (ht : t.visits = (u.settleDirection m).testRaise.visits) (hut : (u.settleDirection m).testRaise.sameBarrier t) :
    s.directionEnded t m note := by
  have hsw : s.sameBarrier (u.settleDirection m) := hsu.trans (by simp [State.sameBarrier])
  have hw := State.settleDirection_directed hu
  generalize u.settleDirection m = w at hsw hw ht hut
  obtain ⟨hvisits, hlane, hparked⟩ := State.onlyExitChecks.testRaise w
  have hlow : w.yard.barrier = s.yard.barrier := hsw.2.1
  rw [← ht, hw] at hvisits hlane hparked
  refine ⟨hvisits, ?_, ?_, fun v hv hbarrier hexiting hsettled => ?_, fun hidle => ?_⟩
  · exact hparked.trans List.map_map
  · refine (hlane.trans List.map_map).trans (List.map_congr_left fun v _ => ?_)
    simp only [Function.comp_apply, Visit.directed_eq hnote]
    split <;> rfl
  · obtain ⟨hnumber, hstate, -, hmark⟩ := Visit.directed_kept hnote m v
    have hhead : w.visits.laneQueue.head? = some (v.directed m note) := by simp [hw, hv]
    rw [State.testRaise_raises (hlow.trans hbarrier) hhead (hstate.trans hexiting) (hmark.mpr hsettled), hnumber] at ht hut
    exact (State.raiseFor_raisedFor v.number w).of_same hut ht
  · have hstays : w.testRaise = w := by
      rcases hidle with h | h
      · exact State.testRaise_of_not_lowered (by rwa [hlow])
      · refine State.testRaise_idle fun x hx => ?_
        obtain ⟨v, hv, rfl⟩ : ∃ v, s.visits.laneQueue.head? = some v ∧ v.directed m note = x := by simpa [hw] using hx
        obtain ⟨-, hstate, -, hmark⟩ := Visit.directed_kept hnote m v
        rw [hstate, ← Bool.not_eq_true, hmark]
        have := h v hv
        grind
    rw [hstays] at ht hut
    obtain ⟨hline, hbarrier, hraise, hcheck, hsettle⟩ := hsw.trans hut
    refine ⟨hline, hbarrier, hraise, hcheck, hsettle, ?_⟩
    rw [ht, hw, List.map_map]
    exact List.map_congr_left fun v _ => (Visit.directed_kept hnote m v).2.2.1

/-! ### What follows the end of a delivery (R58, R142) -/

/-- The state in which the next head is sent: the delivered message gone, a held one joined, the end acted on. -/
def State.delivered (m : Message) (s : State) : State :=
  (((s.setQueue s.yard.queue.tail).joinHeld).settleDirection m).testRaise

theorem State.endDelivery_eq (m : Message) (s : State) :
    s.endDelivery m = ((s.delivered m).setDisplay
      ⟨.idle, !(s.delivered m).reader.display.sendToggle, 0, .stopped, .stopped⟩).pumpDisplay := by rfl

theorem State.endDelivery_delivered (m : Message) (s : State) :
    (s.endDelivery m).visits = (s.delivered m).visits ∧ (s.endDelivery m).yard = (s.delivered m).yard ∧
      (s.endDelivery m).line = (s.delivered m).line ∧ (s.endDelivery m).outcome = (s.delivered m).outcome := by
  rw [State.endDelivery_eq]
  simp

/-- The head has left the queue, and the oldest held message that may has joined it. -/
theorem State.endDelivery_messages {x : Message} {q : List Message} (hq : s.yard.queue = x :: q) (hroom : q.length < 4) :
    (s.endDelivery m).yard.queue = q ++ (s.yard.held.find? (fun x => x.mayJoin q)).toList ∧
      (s.endDelivery m).yard.held = s.yard.held.eraseP (fun x => x.mayJoin q) := by
  obtain ⟨-, hyard, -⟩ := State.endDelivery_delivered m s
  have htail : (s.setQueue s.yard.queue.tail).yard.queue = q ∧ (s.setQueue s.yard.queue.tail).yard.held = s.yard.held := by
    simp [State.setQueue, hq]
  obtain ⟨hqueue, hheld⟩ := htail
  have hjoins := State.joinHeld_joins (s := s.setQueue s.yard.queue.tail) (by rwa [hqueue])
  rw [hqueue, hheld] at hjoins
  rw [hyard, State.delivered]
  simpa using hjoins

/-- The next head goes out with the send toggle flipped; with none the channel is idle. -/
theorem State.endDelivery_sends (h : s.reader.display.delivery ≠ .idle) :
    (s.endDelivery m).reader.display =
        (if (s.endDelivery m).yard.queue = [] then ⟨.idle, !s.reader.display.sendToggle, 0, .stopped, .stopped⟩
          else ⟨.sent, !s.reader.display.sendToggle, 0, .running 200, .stopped⟩) ∧
      (s.endDelivery m).out =
        ((s.endDelivery m).yard.queue.head?.map (fun x => .display (x.bytes (!s.reader.display.sendToggle)))).toList
          ++ s.out := by
  obtain ⟨hreader, hout⟩ := State.joinHeld_underWay (s := s.setQueue s.yard.queue.tail) h
  have hreader' : (s.delivered m).reader = s.reader := by simpa [State.delivered] using hreader
  have hout' : (s.delivered m).out = s.out := by simpa [State.delivered] using hout
  obtain ⟨-, hyard, -⟩ := State.endDelivery_delivered m s
  rw [hyard, State.endDelivery_eq, hreader', ← hout']
  exact State.pumpDisplay_idle rfl

/-- The end of the delivery acts on the direction and the barrier, over a note written before it. -/
theorem State.endDelivery_directionEnded {note : Visit → Visit} (hnote : Visit.keptForBarrier note)
    (hu : u.visits = s.visits.forMessage m note) (hsu : s.sameBarrier u) : s.directionEnded (u.endDelivery m) m note := by
  obtain ⟨hvisits, hyard, hline, -⟩ := State.endDelivery_delivered m u
  have hjoined : u.sameBarrier (u.setQueue u.yard.queue.tail).joinHeld := by
    unfold State.sameBarrier
    rw [State.joinHeld_yard]
    exact ⟨by simp, rfl, rfl, rfl, rfl⟩
  refine State.directionEnded_of hnote ?_ (hsu.trans hjoined) hvisits ⟨hline, ?_, ?_, ?_, ?_⟩
  · simpa using hu
  all_goals rw [hyard]; rfl

/-- A record but for the two marks that the end of a delivery may change. -/
def Visit.unmarked (v : Visit) : Visit := { v with settled := false, exitCheck := .stopped }

/-- A visit's record after the end of a delivery is its record before but for those marks. -/
theorem State.endDelivery_visit {v : Visit} (m : Message) (hv : s.visit? n = some v) :
    ∃ w, (s.endDelivery m).visit? n = some w ∧ w.unmarked = v.unmarked := by
  obtain ⟨hvisits, -⟩ := State.endDelivery_delivered m s
  let u := (s.setQueue s.yard.queue.tail).joinHeld.settleDirection m
  have hu : u.visits = { s.visits with laneQueue := s.visits.laneQueue.map (Visit.forMessage m (Visit.settledBy m)) } :=
    (State.settleDirection_visits m _).trans (by simp)
  obtain ⟨-, hlane, hparked⟩ := State.onlyExitChecks.testRaise u
  have hmarks (x : Visit) : (x.forMessage m (Visit.settledBy m)).unmarked = x.unmarked := by
    unfold Visit.forMessage
    split <;> rfl
  have hall : (s.endDelivery m).allVisits.map Visit.unmarked = s.allVisits.map Visit.unmarked := by
    have hunmarked (vs : List Visit) : vs.map Visit.unmarked = (vs.map Visit.unchecked).map Visit.unmarked := by
      rw [List.map_map]; rfl
    unfold State.allVisits
    rw [hvisits]
    show (u.testRaise.visits.laneQueue ++ u.testRaise.visits.parked).map Visit.unmarked = _
    rw [List.map_append, hunmarked, hunmarked u.testRaise.visits.parked, hlane, hparked, ← hunmarked, ← hunmarked, hu,
      List.map_append, List.map_map]
    exact congrArg (· ++ _) (List.map_congr_left fun x _ => hmarks x)
  have hfind (vs : List Visit) : (vs.find? (fun x => x.number == n)).map Visit.unmarked =
      (vs.map Visit.unmarked).find? (fun x => x.number == n) := by
    rw [List.find?_map]; rfl
  have hsame : ((s.endDelivery m).visit? n).map Visit.unmarked = some v.unmarked := by
    have := hv
    unfold State.visit? at this ⊢
    rw [hfind, hall, ← hfind, this]
    rfl
  simpa using hsame

/-- The raise conditions tested leave every flag but BARRIER. -/
theorem State.testRaise_flag {g : AlertFlag} (hg : g ≠ .barrier) (s : State) : s.testRaise.flag g = s.flag g := by
  have hraise (n : VisitNumber) : (s.raiseFor n).flag g = s.flag g := by
    unfold State.raiseFor State.barrierSeenUp
    dsimp only
    repeat' split
    all_goals exact State.flag_markCondition_ne hg _ _
  unfold State.testRaise
  repeat' split
  · rfl
  · exact hraise _
  · rfl

theorem State.endDelivery_flag {g : AlertFlag} (hg : g ≠ .barrier) (m : Message) (s : State) :
    (s.endDelivery m).flag g = s.flag g := by
  obtain ⟨-, -, -, houtcome⟩ := State.endDelivery_delivered m s
  unfold State.flag
  rw [houtcome]
  refine (State.testRaise_flag hg _).trans ?_
  unfold State.flag
  simp

end

end Sys2Proof.Machine
end

section
/-! O45, O46 and O47: the display's answers, its HELLO, and the two waits of a delivery. -/

namespace Sys2Proof.Machine

section
variable {s : State} {m : Message} {q : List Message} {toggle : Bool}

/-! ### Answers (R58, R59) -/

theorem State.displayAnswer_ignored (a : Answer)
    (h : s.reader.display.delivery ≠ .sent ∨ toggle ≠ s.reader.display.sendToggle) : s.displayAnswer toggle a = s :=
  if_neg fun hc => h.elim (fun h => h hc.1) (fun h => h hc.2)

/-- A usable answer acts by what it is. -/
theorem State.displayAnswer_usable (h : s.reader.display.delivery = .sent) (ht : toggle = s.reader.display.sendToggle) :
    s.displayAnswer toggle .accept = s.deliveryAccepted ∧ s.displayAnswer toggle .busy = s.deliveryBusy ∧
      s.displayAnswer toggle .reject = s.deliveryGivenUp :=
  ⟨if_pos ⟨h, ht⟩, if_pos ⟨h, ht⟩, if_pos ⟨h, ht⟩⟩

theorem State.deliveryAccepted_eq (hq : s.yard.queue = m :: q) :
    s.deliveryAccepted = (s.endDelivery m).endCondition .display := by
  unfold State.deliveryAccepted
  rw [hq]

theorem State.displaySound.tail_room (h : s.displaySound) (hq : s.yard.queue = m :: q) : q.length < 4 := by
  obtain ⟨hlen, -⟩ := h
  rw [hq, List.length_cons] at hlen
  omega

/-- Settles O45: what the end of the delivery does, under the ended condition. -/
theorem displayAcceptEndsTheDelivery : Obligations.DisplayAcceptEndsTheDelivery := by
  refine ⟨fun s toggle h => ?_, fun s toggle m q hsound hsent ht hq => ⟨(s.endDelivery m).endCondition .display, ?_, ?_, ?_⟩⟩
  · simp only [exec, execDisplayAccept, execDisplayBusy, execDisplayReject, State.displayAnswer_ignored _ h, and_self]
  · rw [← State.deliveryAccepted_eq hq]
    exact congrArg _ (State.displayAnswer_usable hsent ht).1
  · exact State.eq_of_blocks (by simp)
  · have hunderWay : s.reader.display.delivery ≠ .idle := by rw [hsent]; decide
    have hflag : ((s.endDelivery m).endCondition .display).flag .display = ⟨(s.flag .display).isSet, false⟩ := by
      rw [State.endCondition, State.flag_putFlag_same, State.endDelivery_flag (by decide)]
    have hdirection : s.directionEnded (s.endDelivery m) m (fun v => v) :=
      State.endDelivery_directionEnded (fun _ => ⟨rfl, rfl, rfl, rfl⟩) (VisitEngine.forMessage_id (.inr fun _ => rfl) _).symm
        ⟨rfl, rfl, rfl, rfl, rfl⟩
    obtain ⟨hqueue, hheld⟩ := State.endDelivery_messages (m := m) hq (hsound.tail_room hq)
    obtain ⟨hdisplay, hout⟩ := State.endDelivery_sends (m := m) hunderWay
    rw [ht]
    exact ⟨hflag, hdirection, hqueue, hheld, hdisplay, hout⟩

/-! ### BUSY, silence and REJECT (R59) -/

/-- Below five misses the message waits for its next sending. -/
theorem State.deliveryBusy_waits (h : s.reader.display.busyCount + 1 < 5) :
    s.deliveryBusy = { s with reader := { s.reader with display := ⟨.retryWait, s.reader.display.sendToggle,
        s.reader.display.busyCount + 1, .stopped, .running 200⟩ } } := if_pos h

/-- At five the message is given up. -/
theorem State.deliveryBusy_givesUp (h : 4 ≤ s.reader.display.busyCount) : s.deliveryBusy = s.deliveryGivenUp :=
  if_neg (by omega)

/-- What a message given up writes before its delivery ends: DISPLAY, and the note in the record of its visit. -/
def State.gaveUp (m : Message) (s : State) : State :=
  match m.visit with
  | some n => (s.latch .display).updVisit n (Visit.addReason .displayUnconfirmed)
  | none => s.latch .display

theorem State.deliveryGivenUp_eq (hq : s.yard.queue = m :: q) : s.deliveryGivenUp = (s.gaveUp m).endDelivery m := by
  unfold State.deliveryGivenUp
  rw [hq]
  rfl

theorem State.gaveUp_visits (m : Message) (s : State) :
    (s.gaveUp m).visits = s.visits.forMessage m (Visit.addReason .displayUnconfirmed) := by
  have hlatch : (s.latch .display).visits = s.visits := by simp
  unfold State.gaveUp
  split
  next n hn => rw [State.updVisit_forMessage hn, hlatch]
  next hn => rw [VisitEngine.forMessage_id (.inl hn), hlatch]

theorem State.gaveUp_frame (m : Message) (s : State) :
    (s.gaveUp m).line = s.line ∧ (s.gaveUp m).reader = s.reader ∧ (s.gaveUp m).yard = s.yard ∧
      (s.gaveUp m).out = s.out ∧ (s.gaveUp m).flag .display = ⟨true, true⟩ := by
  have hflag := s.flag_latch .display
  unfold State.gaveUp
  split
  · exact ⟨by simp, by simp, by simp, by simp, hflag⟩
  · exact ⟨by simp, by simp, by simp, by simp, hflag⟩

/-- The visit of a message given up, while it has not closed, holds DISPLAY_UNCONFIRMED. -/
theorem State.gaveUp_noted {n : VisitNumber} {v : Visit} (hm : m.visit = some n) (hv : s.visit? n = some v) :
    (s.gaveUp m).visit? n = some (v.addReason .displayUnconfirmed) := by
  have heq : s.gaveUp m = (s.latch .display).updVisit n (Visit.addReason .displayUnconfirmed) := by
    unfold State.gaveUp
    rw [hm]
  have hlatch : (s.latch .display).visit? n = s.visit? n := State.visit?_of_visits (by simp) n
  rw [heq, State.visit?_updVisit_same (by simp), hlatch, hv]
  rfl

/-- A message given up: the whole of what the fifth miss and a REJECT do. -/
theorem State.deliveryGivenUp_spec (hsound : s.displaySound) (hsent : s.reader.display.delivery = .sent)
    (hq : s.yard.queue = m :: q) : s.deliveryGivenUp.flag .display = ⟨true, true⟩ ∧
      (∀ n v, m.visit = some n → s.visit? n = some v → ∃ w, s.deliveryGivenUp.visit? n = some w ∧
        w.given .displayUnconfirmed ∧ w.state = v.state ∧ w.verdict = v.verdict) ∧
      s.directionEnded s.deliveryGivenUp m (Visit.addReason .displayUnconfirmed) ∧
      s.deliveryGivenUp.yard.queue = q ++ (s.yard.held.find? (fun x => x.mayJoin q)).toList ∧
      s.deliveryGivenUp.yard.held = s.yard.held.eraseP (fun x => x.mayJoin q) ∧
      s.deliveryGivenUp.reader.display = (if s.deliveryGivenUp.yard.queue = [] then
          ⟨.idle, !s.reader.display.sendToggle, 0, .stopped, .stopped⟩
        else ⟨.sent, !s.reader.display.sendToggle, 0, .running 200, .stopped⟩) ∧
      s.deliveryGivenUp.out = (s.deliveryGivenUp.yard.queue.head?.map
        (fun x => .display (x.bytes (!s.reader.display.sendToggle)))).toList ++ s.out := by
  obtain ⟨hline, hreader, hyard, hout, hflag⟩ := s.gaveUp_frame m
  rw [State.deliveryGivenUp_eq hq]
  have hunderWay : (s.gaveUp m).reader.display.delivery ≠ .idle := by rw [hreader, hsent]; decide
  obtain ⟨hqueue, hheld⟩ := State.endDelivery_messages (s := s.gaveUp m) (m := m) (by rwa [hyard]) (hsound.tail_room hq)
  obtain ⟨hdisplay, hbytes⟩ := State.endDelivery_sends (m := m) hunderWay
  rw [hyard] at hqueue hheld
  rw [hreader] at hdisplay hbytes
  rw [hout] at hbytes
  refine ⟨(State.endDelivery_flag (by decide) m _).trans hflag, fun n v hm hv => ?_, ?_, hqueue, hheld, hdisplay, hbytes⟩
  · obtain ⟨w, hw, hbare⟩ := State.endDelivery_visit m (State.gaveUp_noted hm hv)
    have hactive : w.active = (v.addReason .displayUnconfirmed).active := congrArg (·.active) hbare
    have hover : w.overridden = (v.addReason .displayUnconfirmed).overridden := congrArg (·.overridden) hbare
    have hstate : w.state = (v.addReason .displayUnconfirmed).state := congrArg (·.state) hbare
    have hverdict : w.verdict = (v.addReason .displayUnconfirmed).verdict := congrArg (·.verdict) hbare
    rw [Visit.addReason_eq] at hstate hverdict
    refine ⟨w, hw, ?_, hstate, hverdict⟩
    unfold Visit.given
    rw [hactive, hover]
    exact Visit.addReason_given _ v
  · exact State.endDelivery_directionEnded (Visit.keptForBarrier_addReason _) (s.gaveUp_visits m)
      ⟨hline, by rw [hyard], by rw [hyard], by rw [hyard], by rw [hyard]⟩

/-- The commands that give a message up do so (R59). -/
theorem State.exec_givesUp {c : Instr} (hsound : s.displaySound) (hsent : s.reader.display.delivery = .sent)
    (hc : c = .displayReject s.reader.display.sendToggle ∨
      (4 ≤ s.reader.display.busyCount ∧ (c = .displayBusy s.reader.display.sendToggle ∨ c = .answerWaitExpiry))) :
    exec c s = .next s.deliveryGivenUp := by
  rcases hc with rfl | ⟨hfour, rfl | rfl⟩
  · exact congrArg _ (State.displayAnswer_usable hsent rfl).2.2
  · rw [← State.deliveryBusy_givesUp hfour]
    exact congrArg _ (State.displayAnswer_usable hsent rfl).2.1
  · obtain ⟨-, -, htimers⟩ := hsound
    rw [hsent] at htimers
    have hrun : s.reader.display.answerWait.isRunning = true := by rw [htimers.2.1]; rfl
    rw [← State.deliveryBusy_givesUp hfour]
    exact congrArg _ (if_pos hrun)

/-- The retry wait run out: the head is sent again with the same toggle and count. -/
theorem State.retryWaitExpired_resends (hq : s.yard.queue = m :: q) (h : s.reader.display.retryWait.isRunning = true) :
    s.retryWaitExpired = s.sendMessage m s.reader.display.busyCount := by
  unfold State.retryWaitExpired
  rw [if_pos h, hq]

/-- Settles O46: a miss below the fifth waits, and every giving up is `deliveryGivenUp_spec`. -/
theorem displayBusyRetriesAndGivesUp : Obligations.DisplayBusyRetriesAndGivesUp := by
  refine ⟨fun s hsent hcount t ht => ?_, fun s m q hq hrun => ?_, fun s => ⟨fun h => ?_, fun h => ?_⟩,
    fun s c m q hsound hsent hq hc => ⟨_, State.exec_givesUp hsound hsent hc, State.deliveryGivenUp_spec hsound hsent hq⟩⟩
  · rw [ht, ← State.deliveryBusy_waits hcount]
    exact ⟨congrArg _ (State.displayAnswer_usable hsent rfl).2.1, fun hrun => congrArg _ (if_pos hrun)⟩
  · exact congrArg _ (State.retryWaitExpired_resends hq hrun)
  · exact congrArg _ (if_neg (by simp [h]))
  · exact congrArg _ (if_neg (by simp [h]))

/-! ### The display's HELLO (R60) -/

theorem State.displayRestarted_idle (h : s.reader.display.delivery = .idle) : s.displayRestarted =
    { s with reader := { s.reader with display := { s.reader.display with sendToggle := false } } } := if_pos h

/-- An outstanding message is sent afresh with send toggle 0. -/
theorem State.displayRestarted_resends (h : s.reader.display.delivery ≠ .idle) (hq : s.yard.queue = m :: q) :
    s.displayRestarted =
      (s.setDisplay { s.reader.display with sendToggle := false }).sendMessage m 0 := by
  refine (if_neg h).trans ?_
  rw [State.setDisplay_yard, hq]

/-- A byte that is neither HELLO nor an answer code with its bits 6 to 2 zero says nothing (R173). -/
theorem parseDisplayByte_unusable {b : Byte} (hhello : b ≠ 0x0F) (hcode : b.toNat % 128 = 0 ∨ 3 < b.toNat % 128) :
    parseDisplayByte b = none := by
  unfold parseDisplayByte
  rw [if_neg hhello]
  split <;> first | omega | rfl

/-- Settles O47, by the delivery state and by what the byte says. -/
theorem displayHelloAndUnusableBytes : Obligations.DisplayHelloAndUnusableBytes := by
  refine ⟨fun s h => ?_, fun s m q h hq => ?_, fun s b hhello hcode => ?_, fun s => by rfl⟩
  · exact congrArg _ (State.displayRestarted_idle h)
  · exact congrArg _ (State.displayRestarted_resends h hq)
  · show Host.Outcome.next (s.displayByte b) = _
    rw [State.displayByte, parseDisplayByte_unusable hhello hcode]

end

end Sys2Proof.Machine
end

section
/-! O42 and O44: reports with a visit in the portal, a reader's HELLO, malformed reports, and a held report that expires. -/

namespace Sys2Proof.Machine

section
variable {s : State} {ch : Channel} {toggle : Bool} {r : Report} {v w : Visit}

/-! ### A report with a visit in the portal (R48 to R50, R57) -/

/-- A repeat is answered ACCEPT and changes nothing (R48). -/
theorem State.takeReport_repeat (r : Report) (h : ¬ s.newOn ch toggle) :
    s.takeReport ch toggle r = { s with out := .answer ch 0x01 :: s.out } := by
  unfold State.newOn at h
  push Not at h
  obtain ⟨hsynced, htoggle⟩ := h
  unfold State.takeReport
  dsimp only
  rw [if_pos (by simp [htoggle, Bool.eq_true_of_not_eq_false hsynced])]
  rfl

theorem State.placeReport_attaches (hv : s.portal? = some v) (h : v.attach r = some w) :
    s.placeReport ch r = (.accept, s.attachReport v.number r) := by
  unfold State.placeReport
  simp only [hv, h]

theorem State.placeReport_refuses (hv : s.portal? = some v) (h : v.attach r = none) :
    s.placeReport ch r = (.reject, s) := by
  unfold State.placeReport
  simp only [hv, h]

/-- The state after a new report has been written into the record of the visit in the portal and answered ACCEPT. -/
def State.reportTaken (s : State) (ch : Channel) (toggle : Bool) (r : Report) (v : Visit) : State :=
  { s with visits := (s.updVisit v.number (fun w => (w.attach r).getD w)).visits
           reader := s.reader.put ch { s.channel ch with expected := !toggle, synced := true }
           out := .answer ch 0x01 :: s.out }

theorem State.takeReport_taken (hnew : s.newOn ch toggle) (hv : s.portal? = some v) (h : v.attach r = some w) :
    s.takeReport ch toggle r = s.reportTaken ch toggle r v := by
  rw [State.takeReport_new r hnew, State.placeReport_attaches hv h]
  rfl

theorem State.takeReport_refused (hnew : s.newOn ch toggle) (hv : s.portal? = some v) (h : v.attach r = none) :
    s.takeReport ch toggle r = { s with out := .answer ch 0x03 :: s.out } := by
  rw [State.takeReport_new r hnew, State.placeReport_refuses hv h]
  rfl

/-- The visit in the portal stays there with the report in its record (R50). -/
theorem State.portal?_reportTaken (hv : s.portal? = some v) (h : v.attach r = some w) :
    (s.reportTaken ch toggle r v).portal? = some w := by
  have hstate (x : Visit) : (if x.number = v.number then (x.attach r).getD x else x).state = x.state := by
    split
    · exact (Visit.attach_keeps r x).2
    · rfl
  unfold State.portal? State.oldest? at hv ⊢
  show (updNumbered v.number _ s.visits.laneQueue).find? _ = _
  rw [updNumbered, List.find?_map]
  simp only [Function.comp_def, hstate, hv, Option.map_some, if_true, h, Option.getD_some]

/-- Settles O42: a repeat, and a new report by whether its record takes it. -/
theorem reportAtThePortalAttaches : Obligations.ReportAtThePortalAttaches := by
  intro s c ch toggle r hc halive
  have hexec : exec c s = .next (s.takeReport ch toggle r) := by
    rw [exec_carriesReport hc, State.readerMessage, if_pos halive]
  rw [hexec]
  refine ⟨fun hrepeat => congrArg _ (State.takeReport_repeat r hrepeat), fun v hnew hv =>
    ⟨fun h => ?_, fun h => ?_, fun h => ?_, fun h => ?_⟩⟩
  · obtain ⟨w, hw⟩ := Option.isSome_iff_exists.mp h
    exact congrArg _ (State.takeReport_taken hnew hv hw)
  · exact congrArg _ (State.takeReport_refused hnew hv h)
  · exact congrArg _ (State.takeReport_refused hnew hv ((Visit.attach_eq_none_iff v r).mpr h))
  · obtain ⟨w, hw⟩ := Option.ne_none_iff_exists'.mp (mt (Visit.attach_eq_none_iff v r).mp h)
    exact ⟨_, w, congrArg _ (State.takeReport_taken hnew hv hw), State.portal?_reportTaken hv hw,
      Visit.attach_reportWritten v w r hw, rfl⟩

/-! ### HELLO, malformed reports and expiry (R46, R48, R49, R51) -/

theorem State.readerMessage_dead (m : Option ReaderMessage) (h : s.alive = false) : s.readerMessage ch m = s :=
  if_neg (by simp [h])

theorem State.bufferExpired_held (h : (s.channel ch).buffer = some r) : s.bufferExpired ch =
    ({ s with reader := s.reader.put ch { s.channel ch with buffer := none, expiry := .stopped } } : State).count
      .orphanReads := if_pos (by rw [h]; rfl)

theorem State.bufferExpired_empty (h : (s.channel ch).buffer = none) : s.bufferExpired ch = s := if_neg (by simp [h])

/-- Settles O44, by the form of the message and what the buffer holds. -/
theorem helloMalformedAndExpiry : Obligations.HelloMalformedAndExpiry := by
  refine ⟨fun s ch halive => congrArg _ (if_pos halive), fun s ch msg halive hmsg => ?_,
    fun s ch msg hdead => ⟨congrArg _ (State.readerMessage_dead _ hdead), congrArg _ (State.readerMessage_dead _ hdead)⟩,
    fun s ch r h => congrArg _ (State.bufferExpired_held h), fun s ch h => congrArg _ (State.bufferExpired_empty h)⟩
  simp only [exec, execMalformedReport, hmsg]
  exact congrArg _ (if_pos halive)

end

end Sys2Proof.Machine
end

section
/-! O9: the Direction Queue and the display channel stay in agreement. The agreement rests on the Direction Queue and the display
channel alone; only a message placed, the messages of a visit dropped, and the display's own commands touch either. -/

namespace Sys2Proof.Machine

/-! ### What leaves the Direction Queue -/

@[simp] theorem State.setBarrier_queue (b : Barrier) (s : State) : (s.setBarrier b).yard.queue = s.yard.queue := by rfl

@[simp] theorem State.withdrawRaise_queue (s : State) : s.withdrawRaise.yard.queue = s.yard.queue := by
  unfold State.withdrawRaise
  dsimp only
  split <;> simp

@[simp] theorem State.raiseVisitLeaves_queue (n : VisitNumber) (s : State) :
    (s.raiseVisitLeaves n).yard.queue = s.yard.queue := by
  unfold State.raiseVisitLeaves
  dsimp only
  repeat' split
  all_goals simp

@[simp] theorem State.yardLoopXVacated_queue (s : State) : s.yardLoopXVacated.yard.queue = s.yard.queue := by
  unfold State.yardLoopXVacated
  split <;> simp

@[simp] theorem State.barUpUp_queue (s : State) : s.barUpUp.yard.queue = s.yard.queue := by
  unfold State.barUpUp
  split <;> simp

@[simp] theorem State.barUpDown_queue (s : State) : s.barUpDown.yard.queue = s.yard.queue := by
  unfold State.barUpDown
  split <;> simp

@[simp] theorem State.upCheckExpired_queue (s : State) : s.upCheckExpired.yard.queue = s.yard.queue := by
  unfold State.upCheckExpired
  dsimp only
  repeat' split
  all_goals simp

@[simp] theorem State.settleExpired_queue (s : State) : s.settleExpired.yard.queue = s.yard.queue := by
  unfold State.settleExpired
  dsimp only
  repeat' split
  all_goals simp

@[simp] theorem State.barrierAtFix_queue (s : State) : s.barrierAtFix.yard.queue = s.yard.queue := by
  unfold State.barrierAtFix
  split <;> rfl

@[simp] theorem State.routeVerdict_queue (v : Visit) (vd : Verdict) (s : State) :
    (s.routeVerdict v vd).2.yard.queue = s.yard.queue := by
  rw [(State.routeVerdict_table v vd s).2]

@[simp] theorem State.giveParkedAdmission_queue (n : VisitNumber) (vd : Verdict) (s : State) :
    (s.giveParkedAdmission n vd).yard.queue = s.yard.queue := by
  unfold State.giveParkedAdmission
  split <;> simp [State.writeVerdict]

@[simp] theorem State.takeNote_queue (b : Text) (w : Window) (s : State) : (s.takeNote b w).yard.queue = s.yard.queue := by
  unfold State.takeNote
  split <;> rfl

@[simp] theorem State.fixIfComplete_queue (s : State) : s.fixIfComplete.yard.queue = s.yard.queue := by
  unfold State.fixIfComplete State.fixConfig
  split <;> simp [State.setBlocks, State.takeLevels]

/-! ### What leaves the display channel -/

@[simp] theorem ReaderPort.put_display (r : ReaderPort) (ch : Channel) (c : ReaderChannel) :
    (r.put ch c).display = r.display := by
  cases ch <;> rfl

@[simp] theorem State.setChannel_display (ch : Channel) (c : ReaderChannel) (s : State) :
    (s.setChannel ch c).reader.display = s.reader.display := ReaderPort.put_display s.reader ch c

@[simp] theorem State.readerMessage_display (ch : Channel) (x : Option ReaderMessage) (s : State) :
    (s.readerMessage ch x).reader.display = s.reader.display := by
  unfold State.readerMessage State.takeHello State.takeReport State.placeReport
  dsimp only
  repeat' split
  all_goals simp

@[simp] theorem State.attachAllHeld_display (s : State) : s.attachAllHeld.reader.display = s.reader.display := by
  cases h : s.portal? with
  | none =>
    unfold State.attachAllHeld
    rw [h]
  | some v => exact (State.attachAllHeld_spec h).2.1

@[simp] theorem State.bufferExpired_display (ch : Channel) (s : State) :
    (s.bufferExpired ch).reader.display = s.reader.display := by
  unfold State.bufferExpired
  split <;> simp

/-! ### The agreement -/

section
variable {s t : State} {n : VisitNumber} {m : Message} {q : List Message} {toggle : Bool}

/-- The agreement is a matter of the Direction Queue and the display channel. -/
theorem State.displaySound.kept (h : s.displaySound) (hqueue : t.yard.queue = s.yard.queue := by simp)
    (hdisplay : t.reader.display = s.reader.display := by simp) : t.displaySound := by
  unfold State.displaySound
  rw [hqueue, hdisplay]
  exact h

/-- A delivery is under way exactly while a message is queued. -/
theorem State.displaySound.underWay_iff (h : s.displaySound) : s.reader.display.delivery ≠ .idle ↔ s.yard.queue ≠ [] := by
  obtain ⟨-, -, hstate⟩ := h
  cases hd : s.reader.display.delivery with
  | idle | sent | retryWait =>
    rw [hd] at hstate
    obtain ⟨hqueue, -⟩ := hstate
    simp [hqueue]

/-- A message has been sent and its answer is awaited. -/
theorem State.displaySound_of_sent {busy : Nat} (hlen : s.yard.queue.length ≤ 4) (hsome : s.yard.queue ≠ []) (hbusy : busy ≤ 4)
    (hd : s.reader.display = ⟨.sent, toggle, busy, .running 200, .stopped⟩) : s.displaySound := by
  unfold State.displaySound
  rw [hd]
  exact ⟨hlen, hbusy, hsome, rfl, rfl⟩

/-- The channel is idle, or the head has just been sent. -/
theorem State.displaySound_of_pumped (hlen : s.yard.queue.length ≤ 4)
    (hd : s.reader.display = if s.yard.queue = [] then ⟨.idle, toggle, 0, .stopped, .stopped⟩
      else ⟨.sent, toggle, 0, .running 200, .stopped⟩) : s.displaySound := by
  by_cases hq : s.yard.queue = []
  · rw [if_pos hq] at hd
    unfold State.displaySound
    rw [hd]
    exact ⟨hlen, Nat.zero_le 4, hq, rfl, rfl, rfl⟩
  · rw [if_neg hq] at hd
    exact State.displaySound_of_sent hlen hq (Nat.zero_le 4) hd

/-! ### The Direction Queue changes (R140 to R143) -/

/-- The Direction Queue changes while the head is under way. -/
theorem State.displaySound.setQueue (h : s.displaySound) (hsome : s.yard.queue ≠ []) (hq : q ≠ []) (hlen : q.length ≤ 4) :
    (s.setQueue q).displaySound := by
  have hunderWay := h.underWay_iff.mpr hsome
  obtain ⟨-, hbusy, hstate⟩ := h
  refine ⟨hlen, hbusy, ?_⟩
  rw [State.setQueue_reader]
  cases hd : s.reader.display.delivery <;> rw [hd] at hstate
  · exact absurd hd hunderWay
  · exact ⟨hq, hstate.2⟩
  · exact ⟨hq, hstate.2⟩

/-- An idle channel of a sound device is at rest. -/
theorem State.displaySound.atRest (h : s.displaySound) (hnone : s.yard.queue = []) :
    s.reader.display = ⟨.idle, s.reader.display.sendToggle, 0, .stopped, .stopped⟩ := by
  have hidle : s.reader.display.delivery = .idle := by
    by_contra hne
    exact h.underWay_iff.mp hne hnone
  obtain ⟨-, -, hstate⟩ := h
  rw [hidle] at hstate
  obtain ⟨-, hanswer, hretry, hbusy⟩ := hstate
  rw [← hidle, ← hbusy]
  conv_rhs => rw [← hanswer]
  conv_rhs => arg 5; rw [hanswer, ← hretry]

theorem State.displaySound.joinQueue (h : s.displaySound) (hroom : s.yard.queue.length < 4) : (s.joinQueue m).displaySound := by
  have hlen : (s.yard.queue ++ [m]).length ≤ 4 := by simpa using hroom
  by_cases hnone : s.yard.queue = []
  · have hyard := State.joinQueue_yard m s
    obtain ⟨hdisplay, -⟩ := State.pumpDisplay_idle (s := s.setQueue (s.yard.queue ++ [m])) (h.atRest hnone)
    refine State.displaySound_of_pumped (toggle := s.reader.display.sendToggle) (by rwa [hyard]) (hdisplay.trans ?_)
    rw [hyard, State.setQueue]
  · have hsame : s.joinQueue m = s.setQueue (s.yard.queue ++ [m]) :=
      State.pumpDisplay_underWay (h.underWay_iff.mpr hnone)
    rw [hsame]
    exact h.setQueue hnone (by simp) hlen

theorem length_replaceOf (m : Message) (q : List Message) : (replaceOf m q).length = q.length := by
  induction q with
  | nil => rfl
  | cons x q ih =>
    unfold replaceOf
    split
    · rfl
    · simp [ih]

theorem State.displaySound.placeVisitMessage (h : s.displaySound) : (s.placeVisitMessage m).displaySound := by
  have hlen := h.1
  unfold State.placeVisitMessage
  split
  next x q hq =>
    rw [hq] at hlen
    repeat' split
    · exact h
    · exact h
    · exact h.setQueue (by simp [hq]) (by simp) (by simpa [length_replaceOf] using hlen)
    · exact h
    next hroom => exact h.joinQueue (by simp_all)
    · exact h
  next hq =>
    repeat' split
    · exact h
    · exact h.joinQueue (by simp [hq])
    · exact h

theorem State.displaySound.placeLaneClosed (h : s.displaySound) : s.placeLaneClosed.displaySound := by
  unfold State.placeLaneClosed
  split
  next hroom => exact h.joinQueue hroom
  next => exact h

theorem State.displaySound.joinHeld (h : s.displaySound) : s.joinHeld.displaySound := by
  unfold State.joinHeld
  split
  · split
    next hroom => exact State.displaySound.joinQueue h hroom
    next => exact h
  · exact h

theorem State.displaySound.dropMessages (h : s.displaySound) : (s.dropMessages n).displaySound := by
  unfold State.dropMessages
  dsimp only
  split
  · exact h
  next x q hq =>
    have hqueue : s.yard.queue = x :: q := hq
    have hlen := h.1
    rw [hqueue, List.length_cons] at hlen
    split
    next hfewer =>
      refine State.displaySound.joinHeld (State.displaySound.setQueue h ?_ (by simp) ?_)
      · simp [hqueue]
      · rw [List.length_cons]
        omega
    next => exact h

/-! ### The end of a delivery, and the display's answers (R58 to R60) -/

theorem State.displaySound.endDelivery {x : Message} (h : s.displaySound) (hq : s.yard.queue = x :: q) :
    (s.endDelivery m).displaySound := by
  have hroom := h.tail_room hq
  refine State.displaySound_of_pumped ?_ (State.endDelivery_sends (h.underWay_iff.mpr (by simp [hq]))).1
  rw [(State.endDelivery_messages hq hroom).1, List.length_append]
  cases s.yard.held.find? (fun x => x.mayJoin q) <;> simp <;> omega

theorem State.displaySound.deliveryAccepted (h : s.displaySound) : s.deliveryAccepted.displaySound := by
  unfold State.deliveryAccepted
  split
  · exact h
  next m q hq => exact h.endDelivery hq

theorem State.displaySound.deliveryGivenUp (h : s.displaySound) : s.deliveryGivenUp.displaySound := by
  cases hq : s.yard.queue with
  | nil =>
    unfold State.deliveryGivenUp
    rwa [hq]
  | cons m q =>
    obtain ⟨-, hreader, hyard, -⟩ := s.gaveUp_frame m
    rw [State.deliveryGivenUp_eq hq]
    exact (h.kept (t := s.gaveUp m) (by rw [hyard]) (by rw [hreader])).endDelivery (by rwa [hyard])

theorem State.displaySound.deliveryBusy (h : s.displaySound) (hsent : s.reader.display.delivery = .sent) :
    s.deliveryBusy.displaySound := by
  by_cases hfive : s.reader.display.busyCount + 1 < 5
  · rw [State.deliveryBusy_waits hfive]
    have hsome := h.underWay_iff.mp (by rw [hsent]; decide)
    exact ⟨h.1, by dsimp only; omega, hsome, rfl, rfl⟩
  · rw [State.deliveryBusy_givesUp (by omega)]
    exact h.deliveryGivenUp

theorem State.displaySound.displayAnswer {a : Answer} (h : s.displaySound) : (s.displayAnswer toggle a).displaySound := by
  unfold State.displayAnswer
  split
  next husable =>
    cases a with
    | accept => exact h.deliveryAccepted
    | busy => exact h.deliveryBusy husable.1
    | reject => exact h.deliveryGivenUp
  next => exact h

/-- A running answer wait is that of a message in SENT. -/
theorem State.displaySound.sent_of_answerWait (h : s.displaySound) (hrun : s.reader.display.answerWait.isRunning = true) :
    s.reader.display.delivery = .sent := by
  obtain ⟨-, -, hstate⟩ := h
  cases hd : s.reader.display.delivery with
  | sent => rfl
  | idle | retryWait =>
    rw [hd] at hstate
    obtain ⟨-, hstopped, -⟩ := hstate
    rw [hstopped] at hrun
    cases hrun

theorem State.displaySound.answerWaitExpired (h : s.displaySound) : s.answerWaitExpired.displaySound := by
  unfold State.answerWaitExpired
  split
  next hrun => exact h.deliveryBusy (h.sent_of_answerWait hrun)
  next => exact h

/-- A queued message sent, or sent again. -/
theorem State.displaySound.sendMessage {busy : Nat} (hlen : s.yard.queue.length ≤ 4) (hsome : s.yard.queue ≠ [])
    (hbusy : busy ≤ 4) : (s.sendMessage m busy).displaySound :=
  State.displaySound_of_sent hlen hsome hbusy rfl

theorem State.displaySound.retryWaitExpired (h : s.displaySound) : s.retryWaitExpired.displaySound := by
  obtain ⟨hlen, hbusy, -⟩ := id h
  unfold State.retryWaitExpired
  repeat' split
  · exact h
  next hq => exact .sendMessage hlen (by simp [hq]) hbusy
  · exact h

theorem State.displaySound.displayRestarted (h : s.displaySound) : s.displayRestarted.displaySound := by
  cases hq : s.yard.queue with
  | nil =>
    have hrest := h.atRest hq
    rw [State.displayRestarted_idle (by rw [hrest])]
    refine State.displaySound_of_pumped (toggle := false) h.1 ?_
    rw [if_pos hq]
    dsimp only
    rw [hrest]
  | cons m q =>
    rw [State.displayRestarted_resends (h.underWay_iff.mpr (by simp [hq])) hq]
    exact .sendMessage h.1 (by simp [hq]) (Nat.zero_le 4)

theorem State.displaySound.displayByte {b : Byte} (h : s.displaySound) : (s.displayByte b).displaySound := by
  unfold State.displayByte
  split
  · exact h
  · exact h.displayRestarted
  · exact h.displayAnswer

/-! ### Operations that only report -/

theorem State.displaySound.reportHolds (h : s.displaySound) : s.reportHolds.displaySound := h.kept

theorem State.displaySound.count {k : Counter} (h : s.displaySound) : (s.count k).displaySound := h.kept

theorem State.displaySound.setMode {x : LaneMode} (h : s.displaySound) : (s.setMode x).displaySound := h.kept

theorem State.displaySound.endClaim {r : ClaimResult} (h : s.displaySound) : (s.endClaim n r).displaySound := h.kept

theorem State.displaySound.openAsk (h : s.displaySound) : s.openAsk.displaySound := h.kept

theorem State.displaySound.offerOutcome (h : s.displaySound) : s.offerOutcome.displaySound := h.kept

theorem State.displaySound.testRaise (h : s.displaySound) : s.testRaise.displaySound := h.kept

theorem State.displaySound.yardLoopXVacated (h : s.displaySound) : s.yardLoopXVacated.displaySound := h.kept

theorem State.displaySound.checkReady (h : s.displaySound) : s.checkReady.displaySound := h.kept

theorem State.displaySound.portalClose (h : s.displaySound) : (s.portalClose n).displaySound := h.kept

theorem State.displaySound.attachAllHeld (h : s.displaySound) : s.attachAllHeld.displaySound := h.kept

/-! ### Visits -/

theorem State.displaySound.giveVerdict {vd : Verdict} (h : s.displaySound) : (s.giveVerdict n vd).displaySound := by
  unfold State.giveVerdict
  split
  · exact h
  next v _ =>
    have hrouted : ((s.writeVerdict n vd).routeVerdict v vd).2.displaySound := h.kept (by simp [State.writeVerdict]) (by simp)
    exact .reportHolds (.placeVisitMessage hrouted)

theorem State.displaySound.refuseVisit (h : s.displaySound) : (s.refuseVisit n).displaySound := by
  unfold State.refuseVisit
  dsimp only
  repeat' split
  · exact h
  · exact h.giveVerdict.endClaim
  · exact h.giveVerdict

theorem State.displaySound.admitWith {src : FlexSource} (h : s.displaySound) : (s.admitWith n src).displaySound := by
  unfold State.admitWith
  split
  · exact h
  · exact .giveVerdict h

theorem State.displaySound.enterClerkHold (h : s.displaySound) : (s.enterClerkHold n).displaySound := by
  unfold State.enterClerkHold
  dsimp only
  repeat' split
  · exact h
  · exact .reportHolds h
  · exact .reportHolds (.placeVisitMessage h)

theorem State.displaySound.giveNoCapacity (h : s.displaySound) : (s.giveNoCapacity n).displaySound := .enterClerkHold h

theorem State.displaySound.enterPlaceHold (h : s.displaySound) : (s.enterPlaceHold n).displaySound :=
  .reportHolds (.placeVisitMessage h)

theorem State.displaySound.laneLeft (h : s.displaySound) : (s.laneLeft n).displaySound := by
  have hdropped : ((s.raiseVisitLeaves n).dropMessages n).displaySound := .dropMessages h.kept
  exact .testRaise hdropped.kept

theorem State.displaySound.closeVisit (h : s.displaySound) : (s.closeVisit n).displaySound := by
  unfold State.closeVisit
  dsimp only
  split
  · exact h
  · split
    · exact .reportHolds (.laneLeft h.kept)
    · exact .reportHolds h.kept

theorem State.displaySound.leaveOverExit {v : Visit} (h : s.displaySound) : (s.leaveOverExit v).displaySound := by
  unfold State.leaveOverExit
  split
  · exact .reportHolds (.laneLeft h)
  · exact h.closeVisit

/-! ### The Capacity Unit -/

theorem State.displaySound.serveWaiter {rest : List VisitNumber} {src : FlexSource} (h : s.displaySound) :
    (s.serveWaiter n rest src).displaySound := .admitWith h

theorem State.displaySound.nextAsk {src : FlexSource} {fuel : Nat} (h : s.displaySound) :
    (State.nextAsk src fuel s).displaySound := by
  induction fuel generalizing s with
  | zero => exact h
  | succ fuel ih =>
    unfold State.nextAsk
    repeat' split
    · exact h
    · exact ih h.serveWaiter
    · exact h.openAsk
    · exact ih (.giveNoCapacity h)

theorem State.displaySound.checkWaiters {src : FlexSource} (h : s.displaySound) : (s.checkWaiters src).displaySound :=
  h.nextAsk

theorem State.displaySound.spareRose {src : FlexSource} (h : s.displaySound) : (s.spareRose src).displaySound := by
  unfold State.spareRose
  split
  · exact h
  · exact .checkWaiters h

theorem State.displaySound.askFails (h : s.displaySound) : s.askFails.displaySound := by
  unfold State.askFails
  dsimp only
  split
  · exact h
  · exact .checkWaiters (.giveNoCapacity h)

theorem State.displaySound.removeWaiter (h : s.displaySound) : (s.removeWaiter n).displaySound := by
  unfold State.removeWaiter
  repeat' split
  · exact h
  · exact .checkWaiters h
  · exact h

theorem State.displaySound.flexStep (h : s.displaySound) : (s.flexStep n).displaySound := by
  have hwaits : ((s.updVisit n (fun v => { v with state := .awaitLoan })).reportHolds).displaySound := .reportHolds h
  unfold State.flexStep
  dsimp only
  repeat' split
  · exact .admitWith h
  · exact .openAsk hwaits
  · exact hwaits
  · exact h.giveNoCapacity

theorem State.displaySound.takeConfirm {c : LaneId} {w : Window} {b : Byte} (h : s.displaySound) :
    (s.takeConfirm c w b).displaySound := by
  unfold State.takeConfirm
  dsimp only
  repeat' split
  · exact h
  · exact .checkWaiters (.serveWaiter h)
  · exact .askFails (.count h)
  · exact .spareRose h
  · exact .count h
  · exact h

theorem State.displaySound.takeVoid {c : LaneId} {w : Window} {b : Byte} (h : s.displaySound) :
    (s.takeVoid c w b).displaySound := by
  unfold State.takeVoid
  dsimp only
  split
  · exact .askFails h
  · exact h

theorem State.displaySound.askDeadline (h : s.displaySound) : s.askDeadline.displaySound := by
  unfold State.askDeadline
  repeat' split
  · exact h.askFails
  · exact h
  · exact h

theorem State.displaySound.takeDecline {c : LaneId} {w : Window} {b : Byte} (h : s.displaySound) :
    (s.takeDecline c w b).displaySound := by
  unfold State.takeDecline
  split
  · exact .spareRose h
  · exact h

theorem State.displaySound.offerExpired (h : s.displaySound) : s.offerExpired.displaySound := by
  unfold State.offerExpired
  split
  · exact h
  · exact .spareRose h

/-! ### Evaluation and the claims of peers -/

theorem State.displaySound.combine (h : s.displaySound) : (s.combine n).displaySound := by
  unfold State.combine
  repeat' split
  · exact h
  · exact h.refuseVisit
  · exact h.enterClerkHold
  · exact h.flexStep
  · exact h.giveVerdict

theorem State.displaySound.reserveAndCombine (h : s.displaySound) : (s.reserveAndCombine n).displaySound :=
  .combine h.kept

theorem State.displaySound.evaluate (h : s.displaySound) : (s.evaluate n).displaySound := by
  unfold State.evaluate
  split
  · exact h.reserveAndCombine
  · exact h.enterPlaceHold

theorem State.displaySound.placeFreed (h : s.displaySound) : s.placeFreed.displaySound := by
  unfold State.placeFreed
  repeat' split
  · exact h.reserveAndCombine
  · exact h
  · exact h

theorem State.displaySound.claimLost (h : s.displaySound) : (s.claimLost n).displaySound := by
  unfold State.claimLost
  dsimp only
  repeat' split
  case h_3 => exact .removeWaiter (.enterClerkHold h)
  all_goals exact h

theorem State.displaySound.takeClaimFrame {c : LaneId} {x : Text} {key : GatePoint} (h : s.displaySound) :
    (s.takeClaimFrame c x key).displaySound := by
  unfold State.takeClaimFrame
  repeat' split
  case h_3.isTrue => exact .claimLost h
  all_goals exact h

/-! ### Events of the lane -/

theorem State.displaySound.loopAOccupied (h : s.displaySound) : s.loopAOccupied.displaySound := by
  unfold State.loopAOccupied
  repeat' split
  · exact h
  · exact h
  · exact h.kept
  · exact h.kept
  · exact h.placeLaneClosed.count
  · exact h.placeLaneClosed.count

theorem State.displaySound.loopPOccupied (h : s.displaySound) : s.loopPOccupied.displaySound := by
  have hoverrun : s.overrunPortal.displaySound := h.kept
  unfold State.loopPOccupied
  dsimp only
  repeat' split
  · exact h
  · exact .attachAllHeld hoverrun
  · exact .attachAllHeld hoverrun.kept

theorem State.displaySound.loopSOccupied (h : s.displaySound) : s.loopSOccupied.displaySound := by
  unfold State.loopSOccupied
  repeat' split
  · exact h.evaluate
  · exact h.portalClose.evaluate
  · exact h

theorem State.displaySound.loopXVacated (h : s.displaySound) : s.loopXVacated.displaySound := by
  unfold State.loopXVacated
  dsimp only
  split
  · exact h.leaveOverExit.yardLoopXVacated
  · exact h.yardLoopXVacated

theorem State.displaySound.exitCheckExpired (h : s.displaySound) : (s.exitCheckExpired n).displaySound := by
  unfold State.exitCheckExpired
  dsimp only
  repeat' split
  · exact h
  · exact .leaveOverExit h
  · exact h
  · exact h

theorem State.displaySound.lineEvent {l : Line} {up : Bool} (h : s.displaySound) : (s.lineEvent l up).displaySound := by
  unfold State.lineEvent
  split
  case h_1 => exact h.loopAOccupied
  case h_3 => exact h.loopPOccupied
  case h_5 =>
    split
    · exact h
    · exact h.loopSOccupied
  case h_8 =>
    split
    · exact h.kept
    · exact h.loopXVacated
  case h_4 | h_7 =>
    split
    · exact h
    · exact h.kept
  all_goals exact h.kept

theorem State.displaySound.settleLine {l : Line} {ls : LineSet Bool} (h : s.displaySound) :
    (s.settleLine l ls).displaySound := State.displaySound.lineEvent h

theorem State.displaySound.pinChange {l : Line} {high : Bool} (h : s.displaySound) : (s.pinChange l high).displaySound := by
  unfold State.pinChange
  dsimp only
  repeat' split
  case h_2.isFalse.isTrue => exact .settleLine h
  all_goals exact h

theorem State.displaySound.debounceExpired {l : Line} (h : s.displaySound) : (s.debounceExpired l).displaySound := by
  unfold State.debounceExpired
  repeat' split
  · exact h
  · exact h.settleLine
  · exact h
  · exact h

/-! ### Commands of the office station -/

theorem State.displaySound.retakeDeferred (h : s.displaySound) : s.retakeDeferred.displaySound := by
  unfold State.retakeDeferred
  repeat' split
  · exact h.giveVerdict
  · exact h
  · exact h

theorem State.displaySound.takeRelease (h : s.displaySound) : (s.takeRelease n).displaySound := by
  unfold State.takeRelease
  repeat' split
  · exact h.count
  · exact .giveVerdict h.kept
  · exact .retakeDeferred (.closeVisit h.kept)
  · exact h.count

theorem State.displaySound.takeRefuse (h : s.displaySound) : (s.takeRefuse n).displaySound := by
  unfold State.takeRefuse
  repeat' split
  · exact h.count
  · exact h.refuseVisit
  · exact .retakeDeferred (.closeVisit h)
  · exact h.count

theorem State.displaySound.expireHold (h : s.displaySound) : (s.expireHold n).displaySound := by
  unfold State.expireHold
  repeat' split
  · exact h
  · exact h.refuseVisit
  · exact h.giveVerdict
  · exact h
  · exact h

theorem State.displaySound.holdTimeout (h : s.displaySound) : (s.holdTimeout n).displaySound := by
  unfold State.holdTimeout
  repeat' split
  · exact h
  · exact h.expireHold
  · exact h

/-! ### The bus and the clock -/

theorem State.displaySound.ownerTold {f : TxFrame} (h : s.displaySound) : (s.ownerTold f).displaySound := by
  unfold State.ownerTold
  repeat' split
  · exact .placeFreed h
  · exact h.kept
  · exact h
  · exact h

theorem State.displaySound.sent (h : s.displaySound) : s.sent.displaySound := by
  unfold State.sent
  dsimp only
  split
  · exact h
  · exact .offerOutcome (.ownerTold h.kept)

theorem State.displaySound.rollNotice {w : Window} {cls : Nat} (h : s.displaySound) :
    (s.rollNotice w cls).displaySound := by
  have hbooked : (s.bookingRoll w).displaySound := h.kept
  unfold State.rollNotice
  dsimp only
  repeat' split
  all_goals exact State.displaySound.checkWaiters hbooked

theorem State.displaySound.oneRoll (h : s.displaySound) : s.oneRoll.displaySound := .rollNotice h

theorem State.displaySound.rolls {k : Nat} (h : s.displaySound) : (State.rolls k s).displaySound := by
  induction k generalizing s with
  | zero => exact h
  | succ k ih => exact ih h.oneRoll

theorem State.displaySound.carryWindows {d : Int} {w : Window} (h : s.displaySound) : (s.carryWindows d w).displaySound := by
  unfold State.carryWindows
  split
  · exact h.rolls
  · exact .rollNotice h.rolls

theorem State.displaySound.expireHolds {ns : List VisitNumber} (h : s.displaySound) : (expireHolds ns s).displaySound := by
  induction ns generalizing s with
  | nil => exact h
  | cons n ns ih => exact ih h.expireHold

theorem State.displaySound.takeTime {bs : List Byte} (h : s.displaySound) : (s.takeTime bs).displaySound := by
  unfold State.takeTime
  repeat' split
  · exact h.count
  · exact h.count
  · exact .checkReady (.rollNotice h)
  · exact h
  · exact .expireHolds (.carryWindows h)

theorem State.displaySound.rollDue (h : s.displaySound) : s.rollDue.displaySound := by
  unfold State.rollDue
  split
  · exact h.oneRoll
  · exact h

/-! ### Resets -/

theorem State.enterReset_displaySound (s : State) (cause : ResetCause) (lost : Nat) :
    (s.enterReset cause lost).displaySound := by
  rw [State.enterReset_eq]
  exact ⟨Nat.zero_le 4, Nat.zero_le 4, rfl, rfl, rfl, rfl⟩

theorem State.displaySound.endReset {p : Straps} (h : s.displaySound) : (s.endReset p).displaySound := h.kept

theorem State.displaySound.handedOn {f : RxFrame} {rest : List RxFrame} (h : s.displaySound) :
    (s.handedOn f rest).displaySound := h

end

/-! ### Every command keeps the agreement -/

theorem State.displaySound.onFrame {s : State} {k : FrameKind} {act : RxFrame → State → State} (h : s.displaySound)
    (hact : ∀ f u, u.displaySound → (act f u).displaySound) : (s.onFrame k act).displaySound :=
  State.onFrame_induct State.displaySound h fun f _ => hact f _ h.handedOn

theorem State.displaySound.onLoanFrame {s : State} {k : FrameKind} {act : LaneId → Window → Byte → State → State}
    (h : s.displaySound) (hact : ∀ c w b u, u.displaySound → (act c w b u).displaySound) :
    (s.onFrame k fun f => State.loanFrame (act f.source) f.payload).displaySound :=
  h.onFrame fun f u hu => State.loanFrame_induct State.displaySound hu fun w b => hact f.source w b u hu

theorem State.displaySound.onClerkFrame {s : State} {k : FrameKind} {act : VisitNumber → State → State}
    (h : s.displaySound) (hact : ∀ n u, u.displaySound → (act n u).displaySound) :
    (s.onFrame k fun f => State.clerkFrame act f.payload).displaySound :=
  h.onFrame fun _ u hu => State.clerkFrame_induct State.displaySound hu.count fun n => hact n u hu

theorem State.displaySound.exec {c : Instr} {s t : State} (h : s.displaySound) (hexec : exec c s = .next t) :
    t.displaySound := by
  cases c <;> injection hexec with hexec <;> subst hexec
  case powerOn high p =>
    unfold State.powerUp
    dsimp only
    split
    · exact .endReset (State.enterReset_displaySound s .power 0)
    · exact State.enterReset_displaySound s .power 0
  case lineReset =>
    unfold State.lineResetTaken
    split
    · exact State.enterReset_displaySound s .line s.placesUsed
    · exact h
  case resetNRelease p =>
    unfold State.resetPinRises
    dsimp only
    repeat' split
    · exact h
    · exact .endReset h
    · exact h
  case resetReqFrame p =>
    refine h.onFrame fun _ _ hu => ?_
    unfold State.takeResetReq
    repeat' split
    · exact hu.count
    · exact .endReset (State.enterReset_displaySound _ _ _)
    · exact hu
  case configFrame =>
    refine h.onFrame fun _ _ hu => ?_
    unfold State.takeConfig
    repeat' split
    · exact hu.count
    · exact hu.count
    · exact hu.kept
  case lineLevelChange => exact h.pinChange
  case debounceExpiry => exact h.debounceExpired
  case windowRoll => exact h.rollDue
  case timeFrame => exact h.onFrame fun _ _ hu => hu.takeTime
  case holdTimeoutExpiry => exact h.holdTimeout
  case releaseFrame => exact h.onClerkFrame fun _ _ hu => hu.takeRelease
  case refuseFrame => exact h.onClerkFrame fun _ _ hu => hu.takeRefuse
  case exitCheckExpiry => exact h.exitCheckExpired
  case displayAccept | displayBusy | displayReject => exact h.displayAnswer
  case displayUnusableAnswer => exact h.displayByte
  case displayHello => exact h.displayRestarted
  case answerWaitExpiry => exact h.answerWaitExpired
  case retryWaitExpiry => exact h.retryWaitExpired
  case claimFrame =>
    refine h.onFrame fun _ _ hu => ?_
    unfold State.claimPayload
    split
    · exact hu.takeClaimFrame
    · exact hu
  case blockNoteFrame =>
    refine h.onFrame fun _ _ hu => ?_
    unfold State.notePayload
    split
    · exact hu.kept
    · exact hu
  case loanAskFrame | loanOfferFrame | loanTakeFrame => exact h.onLoanFrame fun _ _ _ _ hu => hu.kept
  case loanConfirmFrame => exact h.onLoanFrame fun _ _ _ _ hu => hu.takeConfirm
  case loanVoidFrame => exact h.onLoanFrame fun _ _ _ _ hu => hu.takeVoid
  case loanDeclineFrame => exact h.onLoanFrame fun _ _ _ _ hu => hu.takeDecline
  case askDeadlineExpiry => exact h.askDeadline
  case offerExpiry => exact h.offerExpired
  case openFrame | closeFrame | bookingFrame | bookingCancelFrame | claimEndFrame | alertClearFrame
      | countersFetchFrame =>
    exact h.onFrame fun _ _ hu => hu.kept
  case frameSent => exact h.sent
  all_goals exact h.kept

/-- Settles O9: every command keeps the agreement, and the queue of commands is no part of it. -/
theorem displayAgreesWithQueue : Obligations.DisplayAgreesWithQueue :=
  step_keeps (fun _ _ h => h) fun _ _ _ h hexec => h.exec hexec

end Sys2Proof.Machine
end

section
/-! The Booking Table: its references, the empty place that a record goes into, the candidate for displacement, and a record changed
or removed (R62, R66, R67). -/

namespace Sys2Proof.Machine

/-- The references in a table, in the order of their places. -/
def tableRefs (t : List (Option Booking)) : List Text := (t.filterMap id).map (·.ref)

theorem State.bookingsSound_iff (s : State) :
    s.bookingsSound ↔ s.booking.table.length = 64 ∧ (tableRefs s.booking.table).Nodup := Iff.rfl

section
variable {t before after : List (Option Booking)} {b c : Booking} {ref : Text} {w : Window}

@[simp] theorem tableRefs_none (t : List (Option Booking)) : tableRefs (none :: t) = tableRefs t := by rfl

@[simp] theorem tableRefs_some (b : Booking) (t : List (Option Booking)) : tableRefs (some b :: t) = b.ref :: tableRefs t := by
  rfl

@[simp] theorem tableRefs_append (t u : List (Option Booking)) : tableRefs (t ++ u) = tableRefs t ++ tableRefs u := by
  simp [tableRefs]

/-- A reference is unknown exactly where no place of the table has it. -/
theorem State.booking?_eq_none_iff {s : State} : s.booking? ref = none ↔ ref ∉ tableRefs s.booking.table := by
  rw [State.booking?, List.find?_eq_none]
  simp [tableRefs]

/-! ### A record is changed or removed -/

/-- Records that keep their references, or leave, add no reference. -/
theorem tableRefs_map_bind_sublist {g : Booking → Option Booking} (hg : ∀ b c, g b = some c → c.ref = b.ref)
    (t : List (Option Booking)) : (tableRefs (t.map (·.bind g))).Sublist (tableRefs t) := by
  induction t with
  | nil => exact .slnil
  | cons o t ih =>
    cases o with
    | none => exact ih
    | some b =>
      rw [List.map_cons, Option.bind_some, tableRefs_some]
      cases hc : g b with
      | none => exact ih.cons _
      | some c =>
        rw [tableRefs_some, hg b c hc]
        exact ih.cons_cons _

theorem updRecord_eq_bind (ref : Text) (f : Booking → Option Booking) (t : List (Option Booking)) :
    updRecord ref f t = t.map (·.bind fun b => if b.ref = ref then f b else some b) := by
  refine List.map_congr_left fun o _ => ?_
  cases o <;> rfl

/-- Without the reference in the table no record is touched. -/
theorem updRecord_of_notMem {f : Booking → Option Booking} (h : ref ∉ tableRefs t) : updRecord ref f t = t := by
  induction t with
  | nil => rfl
  | cons o t ih =>
    cases o with
    | none => exact congrArg (none :: ·) (ih h)
    | some b =>
      rw [tableRefs_some, List.mem_cons, not_or] at h
      obtain ⟨hne, hmem⟩ := h
      have hkept : updRecord ref f (some b :: t) = some b :: updRecord ref f t :=
        congrArg (· :: updRecord ref f t) (if_neg fun heq => hne heq.symm)
      rw [hkept, ih hmem]

/-- With unique references the removal of a record empties its place and no other (R67). -/
theorem updRecord_removes (h : (tableRefs (before ++ some c :: after)).Nodup) :
    updRecord c.ref (fun _ => none) (before ++ some c :: after) = before ++ none :: after := by
  rw [tableRefs_append, tableRefs_some, List.nodup_middle, List.nodup_cons, List.mem_append, not_or] at h
  obtain ⟨⟨hbefore, hafter⟩, -⟩ := h
  have hmiddle : updRecord c.ref (fun _ => none) (some c :: after) = none :: updRecord c.ref (fun _ => none) after :=
    congrArg (· :: updRecord c.ref (fun _ => none) after) (if_pos rfl)
  have happend : updRecord c.ref (fun _ => none) (before ++ some c :: after) =
      updRecord c.ref (fun _ => none) before ++ updRecord c.ref (fun _ => none) (some c :: after) := List.map_append
  rw [happend, hmiddle, updRecord_of_notMem hbefore, updRecord_of_notMem hafter]

/-! ### A record goes into the lowest-numbered empty place (R66) -/

@[simp] theorem length_fillEmpty (b : Booking) (t : List (Option Booking)) : (fillEmpty b t).length = t.length := by
  induction t with
  | nil => rfl
  | cons o t ih =>
    cases o with
    | none => rfl
    | some c => exact congrArg (· + 1) ih

theorem fillEmpty_lowest (h : none ∉ before) : fillEmpty b (before ++ none :: after) = before ++ some b :: after := by
  induction before with
  | nil => rfl
  | cons o before ih =>
    cases o with
    | none => exact absurd List.mem_cons_self h
    | some c => exact congrArg (some c :: ·) (ih fun hmem => h (List.mem_cons_of_mem _ hmem))

/-- Of the references, at most the new record's is added. -/
theorem tableRefs_fillEmpty_subperm (b : Booking) (t : List (Option Booking)) :
    (tableRefs (fillEmpty b t)).Subperm (b.ref :: tableRefs t) := by
  induction t with
  | nil => exact List.nil_subperm
  | cons o t ih =>
    cases o with
    | none => exact List.Subperm.refl _
    | some c =>
      have hkept : (tableRefs (fillEmpty b (some c :: t))).Subperm (c.ref :: b.ref :: tableRefs t) :=
        (List.subperm_cons c.ref).mpr ih
      exact hkept.trans (List.Perm.swap _ _ _).subperm

theorem nodup_tableRefs_fillEmpty (h : (tableRefs t).Nodup) (hnew : b.ref ∉ tableRefs t) :
    (tableRefs (fillEmpty b t)).Nodup := by
  obtain ⟨refs, hperm, hsub⟩ := tableRefs_fillEmpty_subperm b t
  exact hperm.nodup_iff.mp (hsub.nodup (List.nodup_cons.mpr ⟨hnew, h⟩))

/-! ### The candidate for displacement (R67) -/

theorem farthestOpen_mem (h : farthestOpen w t = some c) : some c ∈ t ∧ c.state = .available := by
  induction t generalizing c with
  | nil => cases h
  | cons o t ih =>
    have hlater (hc : farthestOpen w t = some c) : some c ∈ o :: t ∧ c.state = .available :=
      ⟨List.mem_cons_of_mem _ (ih hc).1, (ih hc).2⟩
    unfold farthestOpen at h
    split at h
    next b d hd =>
      split at h
      next hfar => cases h; exact ⟨List.mem_cons_self, hfar.1⟩
      next => exact hlater (hd.trans h)
    next b hd =>
      split at h
      next havail => cases h; exact ⟨List.mem_cons_self, havail⟩
      next => cases h
    next => exact hlater h

theorem farthestOpen_eq_none (h : ∀ x, some x ∈ t → x.state ≠ .available) : farthestOpen w t = none := by
  cases hc : farthestOpen w t with
  | none => rfl
  | some c =>
    obtain ⟨hmem, havail⟩ := farthestOpen_mem hc
    exact absurd havail (h c hmem)

/-- The OPEN record that no other lies ahead of, in the lowest-numbered place among equals, is the candidate. -/
theorem farthestOpen_eq_some (havail : c.state = .available)
    (hbefore : ∀ x, some x ∈ before → x.state = .available → winDist w x.window < winDist w c.window)
    (hafter : ∀ x, some x ∈ after → x.state = .available → winDist w x.window ≤ winDist w c.window) :
    farthestOpen w (before ++ some c :: after) = some c := by
  induction before with
  | nil =>
    show farthestOpen w (some c :: after) = some c
    unfold farthestOpen
    cases hd : farthestOpen w after with
    | none => exact if_pos havail
    | some d =>
      obtain ⟨hmem, hopen⟩ := farthestOpen_mem hd
      exact if_pos ⟨havail, hafter d hmem hopen⟩
  | cons o before ih =>
    have hrest := ih fun x hx => hbefore x (List.mem_cons_of_mem _ hx)
    show farthestOpen w (o :: (before ++ some c :: after)) = some c
    unfold farthestOpen
    rw [hrest]
    cases o with
    | none => rfl
    | some b =>
      refine if_neg fun ⟨hopen, hfar⟩ => ?_
      exact absurd hfar (not_le.mpr (hbefore b List.mem_cons_self hopen))

end

end Sys2Proof.Machine
end

section
/-! O50: BOOKING. -/

namespace Sys2Proof.Machine

section
variable {s : State} {f : BookingForm} {o : Booking} {w : Window}

/-! ### The booking horizon (R65) -/

theorem State.takeBooking_windowless (hw : s.booking.window = none) : s.takeBooking f = s.count .framesIgnored := by
  unfold State.takeBooking
  rw [hw]

/-- A booking too far ahead, or expired, is ignored. -/
theorem State.takeBooking_outside (hw : s.booking.window = some w)
    (h : 8 < winDist w f.window ∨ bookingExpired s.general w f.window = true) :
    s.takeBooking f = s.count .framesIgnored := by
  unfold State.takeBooking
  rw [hw]
  exact if_pos (by simpa using h)

/-- A booking within the horizon for a reference in the table. -/
theorem State.takeBooking_known (hw : s.booking.window = some w) (hnear : winDist w f.window ≤ 8)
    (hlive : bookingExpired s.general w f.window = false) (ho : s.booking? f.ref = some o) :
    s.takeBooking f = s.replaceBooking f o := by
  unfold State.takeBooking
  rw [hw, ho]
  exact if_neg (by simpa [hlive] using hnear)

/-- A booking within the horizon for a new reference. -/
theorem State.takeBooking_new (hw : s.booking.window = some w) (hnear : winDist w f.window ≤ 8)
    (hlive : bookingExpired s.general w f.window = false) (hnew : s.booking? f.ref = none) :
    s.takeBooking f = s.insertBooking f w := by
  unfold State.takeBooking
  rw [hw, hnew]
  exact if_neg (by simpa [hlive] using hnear)

/-! ### A new reference (R66, R67) -/

section
variable {before after : List (Option Booking)} {c : Booking}

theorem State.insertBooking_lowest (htable : s.booking.table = before ++ none :: after) (hbefore : none ∉ before) :
    s.insertBooking f w = s.setTable (before ++ some f.record :: after) := by
  have hroom : s.booking.table.any Option.isNone = true := by simp [htable]
  unfold State.insertBooking
  rw [if_pos hroom, htable, fillEmpty_lowest hbefore]

theorem State.insertBooking_noCandidate (hfull : none ∉ s.booking.table)
    (hnone : ∀ x, some x ∈ s.booking.table → x.state ≠ .available) :
    s.insertBooking f w = s.count .bookingsDropped := by
  have hnoRoom : ¬ s.booking.table.any Option.isNone = true := by simpa using hfull
  unfold State.insertBooking
  rw [if_neg hnoRoom, farthestOpen_eq_none hnone]

/-- The new record takes the candidate's place where the candidate's window is the later; else the frame is dropped. -/
theorem State.insertBooking_candidate (hsound : s.bookingsSound) (hfull : none ∉ s.booking.table)
    (htable : s.booking.table = before ++ some c :: after) (hc : farthestOpen w s.booking.table = some c) :
    s.insertBooking f w =
      if 0 < winDist f.window c.window then (s.setTable (before ++ some f.record :: after)).count .bookingsDropped
      else s.count .bookingsDropped := by
  obtain ⟨-, hnodup⟩ := s.bookingsSound_iff.mp hsound
  rw [htable] at hnodup
  have hbefore : none ∉ before := fun h => hfull (htable ▸ List.mem_append_left _ h)
  have hnoRoom : ¬ s.booking.table.any Option.isNone = true := by simpa using hfull
  unfold State.insertBooking
  rw [if_neg hnoRoom, hc]
  dsimp only
  rw [htable, updRecord_removes hnodup, fillEmpty_lowest hbefore]

end

/-! ### A reference in the table (R68) -/

theorem State.replaceBooking_replaces (h : o.state = .available ∨ o.state = .cancelled ∨
      (f.reissue = true ∧ (o.state = .used ∨ ∃ k p, o.state = .elsewhere k p))) :
    s.replaceBooking f o =
      s.setTable (s.booking.table.map (fun x => x.map (fun q => if q.ref = f.ref then f.record else q))) := by
  rw [← updRecord_some]
  unfold State.replaceBooking
  rcases h with h | h | ⟨hreissue, h | ⟨k, p, h⟩⟩
  · rw [h]
  · rw [h]
  · rw [h, hreissue]; rfl
  · rw [h, hreissue]; rfl

theorem State.replaceBooking_refuses (h : (∃ p n, o.state = .here p n) ∨
      (f.reissue = false ∧ (o.state = .used ∨ ∃ k p, o.state = .elsewhere k p))) :
    s.replaceBooking f o = s.count .updatesRefused := by
  unfold State.replaceBooking
  rcases h with ⟨p, n, h⟩ | ⟨hreissue, h | ⟨k, p, h⟩⟩
  · rw [h]
  · rw [h, hreissue]; rfl
  · rw [h, hreissue]; rfl

end

/-- Settles O50. -/
theorem newBookingTakesTheLowestPlace : Obligations.NewBookingTakesTheLowestPlace := by
  intro s u f rest hf hu
  have hexec : exec .bookingFrame s = .next (u.bookingPayload f.payload) := by
    rw [hu]
    exact congrArg _ (State.onFrame_taken hf)
  have hbooking : u.booking = s.booking := by simp [hu]
  have hgeneral : u.general = s.general := by simp [hu]
  have hfind (ref : Text) : u.booking? ref = s.booking? ref := by simp [hu]
  rw [hexec]
  refine ⟨fun hform => by rw [State.bookingPayload, hform], fun b hform => ?_⟩
  have hpayload : u.bookingPayload f.payload = u.takeBooking b := by rw [State.bookingPayload, hform]
  rw [hpayload, ← hbooking]
  refine ⟨fun hw => congrArg _ (State.takeBooking_windowless hw), fun w hw =>
    ⟨fun h => congrArg _ (State.takeBooking_outside hw (by rwa [hgeneral])), fun r hnear hlive hr => ?_⟩⟩
  have hrecord : b.record = r := hr.symm
  rw [← hgeneral] at hlive
  rw [← hfind]
  refine ⟨fun before after hnew htable hbefore => ?_, fun hnew hfull => ⟨fun hnone => ?_,
    fun before c after hsound htable havail hnearer hnoLater => ?_⟩, fun o ho => ⟨fun h => ?_, fun h => ?_⟩⟩
  · rw [State.takeBooking_new hw hnear hlive hnew, ← hrecord]
    exact congrArg _ (State.insertBooking_lowest htable hbefore)
  · rw [State.takeBooking_new hw hnear hlive hnew]
    exact congrArg _ (State.insertBooking_noCandidate hfull hnone)
  · have hsound' : u.bookingsSound := by rwa [State.bookingsSound, hbooking]
    have hc : farthestOpen w u.booking.table = some c := htable ▸ farthestOpen_eq_some havail hnearer hnoLater
    rw [State.takeBooking_new hw hnear hlive hnew, State.insertBooking_candidate hsound' hfull htable hc, hrecord]
    exact ⟨fun hlater => congrArg _ (if_pos hlater), fun hnotLater => congrArg _ (if_neg (not_lt.mpr hnotLater))⟩
  · rw [State.takeBooking_known hw hnear hlive ho, ← hrecord]
    exact congrArg _ (State.replaceBooking_replaces h)
  · rw [State.takeBooking_known hw hnear hlive ho]
    exact congrArg _ (State.replaceBooking_refuses h)

end Sys2Proof.Machine
end

section
/-! O10: the 64 places of the Booking Table and its unique references. Most commands leave the Booking Store alone; the others change
or remove a record in its place, and only a BOOKING for a new reference adds one. -/

namespace Sys2Proof.Machine

section
variable {s t : State} {n : VisitNumber} {ref : Text} {w : Window}

/-! ### What happens to a table (R66 to R70, R73, R77 to R80) -/

/-- The places and references are a matter of the Booking Store. -/
theorem State.bookingsSound.kept (h : s.bookingsSound) (hbooking : t.booking = s.booking) : t.bookingsSound := by
  unfold State.bookingsSound
  rw [hbooking]
  exact h

/-- Records change in their places, keeping their references, or leave. -/
theorem State.bookingsSound.mapped {g : Booking → Option Booking} (h : s.bookingsSound)
    (hg : ∀ b c, g b = some c → c.ref = b.ref) (htable : t.booking.table = s.booking.table.map (·.bind g)) :
    t.bookingsSound := by
  obtain ⟨hlength, hnodup⟩ := h
  refine t.bookingsSound_iff.mpr ⟨?_, ?_⟩
  · rw [htable, List.length_map, hlength]
  · rw [htable]
    exact (tableRefs_map_bind_sublist hg _).nodup hnodup

/-- One record changes, keeping its reference, or leaves. -/
theorem State.bookingsSound.setRecord {f : Booking → Option Booking} (h : s.bookingsSound)
    (hf : ∀ b c, b.ref = ref → f b = some c → c.ref = ref) :
    (s.setTable (updRecord ref f s.booking.table)).bookingsSound := by
  refine h.mapped (fun b c hc => ?_) (updRecord_eq_bind ref f _)
  split at hc
  next href => rw [hf b c href hc, href]
  next => cases hc; rfl

theorem State.bookingsSound.recordSet {st : BookingState} (h : s.bookingsSound) : (s.recordSet ref st).bookingsSound :=
  h.setRecord fun _ _ href hc => by cases hc; exact href

/-- A record with a new reference goes into an empty place. -/
theorem State.bookingsSound.insert {b : Booking} (h : s.bookingsSound) (hnew : b.ref ∉ tableRefs s.booking.table) :
    (s.setTable (fillEmpty b s.booking.table)).bookingsSound := by
  obtain ⟨hlength, hnodup⟩ := h
  refine (State.bookingsSound_iff _).mpr ⟨?_, nodup_tableRefs_fillEmpty hnodup hnew⟩
  exact (length_fillEmpty b _).trans hlength

/-- A record tested for expiry keeps its reference, if it stays. -/
theorem State.keepUnlessExpired_ref {b c : Booking} (h : s.keepUnlessExpired b = some c) : c.ref = b.ref := by
  unfold State.keepUnlessExpired at h
  split at h
  · split at h <;> cases h
    rfl
  · cases h; rfl

/-! ### Operations that leave the Booking Store alone -/

theorem State.bookingsSound.count {k : Counter} (h : s.bookingsSound) : (s.count k).bookingsSound := h.kept (by simp)

theorem State.bookingsSound.updVisit {g : Visit → Visit} (h : s.bookingsSound) : (s.updVisit n g).bookingsSound := h

theorem State.bookingsSound.handClass0 {o : OutboxOwner} {f : TxFrame} (h : s.bookingsSound) :
    (s.handClass0 o f).bookingsSound := h.kept (by simp)

theorem State.bookingsSound.claimLost (h : s.bookingsSound) : (s.claimLost n).bookingsSound := h.kept (by simp)

theorem State.bookingsSound.claimCancelled (h : s.bookingsSound) : (s.claimCancelled n).bookingsSound := h.kept (by simp)

theorem State.bookingsSound.yardLoopXVacated (h : s.bookingsSound) : s.yardLoopXVacated.bookingsSound := h.kept (by simp)

theorem State.bookingsSound.retakeDeferred (h : s.bookingsSound) : s.retakeDeferred.bookingsSound := h.kept (by simp)

theorem State.bookingsSound.offerOutcome (h : s.bookingsSound) : s.offerOutcome.bookingsSound := h.kept (by simp)

theorem State.bookingsSound.checkReady (h : s.bookingsSound) : s.checkReady.bookingsSound := h.kept (by simp)

theorem State.bookingsSound.endReset {p : Straps} (h : s.bookingsSound) : (s.endReset p).bookingsSound := h.kept (by simp)

/-! ### BOOKING (R65 to R68) -/

theorem State.bookingsSound.insertBooking {f : BookingForm} (h : s.bookingsSound) (hnew : s.booking? f.ref = none) :
    (s.insertBooking f w).bookingsSound := by
  rw [State.booking?_eq_none_iff] at hnew
  unfold State.insertBooking
  repeat' split
  · exact h.insert hnew
  next c _ _ =>
    have hremoved : (s.setTable (updRecord c.ref (fun _ => none) s.booking.table)).bookingsSound :=
      h.setRecord fun _ _ _ hc => by cases hc
    have hstillNew : f.ref ∉ tableRefs (updRecord c.ref (fun _ => none) s.booking.table) := by
      rw [updRecord_eq_bind]
      refine fun hmem => hnew ((tableRefs_map_bind_sublist (fun b d hd => ?_) _).subset hmem)
      split at hd <;> cases hd
      rfl
    exact .count (hremoved.insert (b := f.record) hstillNew)
  · exact h.count
  · exact h.count

theorem State.bookingsSound.replaceBooking {f : BookingForm} {o : Booking} (h : s.bookingsSound) :
    (s.replaceBooking f o).bookingsSound := by
  have hreplaced : (s.setTable (updRecord f.ref (fun _ => some f.record) s.booking.table)).bookingsSound :=
    h.setRecord fun _ _ _ hc => by cases hc; rfl
  unfold State.replaceBooking
  dsimp only
  repeat' split
  · exact hreplaced
  · exact hreplaced
  · exact h.count
  · exact hreplaced
  · exact h.count
  · exact hreplaced
  · exact h.count

theorem State.bookingsSound.takeBooking {f : BookingForm} (h : s.bookingsSound) : (s.takeBooking f).bookingsSound := by
  unfold State.takeBooking
  repeat' split
  · exact h.count
  · exact h.count
  · exact h.replaceBooking
  next hnew => exact h.insertBooking hnew

/-! ### Claims and roll notices (R70, R73, R77 to R80) -/

theorem State.bookingsSound.takeClaim {b : Booking} (h : s.bookingsSound) : (s.takeClaim n b).bookingsSound :=
  .handClass0 (.updVisit (h.recordSet (ref := b.ref)))

theorem State.bookingsSound.selectFor {v : Visit} (h : s.bookingsSound) : (s.selectFor v).2.bookingsSound := by
  have hweighed : (s.plateWeighed v).bookingsSound := h.kept (s.plateWeighed_leaves v).1
  cases hb : selectBooking s.general.plateThreshold v s.clock.window s.booking.table with
  | none =>
    rw [State.selectFor_none hb]
    exact hweighed
  | some b =>
    rw [State.selectFor_some hb]
    exact hweighed.takeClaim

theorem State.bookingsSound.endClaim {r : ClaimResult} (h : s.bookingsSound) : (s.endClaim n r).bookingsSound := by
  unfold State.endClaim
  repeat' split
  · exact h
  · exact h
  next ref _ =>
    refine .handClass0 (.updVisit (h.setRecord (ref := ref) fun b c href hc => ?_))
    repeat' split at hc
    · exact (State.keepUnlessExpired_ref hc).trans href
    · cases hc; exact href
    · cases hc; exact href

theorem State.bookingsSound.takeClaimEnd {c : LaneId} {r : ClaimResult} (h : s.bookingsSound) :
    (s.takeClaimEnd c ref r).bookingsSound := by
  refine h.setRecord fun b d href hd => ?_
  repeat' split at hd
  · exact (State.keepUnlessExpired_ref hd).trans href
  · cases hd; exact href
  · cases hd; exact href

theorem State.bookingsSound.takeCancel (h : s.bookingsSound) : (s.takeCancel ref).bookingsSound := by
  have hcancelled : (s.recordSet ref .cancelled).bookingsSound := h.recordSet
  unfold State.takeCancel
  repeat' split
  · exact h
  · exact hcancelled
  · exact hcancelled
  · exact .claimCancelled hcancelled
  · exact h
  · exact h

theorem State.bookingsSound.takeClaimFrame {c : LaneId} {key : GatePoint} (h : s.bookingsSound) :
    (s.takeClaimFrame c ref key).bookingsSound := by
  have hfollows : (s.recordSet ref (.elsewhere c key)).bookingsSound := h.recordSet
  unfold State.takeClaimFrame
  repeat' split
  · exact h
  · exact hfollows
  · exact hfollows
  · exact hfollows
  · exact h
  · exact .claimLost hfollows
  · exact h
  · exact h
  · exact h

theorem State.bookingsSound.bookingRoll (h : s.bookingsSound) : (s.bookingRoll w).bookingsSound := by
  refine h.mapped (fun b c hc => ?_) (congrArg BookingStore.table (State.bookingRoll_table w s))
  split at hc
  · cases hc; rfl
  · split at hc <;> cases hc
    rfl

/-! ### Visits whose claims end, and visits that select a booking -/

theorem State.bookingsSound.refuseVisit (h : s.bookingsSound) : (s.refuseVisit n).bookingsSound := by
  have hgiven : (s.giveVerdict n .refuse).bookingsSound := h.kept (by simp)
  unfold State.refuseVisit
  dsimp only
  repeat' split
  · exact h
  · exact hgiven.endClaim
  · exact hgiven

theorem State.bookingsSound.endClaimAtClose {v : Visit} (h : s.bookingsSound) : (s.endClaimAtClose v).bookingsSound := by
  unfold State.endClaimAtClose
  split
  · exact h.endClaim
  · exact h

theorem State.bookingsSound.closeVisit (h : s.bookingsSound) : (s.closeVisit n).bookingsSound := by
  unfold State.closeVisit
  dsimp only
  split
  · exact h
  next v _ =>
    have hclosed : ((s.fillPlace { v with closeStamp := some s.point }).endClaimAtClose
      { v with closeStamp := some s.point }).bookingsSound := .endClaimAtClose (h.kept (by simp))
    split
    · exact hclosed.kept (by simp)
    · exact hclosed.kept (by simp)

theorem State.bookingsSound.leaveOverExit {v : Visit} (h : s.bookingsSound) : (s.leaveOverExit v).bookingsSound := by
  unfold State.leaveOverExit
  split
  · exact h.kept (by simp)
  · exact h.closeVisit

theorem State.bookingsSound.portalClose (h : s.bookingsSound) : (s.portalClose n).bookingsSound := by
  have htruncated : (s.truncatePass n).bookingsSound := h.kept (by simp)
  unfold State.portalClose
  dsimp only
  split
  · exact htruncated
  · exact htruncated.selectFor

/-! ### Evaluation -/

theorem State.bookingsSound.combine (h : s.bookingsSound) : (s.combine n).bookingsSound := by
  unfold State.combine
  repeat' split
  · exact h
  · exact h.refuseVisit
  · exact h.kept (by simp)
  · exact h.kept (by simp)
  · exact h.kept (by simp)

theorem State.bookingsSound.reserveAndCombine (h : s.bookingsSound) : (s.reserveAndCombine n).bookingsSound :=
  .combine (h.kept (by simp))

theorem State.bookingsSound.evaluate (h : s.bookingsSound) : (s.evaluate n).bookingsSound := by
  unfold State.evaluate
  split
  · exact h.reserveAndCombine
  · exact h.kept (by simp)

theorem State.bookingsSound.placeFreed (h : s.bookingsSound) : s.placeFreed.bookingsSound := by
  unfold State.placeFreed
  repeat' split
  · exact h.reserveAndCombine
  · exact h
  · exact h.kept (by simp)

/-! ### Events of the lane -/

theorem State.bookingsSound.loopPOccupied (h : s.bookingsSound) : s.loopPOccupied.bookingsSound := by
  have hoverrun : s.overrunPortal.bookingsSound := by
    unfold State.overrunPortal
    split
    · exact h.portalClose
    · exact h
  unfold State.loopPOccupied
  dsimp only
  repeat' split
  · exact h
  · exact hoverrun.kept (by simp)
  · exact hoverrun.kept (by simp)

theorem State.bookingsSound.loopPVacated (h : s.bookingsSound) : s.loopPVacated.bookingsSound := by
  unfold State.loopPVacated
  split
  · exact h.portalClose
  · exact h

theorem State.bookingsSound.loopSOccupied (h : s.bookingsSound) : s.loopSOccupied.bookingsSound := by
  unfold State.loopSOccupied
  repeat' split
  · exact h.evaluate
  · exact h.portalClose.evaluate
  · exact h

theorem State.bookingsSound.loopXVacated (h : s.bookingsSound) : s.loopXVacated.bookingsSound := by
  unfold State.loopXVacated
  dsimp only
  split
  · exact h.leaveOverExit.yardLoopXVacated
  · exact h.yardLoopXVacated

theorem State.bookingsSound.exitCheckExpired (h : s.bookingsSound) : (s.exitCheckExpired n).bookingsSound := by
  unfold State.exitCheckExpired
  dsimp only
  repeat' split
  · exact h
  · exact .leaveOverExit h
  · exact h
  · exact h

theorem State.bookingsSound.lineEvent {l : Line} {up : Bool} (h : s.bookingsSound) : (s.lineEvent l up).bookingsSound := by
  unfold State.lineEvent
  split
  case h_3 => exact h.loopPOccupied
  case h_4 =>
    split
    · exact h
    · exact h.loopPVacated
  case h_5 =>
    split
    · exact h
    · exact h.loopSOccupied
  case h_7 =>
    split
    · exact h
    · exact h.kept (by simp)
  case h_8 =>
    split
    · exact h.kept (by simp)
    · exact h.loopXVacated
  all_goals exact h.kept (by simp)

theorem State.bookingsSound.settleLine {l : Line} {ls : LineSet Bool} (h : s.bookingsSound) :
    (s.settleLine l ls).bookingsSound := State.bookingsSound.lineEvent h

theorem State.bookingsSound.pinChange {l : Line} {high : Bool} (h : s.bookingsSound) :
    (s.pinChange l high).bookingsSound := by
  unfold State.pinChange
  dsimp only
  repeat' split
  case h_2.isFalse.isTrue => exact .settleLine h
  all_goals exact h

theorem State.bookingsSound.debounceExpired {l : Line} (h : s.bookingsSound) : (s.debounceExpired l).bookingsSound := by
  unfold State.debounceExpired
  repeat' split
  · exact h
  · exact h.settleLine
  · exact h
  · exact h

/-! ### Clerk decisions and hold timeouts -/

theorem State.bookingsSound.takeRelease (h : s.bookingsSound) : (s.takeRelease n).bookingsSound := by
  unfold State.takeRelease
  repeat' split
  · exact h.count
  · exact h.kept (by simp)
  · exact .retakeDeferred (.closeVisit (h.kept (by simp)))
  · exact h.count

theorem State.bookingsSound.takeRefuse (h : s.bookingsSound) : (s.takeRefuse n).bookingsSound := by
  unfold State.takeRefuse
  repeat' split
  · exact h.count
  · exact h.refuseVisit
  · exact .retakeDeferred (.closeVisit h)
  · exact h.count

theorem State.bookingsSound.expireHold (h : s.bookingsSound) : (s.expireHold n).bookingsSound := by
  unfold State.expireHold
  repeat' split
  · exact h
  · exact h.refuseVisit
  · exact h.kept (by simp)
  · exact h
  · exact h

theorem State.bookingsSound.holdTimeout (h : s.bookingsSound) : (s.holdTimeout n).bookingsSound := by
  unfold State.holdTimeout
  repeat' split
  · exact h
  · exact h.expireHold
  · exact h

/-! ### The bus and the clock -/

theorem State.bookingsSound.sent (h : s.bookingsSound) : s.sent.bookingsSound := by
  unfold State.sent
  dsimp only
  split
  · exact h
  next e _ =>
    have hdrained : (((s.setTxQueue (s.bus.txQueue.eraseP (·.sending))).emit
      (.busFrame (e.frame.bytes s.laneId))).drainOutbox).bookingsSound := h.kept (by simp)
    refine .offerOutcome ?_
    unfold State.ownerTold
    split
    · exact .placeFreed hdrained
    · split
      · exact hdrained.kept (by simp)
      · exact hdrained
    · exact hdrained

theorem State.bookingsSound.rollNotice {cls : Nat} (h : s.bookingsSound) : (s.rollNotice w cls).bookingsSound := by
  have hrolled : (s.bookingRoll w).bookingsSound := h.bookingRoll
  unfold State.rollNotice
  dsimp only
  repeat' split
  all_goals exact hrolled.kept (by simp)

theorem State.bookingsSound.oneRoll (h : s.bookingsSound) : s.oneRoll.bookingsSound := .rollNotice h

theorem State.bookingsSound.rolls {k : Nat} (h : s.bookingsSound) : (State.rolls k s).bookingsSound := by
  induction k generalizing s with
  | zero => exact h
  | succ k ih => exact ih h.oneRoll

theorem State.bookingsSound.carryWindows {d : Int} (h : s.bookingsSound) : (s.carryWindows d w).bookingsSound := by
  unfold State.carryWindows
  split
  · exact h.rolls
  · exact .rollNotice h.rolls

theorem State.bookingsSound.expireHolds {ns : List VisitNumber} (h : s.bookingsSound) : (expireHolds ns s).bookingsSound := by
  induction ns generalizing s with
  | nil => exact h
  | cons n ns ih => exact ih h.expireHold

theorem State.bookingsSound.takeTime {bs : List Byte} (h : s.bookingsSound) : (s.takeTime bs).bookingsSound := by
  unfold State.takeTime
  repeat' split
  · exact h.count
  · exact h.count
  · exact .checkReady (.rollNotice h)
  · exact h
  · exact .expireHolds (.carryWindows h)

theorem State.bookingsSound.rollDue (h : s.bookingsSound) : s.rollDue.bookingsSound := by
  unfold State.rollDue
  split
  · exact h.oneRoll
  · exact h

/-! ### Resets -/

theorem State.enterReset_bookingsSound (s : State) (cause : ResetCause) (lost : Nat) :
    (s.enterReset cause lost).bookingsSound := by
  obtain ⟨-, -, -, -, -, -, -, hreset, -⟩ := resetIsSound
  exact hreset

/-! ### Every command keeps the places and the references -/

theorem State.bookingsSound.onFrame {k : FrameKind} {act : RxFrame → State → State} (h : s.bookingsSound)
    (hact : ∀ f u, u.bookingsSound → (act f u).bookingsSound) : (s.onFrame k act).bookingsSound :=
  State.onFrame_induct State.bookingsSound h fun f rest => hact f _ (h.kept (t := s.handedOn f rest) (by simp))

theorem State.bookingsSound.onLoanFrame {k : FrameKind} {act : LaneId → Window → Byte → State → State}
    (h : s.bookingsSound) (hact : ∀ c w b u, u.bookingsSound → (act c w b u).bookingsSound) :
    (s.onFrame k fun f => State.loanFrame (act f.source) f.payload).bookingsSound :=
  h.onFrame fun f u hu => State.loanFrame_induct State.bookingsSound hu fun w b => hact f.source w b u hu

theorem State.bookingsSound.onClerkFrame {k : FrameKind} {act : VisitNumber → State → State}
    (h : s.bookingsSound) (hact : ∀ n u, u.bookingsSound → (act n u).bookingsSound) :
    (s.onFrame k fun f => State.clerkFrame act f.payload).bookingsSound :=
  h.onFrame fun _ u hu => State.clerkFrame_induct State.bookingsSound hu.count fun n => hact n u hu

theorem State.bookingsSound.exec {c : Instr} (h : s.bookingsSound) (hexec : exec c s = .next t) : t.bookingsSound := by
  cases c <;> injection hexec with hexec <;> subst hexec
  case powerOn high p =>
    unfold State.powerUp
    dsimp only
    split
    · exact .endReset (State.enterReset_bookingsSound s .power 0)
    · exact State.enterReset_bookingsSound s .power 0
  case lineReset =>
    unfold State.lineResetTaken
    split
    · exact State.enterReset_bookingsSound s .line s.placesUsed
    · exact h
  case resetNRelease p =>
    unfold State.resetPinRises
    dsimp only
    repeat' split
    · exact h
    · exact .endReset h
    · exact h
  case resetReqFrame p =>
    refine h.onFrame fun _ _ hu => ?_
    unfold State.takeResetReq
    repeat' split
    · exact hu.count
    · exact .endReset (State.enterReset_bookingsSound _ _ _)
    · exact hu
  case lineLevelChange => exact h.pinChange
  case debounceExpiry => exact h.debounceExpired
  case windowRoll => exact h.rollDue
  case timeFrame => exact h.onFrame fun _ _ hu => hu.takeTime
  case holdTimeoutExpiry => exact h.holdTimeout
  case releaseFrame => exact h.onClerkFrame fun _ _ hu => hu.takeRelease
  case refuseFrame => exact h.onClerkFrame fun _ _ hu => hu.takeRefuse
  case exitCheckExpiry => exact h.exitCheckExpired
  case bookingFrame =>
    refine h.onFrame fun _ _ hu => ?_
    unfold State.bookingPayload
    split
    · exact hu.takeBooking
    · exact hu.count
  case bookingCancelFrame =>
    refine h.onFrame fun _ _ hu => ?_
    unfold State.cancelPayload
    split
    · exact hu.takeCancel
    · exact hu.count
  case claimFrame =>
    refine h.onFrame fun _ _ hu => ?_
    unfold State.claimPayload
    split
    · exact hu.takeClaimFrame
    · exact hu
  case claimEndFrame =>
    refine h.onFrame fun _ _ hu => ?_
    unfold State.claimEndPayload
    split
    · exact hu.takeClaimEnd
    · exact hu.count
  case loanAskFrame | loanOfferFrame | loanTakeFrame | loanConfirmFrame | loanVoidFrame | loanDeclineFrame =>
    exact h.onLoanFrame fun _ _ _ _ hu => hu.kept (by simp)
  case openFrame | closeFrame | blockNoteFrame | alertClearFrame | countersFetchFrame | configFrame =>
    exact h.onFrame fun _ _ hu => hu.kept (by simp)
  case frameSent => exact h.sent
  all_goals exact h.kept (by simp)

end

/-- Settles O10: every command keeps them, and the queue of commands is no part of them. -/
theorem bookingReferencesStayUnique : Obligations.BookingReferencesStayUnique :=
  step_keeps (fun _ _ h => h) fun _ _ _ h hexec => h.exec hexec

end Sys2Proof.Machine
end

section
/-! O5: the account of the window. It rests on the Window Quota entry, the Offers and the outstanding TAKEs. Most commands leave the
Capacity Unit alone; a unit is used only out of the spare or with a unit borrowed, one is lent only out of the spare, and one comes
back only with its Offer. -/

namespace Sys2Proof.Machine

/-! ### The account, and a change of its entry (R84) -/

/-- The entry covers what is used and lent, lends at least `offers` units, and has borrowed no more than 15 (R84, R91). -/
def Quota.covers (q : Quota) (offers : Nat) : Prop :=
  q.used + q.lent ≤ q.share + q.borrowed ∧ offers ≤ q.lent ∧ q.borrowed ≤ 15

section
variable {s t : State} {n : VisitNumber} {rest : List VisitNumber} {src : FlexSource} {c : LaneId} {w : Window} {b : Byte}

theorem State.quotaSound_iff (s : State) :
    s.quotaSound ↔ s.capacity.offers.length ≤ 4 ∧ s.capacity.takes.length ≤ 4 ∧
      (∀ q, s.capacity.quota = some q → q.covers s.capacity.offers.length) ∧
      (s.capacity.quota = none → s.capacity.offers = []) := by
  unfold State.quotaSound
  cases s.capacity.quota <;> simp [Quota.covers]

/-- The account is a matter of the entry, the Offers and the outstanding TAKEs. -/
theorem State.quotaSound.sameAccount (h : s.quotaSound)
    (hsame : t.capacity.quota = s.capacity.quota ∧ t.capacity.offers = s.capacity.offers ∧
      t.capacity.takes = s.capacity.takes) : t.quotaSound := by
  obtain ⟨hquota, hoffers, htakes⟩ := hsame
  unfold State.quotaSound
  rw [hquota, hoffers, htakes]
  exact h

theorem State.quotaSound.kept (h : s.quotaSound) (hcapacity : t.capacity = s.capacity) : t.quotaSound := by
  unfold State.quotaSound
  rw [hcapacity]
  exact h

/-- The entry changes and Offers go or come, the new entry covering those that are left. -/
theorem State.quotaSound.changed {g : Quota → Quota} (h : s.quotaSound)
    (hquota : t.capacity.quota = s.capacity.quota.map g) (htakes : t.capacity.takes = s.capacity.takes)
    (hfour : t.capacity.offers.length ≤ 4) (hnone : s.capacity.quota = none → t.capacity.offers = [])
    (hg : ∀ q, s.capacity.quota = some q → q.covers s.capacity.offers.length → (g q).covers t.capacity.offers.length) :
    t.quotaSound := by
  obtain ⟨-, htakesFour, hcovers, -⟩ := s.quotaSound_iff.mp h
  refine t.quotaSound_iff.mpr ⟨hfour, by rwa [htakes], fun q hq => ?_, fun hq => hnone (by simpa [hquota] using hq)⟩
  obtain ⟨p, hp, rfl⟩ := Option.map_eq_some_iff.mp (hquota.symm.trans hq)
  exact hg p hp (hcovers p hp)

/-- The entry alone changes. -/
theorem State.quotaSound.updQuota {g : Quota → Quota} (h : s.quotaSound)
    (hg : ∀ q, s.capacity.quota = some q → q.covers s.capacity.offers.length → (g q).covers s.capacity.offers.length) :
    (s.updQuota g).quotaSound :=
  h.changed rfl rfl h.1 (s.quotaSound_iff.mp h).2.2.2 hg

/-- A unit is used where the entry has one that is neither used nor lent. -/
theorem State.quotaSound.useUnit (h : s.quotaSound)
    (hspare : ∀ q, s.capacity.quota = some q → q.used + q.lent < q.share + q.borrowed) : s.useUnit.quotaSound :=
  h.updQuota fun q hq hcovers => by
    have hfree := hspare q hq
    obtain ⟨-, hoffers, hborrowed⟩ := hcovers
    exact ⟨by dsimp only; omega, hoffers, hborrowed⟩

/-- A spare that is not 0 is a unit neither used nor lent. -/
theorem State.unit_of_spare (h : 0 < s.spare) (q : Quota) (hq : s.capacity.quota = some q) :
    q.used + q.lent < q.share + q.borrowed := by
  rw [State.spare_eq hq] at h
  omega

theorem State.quotaSound.useSpare (h : s.quotaSound) (hspare : 0 < s.spare) : s.useUnit.quotaSound :=
  h.useUnit (State.unit_of_spare hspare)

/-! ### The visits that wait for a loan (R86, R90 to R94) -/

theorem State.openAsk_account (s : State) :
    s.openAsk.capacity.quota = s.capacity.quota ∧ s.openAsk.capacity.offers = s.capacity.offers ∧
      s.openAsk.capacity.takes = s.capacity.takes := by
  unfold State.openAsk
  split <;> simp

theorem State.quotaSound.openAsk (h : s.quotaSound) : s.openAsk.quotaSound := h.sameAccount s.openAsk_account

theorem State.quotaSound.handClass0 {o : OutboxOwner} {f : TxFrame} (h : s.quotaSound) :
    (s.handClass0 o f).quotaSound := h.kept (by simp)

theorem State.quotaSound.enterClerkHold (h : s.quotaSound) : (s.enterClerkHold n).quotaSound := h.kept (by simp)

theorem State.quotaSound.giveNoCapacity (h : s.quotaSound) : (s.giveNoCapacity n).quotaSound := h.kept (by simp)

/-- The oldest waiting visit takes a unit that the entry has. -/
theorem State.quotaSound.serveWaiter (h : s.quotaSound)
    (hspare : ∀ q, s.capacity.quota = some q → q.used + q.lent < q.share + q.borrowed) :
    (s.serveWaiter n rest src).quotaSound := by
  obtain ⟨hcapacity, -, -⟩ := State.serveWaiter_leaves n rest src s
  exact (h.useUnit hspare).sameAccount (by rw [hcapacity]; exact ⟨rfl, rfl, rfl⟩)

theorem State.quotaSound.nextAsk {fuel : Nat} (h : s.quotaSound) : (State.nextAsk src fuel s).quotaSound := by
  induction fuel generalizing s with
  | zero => exact h
  | succ fuel ih =>
    unfold State.nextAsk
    split
    · exact h
    · split
      next hspare => exact ih (h.serveWaiter (State.unit_of_spare hspare))
      next =>
        split
        · exact h.openAsk
        · exact ih (.giveNoCapacity h)

theorem State.quotaSound.spareRose (h : s.quotaSound) : (s.spareRose src).quotaSound := by
  unfold State.spareRose
  split
  · exact h
  · exact State.quotaSound.nextAsk (s := s.setAsk none) h

theorem State.quotaSound.askFails (h : s.quotaSound) : s.askFails.quotaSound := by
  unfold State.askFails
  dsimp only
  split
  · exact h
  next rest _ => exact .nextAsk (State.quotaSound.giveNoCapacity (s := (s.setAsk none).setWaitList rest) h)

theorem State.quotaSound.removeWaiter (h : s.quotaSound) : (s.removeWaiter n).quotaSound := by
  unfold State.removeWaiter
  repeat' split
  · exact h
  next rest _ _ => exact State.quotaSound.nextAsk (s := (s.setWaitList rest).setAsk none) h
  · exact h

/-! ### The flex step and the forced grant (R31, R85, R87) -/

theorem State.quotaSound.flexStep (h : s.quotaSound) : (s.flexStep n).quotaSound := by
  unfold State.flexStep
  dsimp only
  split
  next hgrant =>
    obtain ⟨hspare, -⟩ := Bool.and_eq_true_iff.mp hgrant
    exact (h.useSpare (of_decide_eq_true hspare)).kept (by simp)
  next =>
    repeat' split
    · exact State.quotaSound.openAsk (h.sameAccount (by simp))
    · exact h.sameAccount (by simp)
    · exact h.giveNoCapacity

theorem State.quotaSound.forcedGrant (h : s.quotaSound) : (s.forcedGrant n).quotaSound := by
  unfold State.forcedGrant
  split
  next hspare => exact h.useSpare hspare
  next => exact h

/-! ### The asker's side (R91 to R93) -/

/-- One unit more is borrowed, below 15. -/
theorem State.quotaSound.borrow (h : s.quotaSound) (hroom : s.borrowed < 15) :
    (s.updQuota fun q => { q with borrowed := q.borrowed + 1 }).quotaSound :=
  h.updQuota fun q hq hcovers => by
    have hborrowed : q.borrowed < 15 := by simpa [State.borrowed, hq] using hroom
    obtain ⟨hused, hoffers, -⟩ := hcovers
    exact ⟨by dsimp only; omega, hoffers, hborrowed⟩

/-- The unit just borrowed is neither used nor lent. -/
theorem State.quotaSound.unit_of_borrow (h : s.quotaSound) (q : Quota)
    (hq : (s.updQuota fun q => { q with borrowed := q.borrowed + 1 }).capacity.quota = some q) :
    q.used + q.lent < q.share + q.borrowed := by
  obtain ⟨p, hp, rfl⟩ := Option.map_eq_some_iff.mp hq
  obtain ⟨hused, -⟩ := (s.quotaSound_iff.mp h).2.2.1 p hp
  dsimp only
  omega

theorem length_keepTake_le {ts : List Take} (h : ts.length ≤ 4) (x : Take) : (keepTake x ts).length ≤ 4 := by
  unfold keepTake
  split <;> simp <;> omega

theorem State.quotaSound.setTakes {ts : List Take} (h : s.quotaSound) (hts : ts.length ≤ 4) : (s.setTakes ts).quotaSound :=
  ⟨h.1, hts, h.2.2⟩

theorem State.quotaSound.eraseTake (h : s.quotaSound) (x : Take) : (s.setTakes (s.capacity.takes.erase x)).quotaSound :=
  h.setTakes (List.length_erase_le.trans h.2.1)

theorem State.quotaSound.takeOffer (h : s.quotaSound) : (s.takeOffer c w b).quotaSound := by
  unfold State.takeOffer
  repeat' split
  next a _ _ =>
    have htaking : (s.setAsk (some { a with state := .taking c })).quotaSound := h
    exact (htaking.setTakes (length_keepTake_le h.2.1 _)).handClass0
  · exact h.kept (by simp)
  · exact h.kept (by simp)

theorem State.quotaSound.takeConfirm (h : s.quotaSound) : (s.takeConfirm c w b).quotaSound := by
  have herased := h.eraseTake ⟨c, w, b⟩
  unfold State.takeConfirm
  dsimp only
  repeat' split
  next hroom _ _ => exact herased.borrow hroom
  next hroom _ v rest _ => exact .nextAsk (.serveWaiter (herased.borrow hroom) herased.unit_of_borrow)
  · exact .askFails (herased.kept (by simp))
  next hroom => exact (herased.borrow hroom).spareRose
  · exact herased.kept (by simp)
  · exact h

theorem State.quotaSound.takeVoid (h : s.quotaSound) : (s.takeVoid c w b).quotaSound := by
  unfold State.takeVoid
  dsimp only
  split
  · exact (h.eraseTake _).askFails
  · exact h.eraseTake _

theorem State.quotaSound.askDeadline (h : s.quotaSound) : s.askDeadline.quotaSound := by
  unfold State.askDeadline
  repeat' split
  · exact h.askFails
  · exact h
  · exact h

/-! ### The lender's side (R95 to R97) -/

/-- A unit of the spare is lent with a new Offer. -/
theorem State.quotaSound.takeAsk (h : s.quotaSound) : (s.takeAsk c w b).quotaSound := by
  unfold State.takeAsk
  split
  · exact h
  next q hq =>
    split
    next hlend =>
      simp only [Bool.and_eq_true, decide_eq_true_eq] at hlend
      obtain ⟨⟨-, hspare⟩, hfour⟩ := hlend
      have hfree := State.unit_of_spare (by rw [State.spare, hq]; exact Nat.zero_lt_of_lt hspare) q hq
      refine .handClass0 (h.changed (g := fun q => { q with lent := q.lent + 1 }) rfl rfl ?_ (by simp [hq])
        fun p hp hcovers => ?_)
      · simpa using hfour
      obtain rfl : q = p := Option.some.inj (hq.symm.trans hp)
      obtain ⟨hused, hoffers, hborrowed⟩ := hcovers
      exact ⟨by dsimp only; omega, by simpa using hoffers, hborrowed⟩
    next => exact h

/-- An Offer goes and its unit stays lent: the unit is the asker's now (R96). -/
theorem State.quotaSound.dropOffer {os : List Offer} (h : s.quotaSound) (hos : os.Sublist s.capacity.offers) :
    (s.setOffers os).quotaSound :=
  h.changed (g := id) (by simp [State.setOffers]) rfl (hos.length_le.trans h.1)
    (fun hq => List.sublist_nil.mp ((s.quotaSound_iff.mp h).2.2.2 hq ▸ hos))
    fun q _ hcovers => ⟨hcovers.1, hos.length_le.trans hcovers.2.1, hcovers.2.2⟩

theorem State.quotaSound.takeTake (h : s.quotaSound) : (s.takeTake c w b).quotaSound := by
  unfold State.takeTake
  split
  · exact .handClass0 (h.dropOffer List.eraseP_sublist)
  · exact h.kept (by simp)

/-- An Offer goes and its unit comes back (R97). -/
theorem State.quotaSound.returnOffer {os : List Offer} (h : s.quotaSound)
    (hos : os.length + 1 = s.capacity.offers.length) : (s.setOffers os).offerReturned.quotaSound := by
  refine State.quotaSound.spareRose (h.changed (g := fun q => { q with lent := q.lent - 1 }) rfl rfl
    (show os.length ≤ 4 from ?_) (fun hq => ?_) fun q _ hcovers => ?_)
  · have := h.1
    omega
  · simp [(s.quotaSound_iff.mp h).2.2.2 hq] at hos
  · obtain ⟨hused, hoffers, hborrowed⟩ := hcovers
    exact ⟨by dsimp only; omega, show os.length ≤ q.lent - 1 by omega, hborrowed⟩

theorem State.quotaSound.takeDecline (h : s.quotaSound) : (s.takeDecline c w b).quotaSound := by
  unfold State.takeDecline
  split
  next hany =>
    refine h.returnOffer ?_
    obtain ⟨o, ho, hfor⟩ := List.any_eq_true.mp hany
    have hlength := List.length_eraseP_of_mem ho hfor
    have := List.length_pos_of_mem ho
    omega
  next => exact h

theorem State.quotaSound.offerExpired (h : s.quotaSound) : s.offerExpired.quotaSound := by
  unfold State.offerExpired
  split
  · exact h
  next o os hos => exact h.returnOffer (by simp [hos])

/-! ### The window roll (R99) -/

/-- A window begins with a share of which nothing is used or lent. -/
theorem State.capacityRoll_quotaSound (w : Window) (cls : Nat) (s : State) : (s.capacityRoll w cls).quotaSound :=
  .nextAsk ⟨Nat.zero_le 4, Nat.zero_le 4, Nat.zero_le _, Nat.zero_le 0, Nat.zero_le 15⟩

theorem State.rollNotice_quotaSound (w : Window) (cls : Nat) (s : State) : (s.rollNotice w cls).quotaSound := by
  unfold State.rollNotice
  dsimp only
  repeat' split
  · exact State.capacityRoll_quotaSound w cls (s.bookingRoll w)
  · exact State.capacityRoll_quotaSound w cls _
  · exact State.capacityRoll_quotaSound w cls (s.bookingRoll w).drawFree

theorem State.quotaSound.rolls {k : Nat} (h : s.quotaSound) : (State.rolls k s).quotaSound := by
  induction k generalizing s with
  | zero => exact h
  | succ k ih => exact ih (State.rollNotice_quotaSound _ _ _)

theorem State.quotaSound.carryWindows {d : Int} (h : s.quotaSound) : (s.carryWindows d w).quotaSound := by
  unfold State.carryWindows
  split
  · exact h.rolls
  · exact State.rollNotice_quotaSound _ _ _

theorem State.quotaSound.rollDue (h : s.quotaSound) : s.rollDue.quotaSound := by
  unfold State.rollDue
  split
  · exact State.rollNotice_quotaSound _ _ _
  · exact h

/-! ### Evaluation and the claims of peers (R28 to R31) -/

theorem State.quotaSound.combine (h : s.quotaSound) : (s.combine n).quotaSound := by
  unfold State.combine
  repeat' split
  · exact h
  · exact h.kept (by simp)
  · exact h.kept (by simp)
  · exact h.flexStep
  · exact h.kept (by simp)

theorem State.quotaSound.reserveAndCombine (h : s.quotaSound) : (s.reserveAndCombine n).quotaSound :=
  .combine (h.kept (by simp))

theorem State.quotaSound.evaluate (h : s.quotaSound) : (s.evaluate n).quotaSound := by
  unfold State.evaluate
  split
  · exact h.reserveAndCombine
  · exact h.kept (by simp)

theorem State.quotaSound.placeFreed (h : s.quotaSound) : s.placeFreed.quotaSound := by
  unfold State.placeFreed
  repeat' split
  · exact h.reserveAndCombine
  · exact h
  · exact h

theorem State.quotaSound.claimLost (h : s.quotaSound) : (s.claimLost n).quotaSound := by
  unfold State.claimLost
  dsimp only
  repeat' split
  case h_3 => exact .removeWaiter (.enterClerkHold h)
  all_goals exact h

theorem State.quotaSound.takeClaimFrame {ref : Text} {key : GatePoint} (h : s.quotaSound) :
    (s.takeClaimFrame c ref key).quotaSound := by
  unfold State.takeClaimFrame
  repeat' split
  case h_3.isTrue => exact State.quotaSound.claimLost h
  all_goals exact h

/-! ### Events of the lane and clerk decisions -/

theorem State.quotaSound.loopSOccupied (h : s.quotaSound) : s.loopSOccupied.quotaSound := by
  unfold State.loopSOccupied
  repeat' split
  · exact h.evaluate
  · exact .evaluate (h.kept (by simp))
  · exact h

theorem State.quotaSound.lineEvent {l : Line} {up : Bool} (h : s.quotaSound) : (s.lineEvent l up).quotaSound := by
  unfold State.lineEvent
  split
  case h_5 =>
    split
    · exact h
    · exact h.loopSOccupied
  case h_4 | h_7 | h_8 => split <;> exact h.kept (by simp)
  all_goals exact h.kept (by simp)

theorem State.quotaSound.settleLine {l : Line} {ls : LineSet Bool} (h : s.quotaSound) : (s.settleLine l ls).quotaSound :=
  State.quotaSound.lineEvent h

theorem State.quotaSound.pinChange {l : Line} {high : Bool} (h : s.quotaSound) : (s.pinChange l high).quotaSound := by
  unfold State.pinChange
  dsimp only
  repeat' split
  case h_2.isFalse.isTrue => exact .settleLine h
  all_goals exact h

theorem State.quotaSound.debounceExpired {l : Line} (h : s.quotaSound) : (s.debounceExpired l).quotaSound := by
  unfold State.debounceExpired
  repeat' split
  · exact h
  · exact h.settleLine
  · exact h
  · exact h

theorem State.quotaSound.overrideVisit {v : Visit} (h : s.quotaSound) : (s.overrideVisit v).quotaSound := by
  unfold State.overrideVisit
  dsimp only
  split
  · exact .forcedGrant h
  · exact h

theorem State.quotaSound.takeRelease (h : s.quotaSound) : (s.takeRelease n).quotaSound := by
  unfold State.takeRelease
  repeat' split
  · exact h.kept (by simp)
  next v _ _ => exact (h.overrideVisit (v := v)).kept (by simp)
  next v _ _ _ => exact (h.overrideVisit (v := v)).kept (by simp)
  · exact h.kept (by simp)

/-! ### The bus and the clock -/

theorem State.quotaSound.drainOutbox (h : s.quotaSound) : s.drainOutbox.quotaSound := h.kept (by simp)

theorem State.quotaSound.offerOutcome (h : s.quotaSound) : s.offerOutcome.quotaSound := h.kept (by simp)

theorem State.quotaSound.checkReady (h : s.quotaSound) : s.checkReady.quotaSound := h.kept (by simp)

theorem State.quotaSound.ownerTold {f : TxFrame} (h : s.quotaSound) : (s.ownerTold f).quotaSound := by
  unfold State.ownerTold
  repeat' split
  · exact .placeFreed h
  · exact h.kept (by simp)
  · exact h
  · exact h

theorem State.quotaSound.sent (h : s.quotaSound) : s.sent.quotaSound := by
  unfold State.sent
  dsimp only
  split
  · exact h
  · exact .offerOutcome (.ownerTold (.drainOutbox h))

/-- A reception touches the peer timer alone. -/
theorem State.quotaSound.receive {stopFault : Bool} {bytes : List Byte} (h : s.quotaSound) :
    (s.receive stopFault bytes).quotaSound := by
  refine h.sameAccount ?_
  rw [State.receive_capacity]
  exact ⟨rfl, rfl, rfl⟩

theorem State.quotaSound.loseContention {stopFault : Bool} {bytes : List Byte} (h : s.quotaSound) :
    (s.loseContention stopFault bytes).quotaSound := by
  unfold State.loseContention
  split
  · exact .receive h
  · exact h

theorem State.quotaSound.expireHolds {ns : List VisitNumber} (h : s.quotaSound) : (expireHolds ns s).quotaSound := by
  induction ns generalizing s with
  | nil => exact h
  | cons n ns ih => exact ih (s := s.expireHold n) (h.kept (by simp))

theorem State.quotaSound.takeTime {bs : List Byte} (h : s.quotaSound) : (s.takeTime bs).quotaSound := by
  unfold State.takeTime
  repeat' split
  · exact h.kept (by simp)
  · exact h.kept (by simp)
  · exact .checkReady (State.rollNotice_quotaSound _ _ _)
  · exact h
  · exact .expireHolds (.carryWindows h)

/-! ### Resets -/

theorem State.enterReset_quotaSound (s : State) (cause : ResetCause) (lost : Nat) :
    (s.enterReset cause lost).quotaSound := by
  obtain ⟨-, -, hreset, -⟩ := resetIsSound
  exact hreset

theorem State.quotaSound.endReset {p : Straps} (h : s.quotaSound) : (s.endReset p).quotaSound := h.kept (by simp)

/-! ### Every command keeps the account -/

theorem State.quotaSound.onFrame {k : FrameKind} {act : RxFrame → State → State} (h : s.quotaSound)
    (hact : ∀ f u, u.quotaSound → (act f u).quotaSound) : (s.onFrame k act).quotaSound :=
  State.onFrame_induct State.quotaSound h fun f rest => hact f _ (h.kept (t := s.handedOn f rest) rfl)

theorem State.quotaSound.onLoanFrame {k : FrameKind} {act : LaneId → Window → Byte → State → State}
    (h : s.quotaSound) (hact : ∀ c w b u, u.quotaSound → (act c w b u).quotaSound) :
    (s.onFrame k fun f => State.loanFrame (act f.source) f.payload).quotaSound :=
  h.onFrame fun f u hu => State.loanFrame_induct State.quotaSound hu fun w b => hact f.source w b u hu

theorem State.quotaSound.onClerkFrame {k : FrameKind} {act : VisitNumber → State → State}
    (h : s.quotaSound) (hact : ∀ n u, u.quotaSound → (act n u).quotaSound) :
    (s.onFrame k fun f => State.clerkFrame act f.payload).quotaSound :=
  h.onFrame fun _ u hu => State.clerkFrame_induct State.quotaSound (hu.kept (by simp)) fun n => hact n u hu

theorem State.quotaSound.exec {i : Instr} (h : s.quotaSound) (hexec : exec i s = .next t) : t.quotaSound := by
  cases i <;> injection hexec with hexec <;> subst hexec
  case powerOn high p =>
    unfold State.powerUp
    dsimp only
    split
    · exact .endReset (State.enterReset_quotaSound s .power 0)
    · exact State.enterReset_quotaSound s .power 0
  case lineReset =>
    unfold State.lineResetTaken
    split
    · exact State.enterReset_quotaSound s .line s.placesUsed
    · exact h
  case resetNRelease p =>
    unfold State.resetPinRises
    dsimp only
    repeat' split
    · exact h
    · exact .endReset h
    · exact h
  case resetReqFrame p =>
    refine h.onFrame fun _ _ hu => ?_
    unfold State.takeResetReq
    repeat' split
    · exact hu.kept (by simp)
    · exact .endReset (State.enterReset_quotaSound _ _ _)
    · exact hu
  case lineLevelChange => exact h.pinChange
  case debounceExpiry => exact h.debounceExpired
  case windowRoll => exact h.rollDue
  case timeFrame => exact h.onFrame fun _ _ hu => hu.takeTime
  case releaseFrame => exact h.onClerkFrame fun _ _ hu => hu.takeRelease
  case refuseFrame => exact h.onClerkFrame fun _ _ hu => hu.kept (by simp)
  case claimFrame =>
    refine h.onFrame fun _ _ hu => ?_
    unfold State.claimPayload
    split
    · exact hu.takeClaimFrame
    · exact hu
  case loanAskFrame => exact h.onLoanFrame fun _ _ _ _ hu => hu.takeAsk
  case loanOfferFrame => exact h.onLoanFrame fun _ _ _ _ hu => hu.takeOffer
  case loanTakeFrame => exact h.onLoanFrame fun _ _ _ _ hu => hu.takeTake
  case loanConfirmFrame => exact h.onLoanFrame fun _ _ _ _ hu => hu.takeConfirm
  case loanVoidFrame => exact h.onLoanFrame fun _ _ _ _ hu => hu.takeVoid
  case loanDeclineFrame => exact h.onLoanFrame fun _ _ _ _ hu => hu.takeDecline
  case askDeadlineExpiry => exact h.askDeadline
  case offerExpiry => exact h.offerExpired
  case openFrame | closeFrame | bookingFrame | bookingCancelFrame | claimEndFrame | blockNoteFrame | alertClearFrame
      | countersFetchFrame | configFrame =>
    exact h.onFrame fun _ _ hu => hu.kept (by simp)
  case peerSilenceExpiry => exact h
  case frameReceived => exact h.receive
  case contentionLost => exact h.loseContention
  case frameSent => exact h.sent
  all_goals exact h.kept (by simp)

end

/-- Settles O5: every command keeps the account, and the queue of commands is no part of it. -/
theorem quotaStaysCovered : Obligations.QuotaStaysCovered :=
  step_keeps (fun _ _ h => h) fun _ _ _ h hexec => h.exec hexec

end Sys2Proof.Machine
end

section
/-! O58 and O59: the silences that run out, and the reception of a frame: which station the lane has heard, and what becomes of a
frame for this lane (R89, R155, R162, R169 to R171). -/

namespace Sys2Proof.Machine

/-! ### What a latched flag touches (R155 to R157) -/

section
variable {s t : State}

theorem State.latch_sameButAlerts (f : AlertFlag) (s : State) : s.sameButAlerts (s.latch f) := by
  unfold State.latch State.flagSetChanged State.reportStatus State.handStatus
  repeat' split
  all_goals rfl

theorem State.latch_flags (f : AlertFlag) (s : State) :
    (s.latch f).outcome.flags = s.outcome.flags.put f ⟨true, true⟩ := by
  unfold State.latch
  split
  · rfl
  · exact State.reportStatus_flags _

theorem State.flag_latch_ne {f g : AlertFlag} (h : g ≠ f) (s : State) : (s.latch f).flag g = s.flag g := by
  refine Eq.trans ?_ (State.flag_putFlag_ne h ⟨true, true⟩ s)
  unfold State.flag
  rw [State.latch_flags]
  rfl

/-- The clash timer is no alert flag's. -/
theorem State.sameButAlerts.clashTimer (h : s.sameButAlerts t) (x : Timer) :
    ({ s with outcome := { s.outcome with clashTimer := x } } : State).sameButAlerts
      { t with outcome := { t.outcome with clashTimer := x } } := by
  have hrestarted := congrArg (fun r : State => { r with outcome := { r.outcome with clashTimer := x } }) h
  exact hrestarted

/-! ### The silences (R89, R155, R171) -/

/-- Degraded mode has begun: the office station is silent. -/
def State.modeDegraded (s : State) : State := { s with bus := { s.bus with silence := .stopped, degraded := true } }

theorem State.officeSilent_running (h : s.bus.silence.isRunning = true) :
    s.officeSilent = s.modeDegraded.latch .gatewaySilent := if_pos h

/-- Settles O58: what runs out is the office-silence timer, the clash timer, or the peer timer. -/
theorem silencesRunOut : Obligations.SilencesRunOut := by
  intro s
  refine ⟨fun hrunning => ⟨s.modeDegraded.latch .gatewaySilent, congrArg _ (State.officeSilent_running hrunning),
    State.latch_sameButAlerts _ _, State.flag_latch _ _, fun f hf => State.flag_latch_ne hf s.modeDegraded⟩,
    fun hstopped => ?_, fun hrunning => ?_, fun hstopped => ?_, rfl⟩
  · exact congrArg _ (if_neg (by simp [hstopped]))
  · exact congrArg _ (if_pos hrunning)
  · exact congrArg _ (if_neg (by simp [hstopped]))

/-! ### The station heard (R89, R169, R171) -/

/-- This lane's own identifier is heard: ID_CLASH latches and the clash timer restarts. -/
theorem State.ownIdHeard_spec (s : State) :
    s.ownIdHeard.flag .idClash = ⟨true, true⟩ ∧
      ({ s with outcome := { s.outcome with clashTimer := .running 60000 } } : State).sameButAlerts s.ownIdHeard :=
  ⟨State.flag_latch .idClash s, (State.latch_sameButAlerts .idClash s).clashTimer _⟩

/-- The office station is heard in degraded mode: the mode and the condition of GATEWAY_SILENT have ended. -/
def State.modeRestored (s : State) : State :=
  ({ s with bus := { s.bus with silence := .running 5000, degraded := false } } : State).endCondition .gatewaySilent

theorem State.officeHeard_degraded (h : s.bus.degraded = true) : s.officeHeard = s.modeRestored.offerOutcome := if_pos h

theorem State.officeHeard_normal (h : s.bus.degraded = false) :
    s.officeHeard = { s with bus := { s.bus with silence := .running 5000, degraded := false } } := if_neg (by simp [h])

theorem State.offerOutcome_bus (s : State) :
    s.offerOutcome.bus = { s.bus with txQueue := s.offerOutcome.bus.txQueue } :=
  (State.onlyReports.offerOutcome (State.onlyReports.refl s)).1

/-- Of the Peer Bus Interface the office station heard touches its silence timer, degraded mode and the Transmit Queue. -/
theorem State.officeHeard_bus (s : State) :
    s.officeHeard.bus = { s.bus with silence := .running 5000, degraded := false, txQueue := s.officeHeard.bus.txQueue } := by
  cases h : s.bus.degraded with
  | true =>
    rw [State.officeHeard_degraded h, State.offerOutcome_bus]
    rfl
  | false => rw [State.officeHeard_normal h]

/-- Degraded mode ends with the condition of GATEWAY_SILENT. -/
theorem State.officeHeard_gatewaySilent (h : s.bus.degraded = true) :
    (s.officeHeard.flag .gatewaySilent).standing = false := by
  rw [State.officeHeard_degraded h]
  unfold State.flag
  rw [State.offerOutcome_outcome]
  rfl

/-- Degraded mode ends with an offer of the oldest FILLED record, where none is offered and two places are free (R154). -/
theorem State.officeHeard_offers {r : OutcomeRecord} {rs : List OutcomeRecord} (h : s.bus.degraded = true)
    (hfilled : s.outcome.filled = r :: rs) (hnone : s.outcome.offered = false) (hroom : s.bus.txQueue.length ≤ 6) :
    s.officeHeard.outcome.offered = true ∧ s.officeHeard.bus.txQueue = insertFrame ⟨.outcome r, false⟩ s.bus.txQueue := by
  rw [State.officeHeard_degraded h, State.offerOutcome_offers (s := s.modeRestored) hfilled rfl hnone hroom]
  exact ⟨rfl, rfl⟩

/-! ### A frame for this lane (R170) -/

variable {f : RawFrame} {r : RxFrame}

theorem State.bufferFrame_overrun (h : 2 ≤ s.bus.rx.length) : s.bufferFrame f = s.count .rxOverruns := if_pos h

theorem State.bufferFrame_ignored (h : s.bus.rx.length < 2) (hcheck : checkRaw f = none) :
    s.bufferFrame f = s.count .framesIgnored := by
  unfold State.bufferFrame
  rw [if_neg (Nat.not_le.mpr h), hcheck]

theorem State.bufferFrame_checked (h : s.bus.rx.length < 2) (hcheck : checkRaw f = some r) :
    s.bufferFrame f = if r.kind.owner = none then s else s.setRx (s.bus.rx ++ [r]) := by
  unfold State.bufferFrame
  rw [if_neg (Nat.not_le.mpr h), hcheck]

/-- A frame for this lane touches the receive buffers and the counters alone. -/
theorem State.bufferFrame_leaves (f : RawFrame) (s : State) :
    (s.bufferFrame f).bus = { s.bus with rx := (s.bufferFrame f).bus.rx } ∧
      (s.bufferFrame f).outcome = { s.outcome with counters := (s.bufferFrame f).outcome.counters } := by
  unfold State.bufferFrame
  repeat' split
  · rw [State.count_eq (by decide)]
    exact ⟨rfl, rfl⟩
  · rw [State.count_eq (by decide)]
    exact ⟨rfl, rfl⟩
  · exact ⟨rfl, rfl⟩
  · exact ⟨rfl, rfl⟩

/-! ### A reception (R162, R169) -/

/-- A frame is heard, and buffered where it is for this lane. -/
def State.frameHeard (f : RawFrame) (s : State) : State :=
  if f.dest = 0 ∨ f.dest = s.laneId then (s.stationHeard f.source).bufferFrame f else s.stationHeard f.source

variable {stopFault : Bool} {bytes : List Byte}

theorem State.receive_sound (h : s.alive = true) (hbytes : parseFrame stopFault bytes = some f) :
    s.receive stopFault bytes = if f.source = s.laneId then s.ownIdHeard else s.frameHeard f := by
  unfold State.receive
  rw [if_pos h, hbytes]
  rfl

theorem State.frameHeard_peer (hzero : f.source ≠ 0) (hoffice : f.source ≠ 31) :
    s.frameHeard f = if f.dest = 0 ∨ f.dest = s.laneId then s.peerHeard.bufferFrame f else s.peerHeard := by
  unfold State.frameHeard State.stationHeard
  rw [if_neg hzero, if_neg hoffice]

theorem State.frameHeard_office (hoffice : f.source = 31) :
    s.frameHeard f = if f.dest = 0 ∨ f.dest = s.laneId then s.officeHeard.bufferFrame f else s.officeHeard := by
  unfold State.frameHeard State.stationHeard
  rw [hoffice]
  rfl

/-- Whether or not the office station's frame is for this lane, the rest of the device finds what the station heard leaves. -/
theorem State.frameHeard_office_leaves (hoffice : f.source = 31) :
    (s.frameHeard f).bus = { s.officeHeard.bus with rx := (s.frameHeard f).bus.rx } ∧
      (s.frameHeard f).outcome = { s.officeHeard.outcome with counters := (s.frameHeard f).outcome.counters } := by
  rw [State.frameHeard_office hoffice]
  split
  · exact State.bufferFrame_leaves f s.officeHeard
  · exact ⟨rfl, rfl⟩

theorem State.frameHeard_frame (hoffice : f.source = 31) :
    s.frameHeard f = { s with outcome := (s.frameHeard f).outcome, bus := (s.frameHeard f).bus } := by
  rw [State.frameHeard_office hoffice]
  split <;> exact State.eq_of_blocks (by simp)

end

/-- Settles O59: by the damage, this lane's own identifier, and the station that the frame comes from. -/
theorem receivedFrameIsHeardAndBuffered : Obligations.ReceivedFrameIsHeardAndBuffered := by
  refine ⟨fun s stopFault bytes => ⟨fun hdead => congrArg _ (State.receive_dead hdead),
    fun halive hdamaged => congrArg _ (State.receive_damaged halive hdamaged)⟩, fun s stopFault bytes f halive hbytes => ?_⟩
  have hexec : exec (.frameReceived stopFault bytes) s =
      .next (if f.source = s.laneId then s.ownIdHeard else s.frameHeard f) :=
    congrArg _ (State.receive_sound halive hbytes)
  rw [hexec]
  refine ⟨fun hown => ?_, fun hown hzero hpeer u hu => ?_, fun hown hoffice => ?_⟩
  · rw [if_pos hown]
    exact ⟨_, rfl, s.ownIdHeard_spec⟩
  · rw [if_neg hown, State.frameHeard_peer hzero hpeer, show s.peerHeard = u from hu.symm]
    have hrx : u.bus.rx = s.bus.rx := by rw [hu]
    refine ⟨fun hall hlane => by rw [if_neg fun h => h.elim hall hlane], fun hdest => ?_⟩
    rw [if_pos hdest, ← hrx]
    refine ⟨fun hfull => by rw [State.bufferFrame_overrun hfull],
      fun hroom hcheck => by rw [State.bufferFrame_ignored hroom hcheck], fun r hroom hcheck => ?_⟩
    rw [State.bufferFrame_checked hroom hcheck]
    exact ⟨fun hnobody => by rw [if_pos hnobody], fun howner => by rw [if_neg howner]; rfl⟩
  · rw [if_neg hown]
    obtain ⟨hbus, houtcome⟩ := State.frameHeard_office_leaves (s := s) hoffice
    refine ⟨_, rfl, by rw [hbus, State.officeHeard_bus], by rw [hbus, State.officeHeard_bus], State.frameHeard_frame hoffice,
      fun hdegraded => ?_, fun r rs hdegraded hfilled hnone hroom => ?_, fun r hdest hroom hcheck howner => ?_⟩
    · unfold State.flag
      rw [houtcome]
      exact State.officeHeard_gatewaySilent hdegraded
    · rw [houtcome, hbus]
      exact State.officeHeard_offers hdegraded hfilled hnone hroom
    · have hrx : s.officeHeard.bus.rx = s.bus.rx := by rw [State.officeHeard_bus]
      rw [State.frameHeard_office hoffice, if_pos hdest, State.bufferFrame_checked (by rwa [hrx]) hcheck, if_neg howner, ← hrx]
      rfl

end Sys2Proof.Machine
end

section
/-! Rules about loans: a loan frame at its owner, and what becomes of the visits that wait when a unit comes or the open Ask fails
(R86, R90 to R97). -/

namespace Sys2Proof.Machine

/-! ### A loan frame at its owner (R170) -/

section
variable {s u : State} {f : RxFrame} {rest : List RxFrame} {w : Window} {n : Byte}

theorem State.onLoanFrame_taken {k : FrameKind} (act : LaneId → Window → Byte → State → State)
    (hf : takeFirst k s.bus.rx = some (f, rest)) (hu : u = s.handedOn f rest) (hform : loanForm f.payload = some (w, n)) :
    s.onFrame k (fun f => State.loanFrame (act f.source) f.payload) = act f.source w n u := by
  rw [State.onFrame_taken hf, ← hu, State.loanFrame, hform]

theorem State.exec_loanAskFrame (hf : takeFirst .loanAsk s.bus.rx = some (f, rest)) (hu : u = s.handedOn f rest)
    (hform : loanForm f.payload = some (w, n)) : exec .loanAskFrame s = .next (u.takeAsk f.source w n) :=
  congrArg _ (State.onLoanFrame_taken State.takeAsk hf hu hform)

theorem State.exec_loanOfferFrame (hf : takeFirst .loanOffer s.bus.rx = some (f, rest)) (hu : u = s.handedOn f rest)
    (hform : loanForm f.payload = some (w, n)) : exec .loanOfferFrame s = .next (u.takeOffer f.source w n) :=
  congrArg _ (State.onLoanFrame_taken State.takeOffer hf hu hform)

theorem State.exec_loanTakeFrame (hf : takeFirst .loanTake s.bus.rx = some (f, rest)) (hu : u = s.handedOn f rest)
    (hform : loanForm f.payload = some (w, n)) : exec .loanTakeFrame s = .next (u.takeTake f.source w n) :=
  congrArg _ (State.onLoanFrame_taken State.takeTake hf hu hform)

theorem State.exec_loanConfirmFrame (hf : takeFirst .loanConfirm s.bus.rx = some (f, rest)) (hu : u = s.handedOn f rest)
    (hform : loanForm f.payload = some (w, n)) : exec .loanConfirmFrame s = .next (u.takeConfirm f.source w n) :=
  congrArg _ (State.onLoanFrame_taken State.takeConfirm hf hu hform)

theorem State.exec_loanVoidFrame (hf : takeFirst .loanVoid s.bus.rx = some (f, rest)) (hu : u = s.handedOn f rest)
    (hform : loanForm f.payload = some (w, n)) : exec .loanVoidFrame s = .next (u.takeVoid f.source w n) :=
  congrArg _ (State.onLoanFrame_taken State.takeVoid hf hu hform)

theorem State.exec_loanDeclineFrame (hf : takeFirst .loanDecline s.bus.rx = some (f, rest)) (hu : u = s.handedOn f rest)
    (hform : loanForm f.payload = some (w, n)) : exec .loanDeclineFrame s = .next (u.takeDecline f.source w n) :=
  congrArg _ (State.onLoanFrame_taken State.takeDecline hf hu hform)

end

/-! ### What the taking of waiting visits reads, and what it leaves -/

/-- Beside the account and the Loan Wait List, `r` is to the waiting visits what `s` is: the records, degraded mode, this unit's
outbox, the peer timer and the Ask counter. -/
def State.sameToWaiters (s r : State) : Prop :=
  r.visits = s.visits ∧ r.bus.degraded = s.bus.degraded ∧ r.outbox? .capacityUnit = s.outbox? .capacityUnit ∧
    r.capacity.peerTimer = s.capacity.peerTimer ∧ r.capacity.askCounter = s.capacity.askCounter

/-- From `s` to `t` Offers, the Booking Store and every visit that did not wait are as they were, and the TAKEs are `ts`. -/
def State.onlyWaiters (s : State) (ts : List Take) (t : State) : Prop :=
  t.capacity.takes = ts ∧ t.capacity.offers = s.capacity.offers ∧ t.booking = s.booking ∧
    ∀ i, i ∉ s.capacity.waitList → t.visit? i = s.visit? i

section
variable {r s t : State} {src : FlexSource} {q : Quota} {m : VisitNumber} {ms ns : List VisitNumber} {v : Visit}

theorem State.waitersTaken.of_same (h : r.waitersTaken t ns src q) (hsame : s.sameToWaiters r) :
    s.waitersTaken t ns src q := by
  obtain ⟨hvisits, hdegraded, houtbox, hpeer, hcounter⟩ := hsame
  exact h.congr_left (fun i _ => State.visit?_of_visits hvisits i) hdegraded houtbox hpeer hcounter

/-- The visits that wait after `n` find beside themselves what was there before it was served or refused. -/
theorem State.waitersTaken.after (h : r.waitersTaken t ns src q) (hreports : s.onlyReports r)
    (hother : ∀ i ∈ ns, r.visit? i = s.visit? i) (hpeer : r.capacity.peerTimer = s.capacity.peerTimer)
    (hcounter : r.capacity.askCounter = s.capacity.askCounter) : s.waitersTaken t ns src q :=
  h.congr_left hother hreports.degraded (hreports.outbox? .capacityUnit) hpeer hcounter

theorem State.nextAsk_onlyWaiters (src : FlexSource) (fuel : Nat) (s : State) :
    s.onlyWaiters s.capacity.takes (State.nextAsk src fuel s) := by
  obtain ⟨hoffers, htakes⟩ := State.nextAsk_loans src fuel s
  exact ⟨htakes, hoffers, by simp, fun i hi => State.nextAsk_other hi⟩

/-! ### The spare has risen (R86, R94) -/

theorem State.spareRose_nobody (h : s.capacity.waitList = []) : s.spareRose src = s := if_pos (by simp [h])

theorem State.spareRose_serves (hq : s.capacity.quota = some q) (hspare : q.used + q.lent < q.share + q.borrowed)
    (h : s.capacity.waitList ≠ []) :
    s.spareRose src = State.nextAsk src s.capacity.waitList.length (s.setAsk none) := by
  have hrisen : s.spare ≠ 0 := by
    rw [State.spare_eq hq]
    omega
  exact if_neg (by simp [h, hrisen])

theorem State.spareRose_onlyWaiters (src : FlexSource) (s : State) : s.onlyWaiters s.capacity.takes (s.spareRose src) := by
  unfold State.spareRose
  split
  · exact ⟨rfl, rfl, rfl, fun _ _ => rfl⟩
  · exact State.nextAsk_onlyWaiters src _ (s.setAsk none)

/-- Waiting visits are served, the Ask made for the oldest of them being withdrawn. -/
theorem State.spareRose_waitersTaken (hq : s.capacity.quota = some q) (hspare : q.used + q.lent < q.share + q.borrowed)
    (h : s.capacity.waitList ≠ []) (hnodup : s.capacity.waitList.Nodup) :
    s.waitersTaken (s.spareRose src) s.capacity.waitList src q := by
  rw [State.spareRose_serves hq hspare h]
  exact (State.nextAsk_waitersTaken (s := s.setAsk none) hnodup rfl hq rfl).of_same ⟨rfl, rfl, rfl, rfl, rfl⟩

/-! ### The oldest waiting visit takes a unit (R86, R92) -/

/-- The oldest waiting visit has been admitted with a unit of `src`, and the others have been taken in order. -/
def State.oldestServed (s t : State) (m : VisitNumber) (ms : List VisitNumber) (v : Visit) (src : FlexSource) (q : Quota) : Prop :=
  (∃ x, t.visit? m = some x ∧ x.flex = src ∧ x.state = .exiting ∧
    x.verdict = (if v.needsInspection then .admitInspect else .admitted)) ∧
  s.onlyWaiters s.capacity.takes t ∧ s.waitersTaken t ms src { q with used := q.used + 1 }

theorem State.serveWaiter_oldestServed (hwait : s.capacity.waitList = m :: ms) (hnodup : (m :: ms).Nodup)
    (hv : s.visit? m = some v) (hq : s.capacity.quota = some q) (hask : s.capacity.ask = none) :
    s.oldestServed ((s.serveWaiter m ms src).checkWaiters src) m ms v src q := by
  obtain ⟨hnew, hnodup'⟩ := List.nodup_cons.mp hnodup
  obtain ⟨hcapacity, -, hreports⟩ := State.serveWaiter_leaves m ms src s
  have hother (i : VisitNumber) (hi : i ≠ m) : (s.serveWaiter m ms src).visit? i = s.visit? i :=
    State.admitWith_other hi src _
  have hlist : (s.serveWaiter m ms src).capacity.waitList = ms := by rw [hcapacity]
  have hserved := State.admitWith_visit (s := s.useUnit.setWaitList ms) (src := src) hv
  unfold State.checkWaiters
  rw [hlist]
  obtain ⟨htakes, hoffers, hbooking, hrest⟩ := State.nextAsk_onlyWaiters src ms.length (s.serveWaiter m ms src)
  rw [hlist] at hrest
  rw [hcapacity] at htakes hoffers
  refine ⟨⟨_, (hrest m hnew).trans hserved, rfl, rfl, rfl⟩,
    ⟨htakes, hoffers, hbooking.trans (by simp), fun i hi => ?_⟩, ?_⟩
  · rw [hwait, List.mem_cons, not_or] at hi
    exact (hrest i hi.2).trans (hother i hi.1)
  · refine (State.nextAsk_waitersTaken hnodup' hlist ?_ ?_).after hreports
      (fun i hi => hother i (ne_of_mem_of_not_mem hi hnew)) ?_ ?_ <;> rw [hcapacity]
    · rw [hq]
      rfl
    · exact hask

/-- A visit that waited alone has been served: what the Capacity Unit then is. -/
theorem State.serveWaiter_alone (m : VisitNumber) (src : FlexSource) (s : State) :
    ((s.serveWaiter m [] src).checkWaiters src).capacity = { s.capacity with
      quota := s.capacity.quota.map (fun q => { q with used := q.used + 1 }), waitList := [] } := by
  obtain ⟨hcapacity, -, -⟩ := State.serveWaiter_leaves m [] src s
  unfold State.checkWaiters
  rw [hcapacity]
  exact hcapacity

/-! ### The open Ask fails (R93) -/

/-- The oldest waiting visit has been given NO_CAPACITY and a clerk hold, and the others have been taken in order. -/
def State.oldestRefused (s t : State) (m : VisitNumber) (ms : List VisitNumber) : Prop :=
  (∃ x, t.visit? m = some x ∧ x.state = .hold ∧ x.verdict = .hold ∧ x.given .noCapacity) ∧
  s.onlyWaiters s.capacity.takes t ∧ ∀ q, s.capacity.quota = some q → s.waitersTaken t ms .own q

theorem State.askFails_cons (hwait : s.capacity.waitList = m :: ms) :
    s.askFails = (((s.setAsk none).setWaitList ms).giveNoCapacity m).checkWaiters .own := by
  unfold State.askFails
  dsimp only
  rw [show (s.setAsk none).capacity.waitList = m :: ms from hwait]

theorem State.askFails_oldestRefused (hwait : s.capacity.waitList = m :: ms) (hnodup : (m :: ms).Nodup)
    (hv : s.visit? m = some v) : s.oldestRefused s.askFails m ms := by
  obtain ⟨hnew, hnodup'⟩ := List.nodup_cons.mp hnodup
  obtain ⟨hcapacity, -, hreports⟩ := State.waiterRefused_leaves m ms (s.setAsk none)
  have hother (i : VisitNumber) (hi : i ≠ m) : (((s.setAsk none).setWaitList ms).giveNoCapacity m).visit? i = s.visit? i :=
    State.giveNoCapacity_other hi _
  have hlist : (((s.setAsk none).setWaitList ms).giveNoCapacity m).capacity.waitList = ms := by rw [hcapacity]
  have hheld := State.giveNoCapacity_visit (s := (s.setAsk none).setWaitList ms) hv
  rw [State.askFails_cons hwait]
  unfold State.checkWaiters
  rw [hlist]
  obtain ⟨htakes, hoffers, hbooking, hrest⟩ :=
    State.nextAsk_onlyWaiters .own ms.length (((s.setAsk none).setWaitList ms).giveNoCapacity m)
  rw [hlist] at hrest
  rw [hcapacity] at htakes hoffers
  refine ⟨⟨_, (hrest m hnew).trans hheld, rfl, rfl, v.addReason_given .noCapacity⟩,
    ⟨htakes, hoffers, hbooking.trans (by simp), fun i hi => ?_⟩, fun q hq => ?_⟩
  · rw [hwait, List.mem_cons, not_or] at hi
    exact (hrest i hi.2).trans (hother i hi.1)
  · refine State.waitersTaken.after (State.nextAsk_waitersTaken hnodup' hlist ?_ ?_) (s := s) hreports
      (fun i hi => hother i (ne_of_mem_of_not_mem hi hnew)) ?_ ?_ <;> rw [hcapacity]
    · exact hq
    · rfl
    · rfl
    · rfl

/-- A visit that waited alone has been refused: what the Capacity Unit then is. -/
theorem State.askFails_alone (hwait : s.capacity.waitList = [m]) :
    s.askFails.capacity = { s.capacity with ask := none, waitList := [] } := by
  obtain ⟨hcapacity, -, -⟩ := State.waiterRefused_leaves m [] (s.setAsk none)
  rw [State.askFails_cons hwait]
  unfold State.checkWaiters
  rw [hcapacity]
  exact hcapacity

end

end Sys2Proof.Machine
end

section
/-! O53: the lender's side. -/

namespace Sys2Proof.Machine

section
variable {s u : State} {c : LaneId} {w : Window} {n : Byte} {q : Quota}

/-! ### LOAN_ASK (R95) -/

/-- A unit is lent with an Offer of it. -/
def State.offerMade (c : LaneId) (w : Window) (n : Byte) (q : Quota) (s : State) : State :=
  { s with capacity := { s.capacity with
    quota := some { q with lent := q.lent + 1 }, offers := s.capacity.offers ++ [⟨c, n, w, .running 1000⟩] } }

theorem State.takeAsk_some (hq : s.capacity.quota = some q) :
    s.takeAsk c w n =
      if q.window = w ∧ s.general.reserve < q.share + q.borrowed - q.lent - q.used ∧ s.capacity.offers.length < 4 then
        (s.offerMade c w n q).handClass0 .capacityUnit (.loanOffer c w n)
      else s := by
  have hmade : (s.updQuota fun q => { q with lent := q.lent + 1 }).setOffers
      (s.capacity.offers ++ [⟨c, n, w, .running 1000⟩]) = s.offerMade c w n q := by
    simp [State.updQuota, State.setOffers, State.offerMade, hq]
  unfold State.takeAsk
  rw [hq]
  dsimp only
  rw [hmade]
  simp only [Bool.and_eq_true, decide_eq_true_eq, and_assoc]
  rfl

theorem State.takeAsk_none (hq : s.capacity.quota = none) : s.takeAsk c w n = s := by
  unfold State.takeAsk
  rw [hq]

/-! ### LOAN_TAKE and LOAN_DECLINE (R96, R97) -/

variable {before after os : List Offer} {o : Offer}

/-- The oldest Offer that meets `p` goes. -/
theorem eraseP_oldest {p : Offer → Bool} (ho : p o = true) (hbefore : ∀ x ∈ before, p x = false) :
    (before ++ o :: after).eraseP p = before ++ after := by
  rw [List.eraseP_append_right _ fun x hx => by simp [hbefore x hx], List.eraseP_cons_of_pos ho]

theorem State.takeTake_live (hoffers : s.capacity.offers = before ++ o :: after) (ho : o.isFor c w n = true)
    (hbefore : ∀ x ∈ before, x.isFor c w n = false) :
    s.takeTake c w n = (s.setOffers (before ++ after)).handClass0 .capacityUnit (.loanConfirm c w n) := by
  unfold State.takeTake
  rw [hoffers, eraseP_oldest ho hbefore]
  exact if_pos (by simp [ho])

theorem State.takeTake_void (h : ∀ x ∈ s.capacity.offers, x.isFor c w n = false) :
    s.takeTake c w n = s.handClass0 .capacityUnit (.loanVoid c w n) := if_neg (by simpa using h)

theorem State.takeDecline_live (hoffers : s.capacity.offers = before ++ o :: after) (ho : o.isFor c w n = true)
    (hbefore : ∀ x ∈ before, x.isFor c w n = false) :
    s.takeDecline c w n = (s.setOffers (before ++ after)).offerReturned := by
  unfold State.takeDecline
  rw [hoffers, eraseP_oldest ho hbefore]
  exact if_pos (by simp [ho])

theorem State.takeDecline_unknown (h : ∀ x ∈ s.capacity.offers, x.isFor c w n = false) : s.takeDecline c w n = s :=
  if_neg (by simpa using h)

theorem State.offerExpired_cons (h : s.capacity.offers = o :: os) :
    s.offerExpired = (s.setOffers os).offerReturned := by
  unfold State.offerExpired
  rw [h]

theorem State.offerExpired_nil (h : s.capacity.offers = []) : s.offerExpired = s := by
  unfold State.offerExpired
  rw [h]

/-! ### A unit comes back (R97) -/

/-- An Offer has gone, and with it lent has fallen by one. -/
def State.unitBack (os : List Offer) (s : State) : State :=
  { s with capacity := { s.capacity with
    quota := s.capacity.quota.map (fun q => { q with lent := q.lent - 1 }), offers := os } }

theorem State.offerReturned_eq (os : List Offer) (s : State) :
    (s.setOffers os).offerReturned = (s.unitBack os).spareRose .own := by rfl

/-- What the coming back of a unit from the Offers `os` does, seen from the state `s` before the frame was handed on. -/
theorem State.unitBack_spec (hsame : s.sameToWaiters u) (hcapacity : u.capacity = s.capacity)
    (hos : os.length < s.capacity.offers.length) :
    ((u.setOffers os).offerReturned).capacity.offers = os ∧
      (s.capacity.waitList = [] → (u.setOffers os).offerReturned = u.unitBack os) ∧
      ∀ q, s.capacity.quota = some q → s.quotaSound → s.capacity.waitList ≠ [] → s.capacity.waitList.Nodup →
        s.waitersTaken (u.setOffers os).offerReturned s.capacity.waitList .own { q with lent := q.lent - 1 } := by
  have hlist : (u.unitBack os).capacity.waitList = s.capacity.waitList := by
    rw [← hcapacity]
    rfl
  rw [State.offerReturned_eq]
  refine ⟨(State.spareRose_onlyWaiters .own (u.unitBack os)).2.1, fun hnobody => State.spareRose_nobody (hlist.trans hnobody),
    fun q hq hsound hsome hnodup => ?_⟩
  obtain ⟨hused, hlent, -⟩ := (s.quotaSound_iff.mp hsound).2.2.1 q hq
  have hback : (u.unitBack os).capacity.quota = some { q with lent := q.lent - 1 } := by
    simp [State.unitBack, hcapacity, hq]
  rw [← hlist] at hsome hnodup ⊢
  exact (State.spareRose_waitersTaken hback (by dsimp only; omega) hsome hnodup).of_same hsame

theorem State.sameToWaiters_refl (s : State) : s.sameToWaiters s := ⟨rfl, rfl, rfl, rfl, rfl⟩

theorem State.sameToWaiters_handedOn (s : State) (f : RxFrame) (rest : List RxFrame) :
    s.sameToWaiters (s.handedOn f rest) := ⟨rfl, rfl, rfl, rfl, rfl⟩

end

/-- Settles O53: each frame by whether it finds a unit or an Offer, and a unit that comes back by `unitBack_spec`. -/
theorem lenderOffersConfirmsAndReturns : Obligations.LenderOffersConfirmsAndReturns := by
  refine ⟨fun s u f rest w n hf hu hform => ?_, fun s u f rest w n hf hu hform => ?_, fun s u f rest w n hf hu hform => ?_,
    fun s o os hos => ⟨(s.setOffers os).offerReturned, congrArg _ (State.offerExpired_cons hos),
      State.unitBack_spec s.sameToWaiters_refl rfl (by simp [hos])⟩, fun s hnone => congrArg _ (State.offerExpired_nil hnone)⟩
  · rw [State.exec_loanAskFrame hf hu hform]
    have hcapacity : u.capacity = s.capacity := by simp [hu]
    have hgeneral : u.general = s.general := by simp [hu]
    refine ⟨fun q hq => ?_, fun hnone => by rw [State.takeAsk_none (by rw [hcapacity, hnone])]⟩
    rw [State.takeAsk_some (by rw [hcapacity, hq]), hgeneral, hcapacity]
    refine ⟨fun hwindow hspare hfour => ?_, fun hno => ?_⟩
    · rw [if_pos ⟨hwindow, hspare, hfour⟩, State.offerMade, hcapacity]
    · rw [if_neg]
      rintro ⟨hwindow, hspare, hfour⟩
      rcases hno with hno | hno | hno
      · exact hno hwindow
      · omega
      · omega
  · rw [State.exec_loanTakeFrame hf hu hform]
    have hoffers : u.capacity.offers = s.capacity.offers := by simp [hu]
    refine ⟨fun before o after hlive ho hbefore => ?_, fun hno => by rw [State.takeTake_void (by rwa [hoffers])]⟩
    rw [State.takeTake_live (hoffers.trans hlive) ho hbefore]
    rfl
  · rw [State.exec_loanDeclineFrame hf hu hform]
    have hcapacity : u.capacity = s.capacity := by simp [hu]
    refine ⟨fun before o after hlive ho hbefore => ⟨_, rfl, ?_⟩, fun hno => by
      rw [State.takeDecline_unknown (by rwa [hcapacity])]⟩
    have hspec := State.unitBack_spec (os := before ++ after) (hu ▸ s.sameToWaiters_handedOn f rest) hcapacity (by simp [hlive])
    unfold State.unitBack at hspec
    rw [hcapacity] at hspec ⊢
    rwa [State.takeDecline_live (by rw [hcapacity, hlive]) ho hbefore]

end Sys2Proof.Machine
end

section
/-! FRAMES_IGNORED under the taking of waiting visits: a COUNTERS frame displaced adds its values back (R160, R167), and with none
queued the counter stays as it is. -/

namespace Sys2Proof.Machine

/-- FRAMES_IGNORED stands at `k`, and no COUNTERS frame is queued. -/
def State.ignoredAt (k : Nat) (s : State) : Prop :=
  s.outcome.counters.framesIgnored = k ∧ ∀ e ∈ s.bus.txQueue, e.frame.kind ≠ .counters

section
variable {s t : State} {k : Nat} {n : VisitNumber} {src : FlexSource} {rest : List VisitNumber} {f : TxFrame}

/-! ### What a verdict or a hold hands over (R138, R157) -/

theorem State.ignoredAt.of_same (h : s.ignoredAt k) (houtcome : t.outcome = s.outcome) (hbus : t.bus = s.bus) :
    t.ignoredAt k := by
  unfold State.ignoredAt
  rw [houtcome, hbus]
  exact h

theorem State.ignoredAt.enqueue (h : s.ignoredAt k) (hf : f.kind ≠ .counters) : (s.enqueue f).ignoredAt k := by
  refine ⟨h.1, fun e he => ?_⟩
  rcases (mem_insertFrame _ e _).mp he with rfl | he
  · exact hf
  · exact h.2 e he

theorem State.ignoredAt.flagSetChanged (h : s.ignoredAt k) : s.flagSetChanged.ignoredAt k := by
  unfold State.flagSetChanged State.reportStatus State.handStatus
  repeat' split
  · exact h
  · exact h
  · exact State.ignoredAt.enqueue (s := s.driveAlertN) h (by simp [TxFrame.kind])

theorem State.ignoredAt.reportHolds (h : s.ignoredAt k) : s.reportHolds.ignoredAt k := by
  unfold State.reportHolds State.setHoldWaiting
  split
  · exact h
  · exact State.ignoredAt.flagSetChanged h

theorem State.ignoredAt.sendNote {block : Text} (h : s.ignoredAt k) : (s.sendNote block).ignoredAt k := by
  unfold State.sendNote State.handNote
  repeat' split
  · rw [State.count_eq (by decide)]
    exact h
  · exact h.enqueue (by simp [TxFrame.kind])
  · exact h

theorem State.ignoredAt.routeDrops {ms : List Move} (h : s.ignoredAt k) : (routeDrops ms s).2.ignoredAt k := by
  induction ms generalizing s with
  | nil => exact h
  | cons m ms ih =>
    refine ih (s := (s.routeDrop m).2) ?_
    unfold State.routeDrop
    repeat' split
    · exact State.ignoredAt.sendNote h
    · exact h.sendNote
    · exact h

theorem State.ignoredAt.routeVerdict {v : Visit} {vd : Verdict} (h : s.ignoredAt k) :
    (s.routeVerdict v vd).2.ignoredAt k := by
  unfold State.routeVerdict
  split
  · exact h.routeDrops
  all_goals exact h

theorem State.ignoredAt.placeVisitMessage {m : Message} (h : s.ignoredAt k) : (s.placeVisitMessage m).ignoredAt k :=
  h.of_same (by simp) (by simp)

theorem State.ignoredAt.giveVerdict {vd : Verdict} (h : s.ignoredAt k) : (s.giveVerdict n vd).ignoredAt k := by
  cases hv : s.visit? n with
  | none =>
    unfold State.giveVerdict
    rwa [hv]
  | some v =>
    have hrouted : ((s.writeVerdict n vd).routeVerdict v vd).2.ignoredAt k := State.ignoredAt.routeVerdict h
    rw [State.giveVerdict_eq hv]
    exact .reportHolds (State.ignoredAt.placeVisitMessage hrouted)

theorem State.ignoredAt.serveWaiter (h : s.ignoredAt k) : (s.serveWaiter n rest src).ignoredAt k := by
  unfold State.serveWaiter State.admitWith
  split
  · exact h
  · exact State.ignoredAt.giveVerdict h

theorem State.ignoredAt.giveNoCapacity (h : s.ignoredAt k) : (s.giveNoCapacity n).ignoredAt k := by
  unfold State.giveNoCapacity State.enterClerkHold
  split
  · exact h
  · refine .reportHolds ?_
    split
    · exact h
    · exact State.ignoredAt.placeVisitMessage h

/-! ### A frame displaced (R167) -/

theorem displaceYoungest_mem {q left : List TxEntry} {g : TxFrame} (h : displaceYoungest q = some (g, left)) :
    ∃ e ∈ q, e.frame = g := by
  induction q generalizing left with
  | nil => cases h
  | cons x xs ih =>
    unfold displaceYoungest at h
    split at h
    next hleft =>
      cases h
      obtain ⟨e, he, hg⟩ := ih hleft
      exact ⟨e, List.mem_cons_of_mem x he, hg⟩
    next =>
      split at h
      · cases h
        exact ⟨x, List.mem_cons_self, rfl⟩
      · cases h

theorem State.displaced_counters {g : TxFrame} (hg : g.kind ≠ .counters) (s : State) :
    (s.displaced g).outcome.counters = s.outcome.counters := by
  cases g
  case counters => exact absurd rfl hg
  all_goals rfl

theorem State.ignoredAt.handClass0 {o : OutboxOwner} (h : s.ignoredAt k) :
    (s.handClass0 o f).outcome.counters.framesIgnored = k := by
  have hkind {g : TxFrame} {left : List TxEntry} (hdisplaced : displaceYoungest s.bus.txQueue = some (g, left)) :
      g.kind ≠ .counters := by
    obtain ⟨e, he, rfl⟩ := displaceYoungest_mem hdisplaced
    exact h.2 e he
  unfold State.handClass0
  split
  · exact h.1
  · split
    next hdisplaced _ =>
      rw [State.displaced_counters (hkind hdisplaced)]
      exact h.1
    next hdisplaced _ =>
      rw [State.displaced_counters (hkind hdisplaced)]
      exact h.1
    · exact h.1
    · exact h.1

/-! ### The waiting visits (R86, R90, R93) -/

theorem State.ignoredAt.openAsk (h : s.ignoredAt k) : s.openAsk.outcome.counters.framesIgnored = k := by
  unfold State.openAsk
  split
  · exact h.1
  · exact State.ignoredAt.handClass0 (s := { s with capacity := _ }) h

theorem State.ignoredAt.nextAsk {fuel : Nat} (h : s.ignoredAt k) :
    (State.nextAsk src fuel s).outcome.counters.framesIgnored = k := by
  induction fuel generalizing s with
  | zero => exact h.1
  | succ fuel ih =>
    unfold State.nextAsk
    repeat' split
    · exact h.1
    · exact ih h.serveWaiter
    · exact h.openAsk
    · exact ih (State.ignoredAt.giveNoCapacity h)

theorem State.ignoredAt.askFails (h : s.ignoredAt k) : s.askFails.outcome.counters.framesIgnored = k := by
  unfold State.askFails
  dsimp only
  split
  · exact h.1
  next rest _ => exact State.ignoredAt.nextAsk (State.ignoredAt.giveNoCapacity (s := (s.setAsk none).setWaitList rest) h)

end

end Sys2Proof.Machine
end

section
/-! O54: the asker's side. -/

namespace Sys2Proof.Machine

section
variable {s t : State} {c : LaneId} {w : Window} {n : Byte} {q : Quota} {a : Ask} {m : VisitNumber} {ms : List VisitNumber}

/-! ### LOAN_OFFER (R91) -/

/-- The first Offer for the open Ask is taken. -/
def State.offerTaken (c : LaneId) (w : Window) (n : Byte) (a : Ask) (s : State) : State :=
  { s with capacity := { s.capacity with
    ask := some { a with state := .taking c }
    takes := (if s.capacity.takes.length < 4 then s.capacity.takes else s.capacity.takes.tail) ++ [⟨c, w, n⟩] } }

theorem State.takeOffer_asking (ha : s.capacity.ask = some a) (hstate : a.state = .asking) (hw : a.window = w)
    (hn : a.number = n) :
    s.takeOffer c w n = (s.offerTaken c w n a).handClass0 .capacityUnit (.loanTake c w n) := by
  unfold State.takeOffer
  rw [ha]
  exact if_pos (by simp [hstate, Ask.isFor, hw, hn])

theorem State.takeOffer_declined
    (h : ∀ a, s.capacity.ask = some a → a.state ≠ .asking ∨ a.window ≠ w ∨ a.number ≠ n) :
    s.takeOffer c w n = s.handClass0 .capacityUnit (.loanDecline c w n) := by
  unfold State.takeOffer
  cases ha : s.capacity.ask with
  | none => rfl
  | some a =>
    refine if_neg ?_
    have hother := h a ha
    simp only [Ask.isFor, Bool.and_eq_true, decide_eq_true_eq, beq_iff_eq]
    tauto

/-! ### The frame and the open Ask (R92, R93) -/

theorem State.forOpenAsk_iff :
    s.forOpenAsk c w n = true ↔ ∃ a, s.capacity.ask = some a ∧ a.state = .taking c ∧ a.window = w ∧ a.number = n := by
  unfold State.forOpenAsk
  cases s.capacity.ask <;> simp [Ask.isFor]

theorem State.not_forOpenAsk
    (h : ∀ a, s.capacity.ask = some a → a.state ≠ .taking c ∨ a.window ≠ w ∨ a.number ≠ n) :
    ¬s.forOpenAsk c w n = true := by
  rw [State.forOpenAsk_iff]
  rintro ⟨a, ha, hstate, hw, hn⟩
  rcases h a ha with h | h | h
  · exact h hstate
  · exact h hw
  · exact h hn

theorem State.borrowed_eq (hq : s.capacity.quota = some q) : s.borrowed = q.borrowed := by
  simp [State.borrowed, hq]

/-! ### LOAN_CONFIRM (R92) -/

/-- An outstanding TAKE is no longer kept. -/
def State.takeGone (x : Take) (s : State) : State :=
  { s with capacity := { s.capacity with takes := s.capacity.takes.erase x } }

/-- The TAKE is no longer kept, and its unit is borrowed. -/
def State.unitBorrowed (x : Take) (q : Quota) (s : State) : State :=
  { s with capacity := { s.capacity with
    quota := some { q with borrowed := q.borrowed + 1 }, takes := s.capacity.takes.erase x } }

theorem State.updQuota_takeGone (hq : s.capacity.quota = some q) (x : Take) :
    (s.takeGone x).updQuota (fun q => { q with borrowed := q.borrowed + 1 }) = s.unitBorrowed x q := by
  simp [State.updQuota, State.takeGone, State.unitBorrowed, hq]

theorem State.takeConfirm_open (hopen : s.forOpenAsk c w n = true) (hq : s.capacity.quota = some q)
    (hroom : q.borrowed < 15) (hwait : s.capacity.waitList = m :: ms) :
    s.takeConfirm c w n =
      (((s.unitBorrowed ⟨c, w, n⟩ q).setAsk none).serveWaiter m ms .borrowed).checkWaiters .borrowed := by
  unfold State.takeConfirm
  rw [if_pos hopen, if_pos ((State.borrowed_eq hq).trans_lt hroom), ← State.updQuota_takeGone hq]
  dsimp only
  rw [show (((s.setTakes (s.capacity.takes.erase ⟨c, w, n⟩)).updQuota
    (fun q => { q with borrowed := q.borrowed + 1 })).setAsk none).capacity.waitList = m :: ms from hwait]
  rfl

theorem State.takeConfirm_openFull (hopen : s.forOpenAsk c w n = true) (hq : s.capacity.quota = some q)
    (hfull : 15 ≤ q.borrowed) :
    s.takeConfirm c w n = ((s.takeGone ⟨c, w, n⟩).count .framesIgnored).askFails := by
  unfold State.takeConfirm
  rw [if_pos hopen, if_neg (by rw [State.borrowed_eq hq]; omega)]
  rfl

theorem State.takeConfirm_late (hclosed : ¬s.forOpenAsk c w n = true) (hkept : (⟨c, w, n⟩ : Take) ∈ s.capacity.takes)
    (hq : s.capacity.quota = some q) (hroom : q.borrowed < 15) :
    s.takeConfirm c w n = (s.unitBorrowed ⟨c, w, n⟩ q).spareRose .borrowed := by
  unfold State.takeConfirm
  rw [if_neg hclosed, if_pos hkept, if_pos ((State.borrowed_eq hq).trans_lt hroom), ← State.updQuota_takeGone hq]
  rfl

theorem State.takeConfirm_lateFull (hclosed : ¬s.forOpenAsk c w n = true)
    (hkept : (⟨c, w, n⟩ : Take) ∈ s.capacity.takes) (hq : s.capacity.quota = some q) (hfull : 15 ≤ q.borrowed) :
    s.takeConfirm c w n = (s.takeGone ⟨c, w, n⟩).count .framesIgnored := by
  unfold State.takeConfirm
  rw [if_neg hclosed, if_pos hkept, if_neg (by rw [State.borrowed_eq hq]; omega)]
  rfl

theorem State.takeConfirm_unknown (hclosed : ¬s.forOpenAsk c w n = true)
    (hkept : (⟨c, w, n⟩ : Take) ∉ s.capacity.takes) : s.takeConfirm c w n = s := by
  unfold State.takeConfirm
  rw [if_neg hclosed, if_neg hkept]

/-! ### LOAN_VOID and the deadline (R93) -/

theorem State.takeVoid_open (hopen : s.forOpenAsk c w n = true) :
    s.takeVoid c w n = (s.takeGone ⟨c, w, n⟩).askFails := if_pos hopen

theorem State.takeVoid_other (hclosed : ¬s.forOpenAsk c w n = true) : s.takeVoid c w n = s.takeGone ⟨c, w, n⟩ :=
  if_neg hclosed

theorem State.askDeadline_runsOut (ha : s.capacity.ask = some a) (hrunning : a.deadline.isRunning = true) :
    s.askDeadline = s.askFails := by
  unfold State.askDeadline
  rw [ha]
  exact if_pos hrunning

theorem State.askDeadline_none (ha : s.capacity.ask = none) : s.askDeadline = s := by
  unfold State.askDeadline
  rw [ha]

/-! ### Seen from before the frame was handed on -/

/-- With `ts` for its outstanding TAKEs, and beside the Ask and the account, `r` is to the waiting visits and to what they leave
alone what `s` is. -/
def State.sameBesideLoan (s : State) (ts : List Take) (r : State) : Prop :=
  s.sameToWaiters r ∧ r.capacity.waitList = s.capacity.waitList ∧ r.capacity.takes = ts ∧
    r.capacity.offers = s.capacity.offers ∧ r.booking = s.booking

variable {r : State} {v : Visit} {src : FlexSource} {ts : List Take}

theorem State.onlyWaiters.seenFrom (h : r.onlyWaiters r.capacity.takes t) (hsame : s.sameBesideLoan ts r) :
    s.onlyWaiters ts t := by
  obtain ⟨htakes, hoffers, hbooking, hother⟩ := h
  obtain ⟨⟨hvisits, -⟩, hlist, htakes', hoffers', hbooking'⟩ := hsame
  exact ⟨htakes.trans htakes', hoffers.trans hoffers', hbooking.trans hbooking',
    fun i hi => (hother i (by rwa [hlist])).trans (State.visit?_of_visits hvisits i)⟩

/-- The open Ask fails in `r`, and the oldest visit that waited in `s` is refused. -/
theorem State.askFails_seenFrom (hsame : s.sameBesideLoan ts r) (hwait : s.capacity.waitList = m :: ms)
    (hnodup : (m :: ms).Nodup) (hv : s.visit? m = some v) :
    (∃ x, r.askFails.visit? m = some x ∧ x.state = .hold ∧ x.verdict = .hold ∧ x.given .noCapacity) ∧
      s.onlyWaiters ts r.askFails ∧ ∀ q, r.capacity.quota = some q → s.waitersTaken r.askFails ms .own q := by
  obtain ⟨hvisit, honly, htaken⟩ := State.askFails_oldestRefused (hsame.2.1.trans hwait) hnodup
    ((State.visit?_of_visits hsame.1.1 m).trans hv)
  exact ⟨hvisit, honly.seenFrom hsame, fun q hq => (htaken q hq).of_same hsame.1⟩

/-- A unit comes for the open Ask in `r`, and the oldest visit that waited in `s` is served. -/
theorem State.serveWaiter_seenFrom (hsame : s.sameBesideLoan ts r) (hwait : s.capacity.waitList = m :: ms)
    (hnodup : (m :: ms).Nodup) (hv : s.visit? m = some v) (hq : r.capacity.quota = some q) (hask : r.capacity.ask = none)
    (ht : t = (r.serveWaiter m ms src).checkWaiters src) :
    (∃ x, t.visit? m = some x ∧ x.flex = src ∧ x.state = .exiting ∧
        x.verdict = (if v.needsInspection then .admitInspect else .admitted)) ∧
      s.onlyWaiters ts t ∧ s.waitersTaken t ms src { q with used := q.used + 1 } := by
  obtain ⟨hvisit, honly, htaken⟩ := State.serveWaiter_oldestServed (src := src) (hsame.2.1.trans hwait) hnodup
    ((State.visit?_of_visits hsame.1.1 m).trans hv) hq hask
  subst ht
  exact ⟨hvisit, honly.seenFrom hsame, htaken.of_same hsame.1⟩

/-- A unit comes late in `r`, and the visits that waited in `s` are served out of the spare. -/
theorem State.spareRose_seenFrom (hsame : s.sameBesideLoan ts r) (hsome : s.capacity.waitList ≠ [])
    (hnodup : s.capacity.waitList.Nodup) (hq : r.capacity.quota = some q)
    (hspare : q.used + q.lent < q.share + q.borrowed) :
    s.onlyWaiters ts (r.spareRose src) ∧ s.waitersTaken (r.spareRose src) s.capacity.waitList src q := by
  have honly := (State.spareRose_onlyWaiters src r).seenFrom hsame
  obtain ⟨hsame, hlist, -⟩ := hsame
  rw [← hlist] at hsome hnodup ⊢
  exact ⟨honly, (State.spareRose_waitersTaken hq hspare hsome hnodup).of_same hsame⟩

/-! ### The state that each branch acts on -/

section
variable {u : State} {f : RxFrame} {rest : List RxFrame} (hu : u = s.handedOn f rest)
include hu

theorem State.handedOn_forOpenAsk (ha : s.capacity.ask = some a) (hstate : a.state = .taking c) (hw : a.window = w)
    (hn : a.number = n) : u.forOpenAsk c w n = true := by
  rw [State.forOpenAsk_iff, hu]
  exact ⟨a, ha, hstate, hw, hn⟩

theorem State.handedOn_not_forOpenAsk
    (h : ∀ a, s.capacity.ask = some a → a.state ≠ .taking c ∨ a.window ≠ w ∨ a.number ≠ n) :
    ¬u.forOpenAsk c w n = true := by
  subst hu
  exact State.not_forOpenAsk h

theorem State.sameBesideLoan_takeGone (x : Take) : s.sameBesideLoan (s.capacity.takes.erase x) (u.takeGone x) := by
  subst hu
  exact ⟨⟨rfl, rfl, rfl, rfl, rfl⟩, rfl, rfl, rfl, rfl⟩

theorem State.sameBesideLoan_unitRefused (x : Take) :
    s.sameBesideLoan (s.capacity.takes.erase x) ((u.takeGone x).count .framesIgnored) := by
  rw [State.count_eq (by decide)]
  exact State.sameBesideLoan_takeGone hu x

theorem State.sameBesideLoan_unitBorrowed (x : Take) (q : Quota) :
    s.sameBesideLoan (s.capacity.takes.erase x) (u.unitBorrowed x q) := by
  subst hu
  exact ⟨⟨rfl, rfl, rfl, rfl, rfl⟩, rfl, rfl, rfl, rfl⟩

/-- FRAMES_IGNORED counts the unit that is not taken, and what becomes of the waiting visits leaves the counter alone (R92). -/
theorem State.unitRefused_framesIgnored (x : Take) (hnone : ∀ e ∈ s.bus.txQueue, e.frame.kind ≠ .counters) :
    ((u.takeGone x).count .framesIgnored).askFails.outcome.counters.framesIgnored =
      min 255 (s.outcome.counters.framesIgnored + 1) := by
  subst hu
  refine State.ignoredAt.askFails ?_
  rw [State.count_eq (by decide)]
  exact ⟨rfl, hnone⟩

end

end

/-- Settles O54: each frame by whether it is for the open Ask and whether one more unit may be borrowed. -/
theorem askerTakesConfirmsAndFails : Obligations.AskerTakesConfirmsAndFails := by
  refine ⟨fun s u f rest w n hf hu hform => ?_, fun s u f rest w n q hf hu hform hq hroom => ?_,
    fun s u f rest w n q hf hu hform hq hfull => ?_, fun s u f rest w n hf hu hform => ?_,
    fun s a m v ha hrunning hwait hv => ?_, fun s a m ms v q ha hrunning hwait hnodup hv hq => ?_,
    fun s hnone => congrArg _ (State.askDeadline_none hnone)⟩
  · rw [State.exec_loanOfferFrame hf hu hform]
    have hcapacity : u.capacity = s.capacity := by simp [hu]
    refine ⟨fun a ha hstate hw hn => ?_, fun hother => by rw [State.takeOffer_declined (by rwa [hcapacity])]⟩
    rw [State.takeOffer_asking (by rwa [hcapacity]) hstate hw hn, State.offerTaken, hcapacity]
  · rw [State.exec_loanConfirmFrame hf hu hform]
    have hcapacity : u.capacity = s.capacity := by simp [hu]
    have hsame := State.sameBesideLoan_unitBorrowed hu ⟨f.source, w, n⟩ q
    refine ⟨fun a m v ha hstate hw hn hwait hv => ?_, fun a m ms v ha hstate hw hn hwait hnodup hv => ?_,
      fun hother => ?_⟩
    · rw [State.takeConfirm_open (State.handedOn_forOpenAsk hu ha hstate hw hn) (by rwa [hcapacity]) hroom
        (by rwa [hcapacity])]
      obtain ⟨⟨x, hx, hflex, hexiting, hverdict⟩, -⟩ := State.serveWaiter_seenFrom
        (r := (u.unitBorrowed ⟨f.source, w, n⟩ q).setAsk none) (src := .borrowed) hsame hwait (List.nodup_singleton m) hv
        rfl rfl rfl
      refine ⟨_, x, rfl, ?_, hx, hflex, hexiting, hverdict⟩
      rw [State.serveWaiter_alone]
      simp [State.unitBorrowed, hcapacity]
    · rw [State.takeConfirm_open (State.handedOn_forOpenAsk hu ha hstate hw hn) (by rwa [hcapacity]) hroom
        (by rwa [hcapacity])]
      obtain ⟨⟨x, hx, hflex, hexiting, hverdict⟩, ⟨htakes, hoffers, hbooking, hrest⟩, htaken⟩ :=
        State.serveWaiter_seenFrom (r := (u.unitBorrowed ⟨f.source, w, n⟩ q).setAsk none) (src := .borrowed) hsame hwait
          hnodup hv rfl rfl rfl
      exact ⟨_, x, rfl, hx, hflex, hexiting, hverdict, htakes, hoffers, hbooking, hrest, htaken⟩
    · have hclosed := State.handedOn_not_forOpenAsk hu hother
      refine ⟨fun hkept hsound hsome hnodup => ?_, fun hunknown => ?_, fun hkept hnobody => ?_⟩
      · rw [State.takeConfirm_late hclosed (by rwa [hcapacity]) (by rwa [hcapacity]) hroom]
        obtain ⟨hused, -⟩ := (s.quotaSound_iff.mp hsound).2.2.1 q hq
        obtain ⟨⟨htakes, hoffers, hbooking, hrest⟩, htaken⟩ :=
          State.spareRose_seenFrom (src := .borrowed) hsame hsome hnodup rfl (by dsimp only; omega)
        exact ⟨_, rfl, htakes, hoffers, hbooking, hrest, htaken⟩
      · rw [State.takeConfirm_unknown hclosed (by rwa [hcapacity])]
      · rw [State.takeConfirm_late hclosed (by rwa [hcapacity]) (by rwa [hcapacity]) hroom,
          State.spareRose_nobody (hsame.2.1.trans hnobody), State.unitBorrowed, hcapacity]
  · rw [State.exec_loanConfirmFrame hf hu hform]
    have hcapacity : u.capacity = s.capacity := by simp [hu]
    refine ⟨fun a m ms v ha hstate hw hn hwait hnodup hv => ?_, fun hother => ?_⟩
    · rw [State.takeConfirm_openFull (State.handedOn_forOpenAsk hu ha hstate hw hn) (by rwa [hcapacity]) hfull]
      obtain ⟨⟨x, hx, hheld, hverdict, hgiven⟩, ⟨htakes, hoffers, hbooking, hrest⟩, htaken⟩ :=
        State.askFails_seenFrom (State.sameBesideLoan_unitRefused hu ⟨f.source, w, n⟩) hwait hnodup hv
      refine ⟨_, x, rfl, fun hnone => State.unitRefused_framesIgnored hu _ hnone, hx, hheld, hverdict, hgiven, htakes, hoffers,
        hbooking, hrest, htaken q ?_⟩
      rw [State.count_eq (by decide)]
      exact (congrArg CapacityUnit.quota hcapacity).trans hq
    · have hclosed := State.handedOn_not_forOpenAsk hu hother
      refine ⟨fun hunknown => by rw [State.takeConfirm_unknown hclosed (by rwa [hcapacity])], fun hkept => ?_⟩
      rw [State.takeConfirm_lateFull hclosed (by rwa [hcapacity]) (by rwa [hcapacity]) hfull, State.takeGone, hcapacity]
  · rw [State.exec_loanVoidFrame hf hu hform]
    have hcapacity : u.capacity = s.capacity := by simp [hu]
    have hsame := State.sameBesideLoan_takeGone hu ⟨f.source, w, n⟩
    refine ⟨fun a m v ha hstate hw hn hwait hv => ?_, fun a m ms v q ha hstate hw hn hwait hnodup hv hq => ?_,
      fun hother => ?_⟩
    · rw [State.takeVoid_open (State.handedOn_forOpenAsk hu ha hstate hw hn)]
      obtain ⟨⟨x, hx, hheld, hverdict, hgiven⟩, -⟩ := State.askFails_seenFrom hsame hwait (List.nodup_singleton m) hv
      refine ⟨_, x, rfl, ?_, hx, hheld, hverdict, hgiven⟩
      rw [State.askFails_alone (hsame.2.1.trans hwait), State.takeGone, hcapacity]
    · rw [State.takeVoid_open (State.handedOn_forOpenAsk hu ha hstate hw hn)]
      obtain ⟨⟨x, hx, hheld, hverdict, hgiven⟩, ⟨htakes, hoffers, hbooking, hrest⟩, htaken⟩ :=
        State.askFails_seenFrom hsame hwait hnodup hv
      exact ⟨_, x, rfl, hx, hheld, hverdict, hgiven, htakes, hoffers, hbooking, hrest,
        htaken q ((congrArg CapacityUnit.quota hcapacity).trans hq)⟩
    · rw [State.takeVoid_other (State.handedOn_not_forOpenAsk hu hother), State.takeGone, hcapacity]
  · obtain ⟨⟨x, hx, hheld, hverdict, hgiven⟩, -⟩ := State.askFails_oldestRefused hwait (List.nodup_singleton m) hv
    exact ⟨s.askFails, x, congrArg _ (State.askDeadline_runsOut ha hrunning), State.askFails_alone hwait, hx, hheld,
      hverdict, hgiven⟩
  · obtain ⟨⟨x, hx, hheld, hverdict, hgiven⟩, ⟨htakes, hoffers, hbooking, hrest⟩, htaken⟩ :=
      State.askFails_oldestRefused hwait hnodup hv
    exact ⟨s.askFails, x, congrArg _ (State.askDeadline_runsOut ha hrunning), hx, hheld, hverdict, hgiven, htakes, hoffers,
      hbooking, hrest, htaken q hq⟩

end Sys2Proof.Machine
end

section
/-! Rules about the Survey Unit: the pass that SCAN opens and ends, the dark runs that its end settles with SURVEY_CHANNEL, and
the samples that the converter takes meanwhile. O31, O32 and O55. -/

namespace Sys2Proof.Machine

section
variable {s : State} {v : Visit} {p : Pass} {d : PassSummary} {zs : List Zone} {runs before after : List Nat}

/-! ### SCAN occupied (R114) -/

theorem State.scanOccupied_orphan (h : s.portal? = none) : s.scanOccupied = s.count .orphanPasses := by
  rw [State.scanOccupied, h]

theorem State.scanOccupied_front (hv : s.portal? = some v) (hfront : v.front.pass = none) :
    s.scanOccupied = s.openPass v.number .front := by
  simp [State.scanOccupied, hv, hfront]

theorem State.scanOccupied_rear (hv : s.portal? = some v) (hfront : v.front.pass ≠ none) (hrear : v.rear.pass = none) :
    s.scanOccupied = s.openPass v.number .rear := by
  simp [State.scanOccupied, hv, hfront, hrear]

theorem State.scanOccupied_extra (hv : s.portal? = some v) (hfront : v.front.pass ≠ none) (hrear : v.rear.pass ≠ none) :
    s.scanOccupied = s.updVisit v.number (Visit.addReason .extraPass) := by
  simp [State.scanOccupied, hv, hfront, hrear]

/-! ### The enabled zones whose run is at 3 (R122) -/

/-- Zone `i` is enabled, and its dark run is at 3. -/
def darkAt (zs : List Zone) (runs : List Nat) (i : Nat) : Prop :=
  ∃ z, zs[i]? = some z ∧ z.enabled = true ∧ runs[i]? = some 3

theorem darkAt_iff {i : Nat} : darkAt zs runs i ↔ i ∈ enabledZones zs ∧ runs.getD i 0 = 3 := by
  have hrun : runs.getD i 0 = 3 ↔ runs[i]? = some 3 := by
    rw [List.getD_eq_getElem?_getD]
    cases runs[i]? <;> simp
  rw [mem_enabledZones, hrun, darkAt]
  simp only [exists_and_right, ← and_assoc]

theorem darkCondition_iff : darkCondition zs runs = true ↔ ∃ i, darkAt zs runs i := by
  simp [darkCondition, darkAt_iff]

theorem darkEnded_iff : (darkCondition zs before && !darkCondition zs after) = true ↔
    (∃ i, darkAt zs before i) ∧ ∀ i, ¬ darkAt zs after i := by
  rw [Bool.and_eq_true, darkCondition_iff, Bool.not_eq_true', Bool.eq_false_iff, Ne, darkCondition_iff, not_exists]

theorem darkNewly_iff : darkNewly zs before after = true ↔ ∃ i, darkAt zs after i ∧ ¬ darkAt zs before i := by
  simp only [darkNewly, darkAt_iff, List.any_eq_true, Bool.and_eq_true, bne_iff_ne, beq_iff_eq]
  refine exists_congr fun i => ?_
  tauto

/-! ### The dark runs settled (R121, R122) -/

/-- The dark runs after a pass, with no flag moved yet. -/
def State.darkRunsTaken (d : PassSummary) (s : State) : State :=
  { s with survey := { s.survey with darkRuns := darkRunsAfter s.zones d s.survey.darkRuns } }

theorem State.settleDark_newlyDark {i : Nat} (hafter : darkAt s.zones (s.darkRunsTaken d).survey.darkRuns i)
    (hbefore : ¬ darkAt s.zones s.survey.darkRuns i) : s.settleDark d = (s.darkRunsTaken d).latch .surveyChannel :=
  if_pos (darkNewly_iff.mpr ⟨i, hafter, hbefore⟩)

theorem State.settleDark_noneDark {i : Nat} (hafter : ∀ j, ¬ darkAt s.zones (s.darkRunsTaken d).survey.darkRuns j)
    (hbefore : darkAt s.zones s.survey.darkRuns i) : s.settleDark d = (s.darkRunsTaken d).endCondition .surveyChannel := by
  have hnew : ¬ darkNewly s.zones s.survey.darkRuns (s.darkRunsTaken d).survey.darkRuns = true := by
    rw [darkNewly_iff]
    rintro ⟨j, hj, -⟩
    exact hafter j hj
  exact (if_neg hnew).trans (if_pos (darkEnded_iff.mpr ⟨⟨i, hbefore⟩, hafter⟩))

theorem State.settleDark_unmoved
    (hold : ∀ i, darkAt s.zones (s.darkRunsTaken d).survey.darkRuns i → darkAt s.zones s.survey.darkRuns i)
    (hsome : (∃ i, darkAt s.zones (s.darkRunsTaken d).survey.darkRuns i) ∨ ∀ i, ¬ darkAt s.zones s.survey.darkRuns i) :
    s.settleDark d = s.darkRunsTaken d := by
  have hnew : ¬ darkNewly s.zones s.survey.darkRuns (s.darkRunsTaken d).survey.darkRuns = true := by
    rw [darkNewly_iff]
    rintro ⟨i, hafter, hbefore⟩
    exact hbefore (hold i hafter)
  refine (if_neg hnew).trans (if_neg ?_)
  show ¬ (darkCondition s.zones s.survey.darkRuns && !darkCondition s.zones (s.darkRunsTaken d).survey.darkRuns) = true
  rw [darkEnded_iff]
  rintro ⟨⟨i, hbefore⟩, hnone⟩
  rcases hsome with ⟨j, hafter⟩ | hno
  · exact hnone j hafter
  · exact hno i hbefore

theorem State.settleDark_flag_ne {f : AlertFlag} (hf : f ≠ .surveyChannel) : (s.settleDark d).flag f = s.flag f := by
  unfold State.settleDark
  dsimp only
  split
  · exact State.flag_latch_ne hf (s.darkRunsTaken d)
  · split
    · exact State.flag_putFlag_ne hf _ (s.darkRunsTaken d)
    · rfl

/-! ### SCAN vacated (R115, R120) -/

/-- The pass `p` is closed, its summary in the target slot of its visit. -/
def State.passFiled (p : Pass) (s : State) : State :=
  (s.setPass none).updVisit p.visit (Visit.updSlot p.target (fun c => { c with pass := some p.data }))

theorem State.endPass_noPass (h : s.survey.pass = none) : s.endPass = s := by
  rw [State.endPass, h]

theorem State.endPass_open (h : s.survey.pass = some p) : s.endPass = (s.passFiled p).settleDark p.data := by
  rw [State.endPass, h]
  rfl

theorem State.endPass_visits_survey (h : s.survey.pass = some p) :
    s.endPass.visits = (s.passFiled p).visits ∧
      s.endPass.survey = ⟨none, darkRunsAfter s.zones p.data s.survey.darkRuns⟩ := by
  rw [State.endPass_open h]
  exact (s.passFiled p).settleDark_survey p.data

/-! ### A sample (R117 to R119) -/

theorem State.sample_noPass {raw : Nat} (h : s.survey.pass = none) : s.sample raw = s := by
  rw [State.sample, h]

theorem State.sample_open {raw : Nat} (h : s.survey.pass = some p) :
    s.sample raw = s.setPass (some (p.takeSample s.zones s.general.samplesPerReading raw)) := by
  rw [State.sample, h]

variable {samples raw z : Nat}

theorem Pass.takeSample_goesOn (hz : p.zone = some z) (h : p.taken + 1 < samples) :
    p.takeSample zs samples raw =
      { p with taken := p.taken + 1, sum := p.sum + raw, spoilt := p.spoilt || !sampleValid raw } := by
  rw [Pass.takeSample, hz]
  exact if_pos h

theorem Pass.takeSample_completes {e : Zone} (hz : p.zone = some z) (h : samples ≤ p.taken + 1) (he : zs[z]? = some e) :
    p.takeSample zs samples raw =
      { p with data := p.data.modify z
                 (ZoneData.takeReading e.offset samples (p.sum + raw) (p.spoilt || !sampleValid raw))
               zone := nextZone zs z, taken := 0, sum := 0, spoilt := false } := by
  simp [Pass.takeSample, hz, he, Nat.not_lt.mpr h]

theorem ZoneData.takeReading_spoilt (offset samples sum : Nat) (d : ZoneData) :
    d.takeReading offset samples sum true = { d with invalid := min 255 (d.invalid + 1) } := rfl

theorem ZoneData.takeReading_valid (offset samples sum : Nat) (d : ZoneData) :
    d.takeReading offset samples sum false = d.takeDistance (offset + (sum + samples / 2) / samples / 2) := rfl

end

/-- Settles O31, by the visit in the portal and its slots. -/
theorem scanOccupiedOpensAPass : Obligations.ScanOccupiedOpensAPass := by
  intro s u h hu
  have hexec : exec (.debounceExpiry .scan) s = .next u.scanOccupied := by
    rw [hu]
    exact State.exec_debounceExpiry_edge h
  have hportal : s.portal? = u.portal? := by rw [hu]; rfl
  have hzones : s.zones = u.zones := by rw [hu]; rfl
  rw [hexec, hportal, hzones]
  refine ⟨fun hnone => ?_, fun v hv => ⟨fun hfront => ?_, fun hfront hrear => ?_, fun hfront hrear => ?_⟩⟩
  · rw [State.scanOccupied_orphan hnone]
  · rw [State.scanOccupied_front hv hfront]
    rfl
  · rw [State.scanOccupied_rear hv hfront hrear]
    rfl
  · rw [State.scanOccupied_extra hv hfront hrear]

/-- Settles O32: the ended pass is filed with its visit, and SURVEY_CHANNEL follows the runs at 3 before and after. -/
theorem scanVacatedEndsThePass : Obligations.ScanVacatedEndsThePass := by
  intro s u h hu
  have hexec : exec (.debounceExpiry .scan) s = .next u.endPass := by
    rw [hu]
    exact State.exec_debounceExpiry_edge h
  have hsurvey : s.survey = u.survey := by rw [hu]; rfl
  have hzones : s.zones = u.zones := by rw [hu]; rfl
  have hflag (f : AlertFlag) : s.flag f = u.flag f := by rw [hu]; rfl
  have houtcome : s.outcome = u.outcome := by rw [hu]; rfl
  have hbus : s.bus = u.bus := by rw [hu]; rfl
  rw [hexec, hsurvey]
  refine ⟨fun hnone => by rw [State.endPass_noPass hnone], fun p hp => ?_⟩
  obtain ⟨hvisits, hruns⟩ := State.endPass_visits_survey hp
  refine ⟨u.endPass, rfl, State.eq_of_blocks (by simp [hruns]), ?_, hvisits, fun f hf => ?_, fun dark hdark => ?_⟩
  · rw [hruns, hzones]
    exact darkRunsAfter_byTable _ _ _
  · rw [hflag, State.endPass_open hp, State.settleDark_flag_ne hf]
    rfl
  · obtain rfl : dark = darkAt u.zones := funext fun runs => funext fun i => propext (by rw [hdark, hzones, darkAt])
    rw [hruns, State.endPass_open hp, houtcome, hbus, hflag]
    refine ⟨fun ⟨i, hafter, hbefore⟩ => ?_, fun hafter ⟨i, hbefore⟩ => ?_, fun hold hsome => ?_⟩
    · rw [State.settleDark_newlyDark (s := u.passFiled p) hafter hbefore, State.flag_latch]
    · rw [State.settleDark_noneDark (s := u.passFiled p) hafter hbefore, State.endCondition, State.flag_putFlag_same]
      rfl
    · rw [State.settleDark_unmoved (s := u.passFiled p) hold hsome]
      exact ⟨rfl, rfl⟩

/-- Settles O55: a sample goes into the reading, or completes it. -/
theorem converterSampleBuildsReadings : Obligations.ConverterSampleBuildsReadings := by
  refine ⟨fun s raw hnone => congrArg Host.Outcome.next (State.sample_noPass hnone), fun s raw p z bad hp hz hbad => ?_⟩
  have hexec : exec (.converterSample raw) s =
      .next (s.setPass (some (p.takeSample s.zones s.general.samplesPerReading raw.toNat))) :=
    congrArg Host.Outcome.next (State.sample_open hp)
  have hspoilt : (p.spoilt || !sampleValid raw.toNat) = bad := hbad.symm
  rw [hexec]
  refine ⟨fun hmore => ?_, fun hlast e d he hd => ⟨_, rfl, ?_⟩⟩
  · rw [Pass.takeSample_goesOn hz hmore, hspoilt]
    rfl
  · rw [Pass.takeSample_completes hz hlast he, hspoilt]
    have hread : (p.data.modify z (ZoneData.takeReading e.offset s.general.samplesPerReading (p.sum + raw.toNat) bad))[z]? =
        some (d.takeReading e.offset s.general.samplesPerReading (p.sum + raw.toNat) bad) := by
      rw [List.getElem?_modify_eq, hd]
      rfl
    refine ⟨rfl, rfl, rfl, rfl, rfl, rfl, fun j hj => List.getElem?_modify_ne _ _ hj.symm,
      fun hspoiled => hread.trans ?_, fun hclean dist hdist => hread.trans ?_⟩
    · rw [hspoiled, ZoneData.takeReading_spoilt]
    · rw [hclean, ZoneData.takeReading_valid, ← hdist]
      rfl

end Sys2Proof.Machine
end

section
/-! O17: frames in the Transmit Queue, and what becomes of a frame handed over to a full one (R138, R154, R157, R160, R166,
R167). -/

namespace Sys2Proof.Machine

/-! ### The queue as a list -/

/-- In a queue in class order a frame enters between the frames of its own or a lower class and those of a higher one (R166). -/
theorem insertFrame_between (e : TxEntry) {q : List TxEntry} (hq : q.Pairwise (fun a b => a.frame.cls ≤ b.frame.cls)) :
    ∃ before after, q = before ++ after ∧ insertFrame e q = before ++ e :: after ∧
      (∀ x ∈ before, x.frame.cls ≤ e.frame.cls) ∧ ∀ x ∈ after, e.frame.cls < x.frame.cls := by
  induction q with
  | nil => exact ⟨[], [], rfl, rfl, by simp, by simp⟩
  | cons x xs ih =>
    obtain ⟨hx, hxs⟩ := List.pairwise_cons.mp hq
    unfold insertFrame
    split
    next hle =>
      obtain ⟨before, after, rfl, hinsert, hbefore, hafter⟩ := ih hxs
      exact ⟨x :: before, after, rfl, congrArg (x :: ·) hinsert, List.forall_mem_cons.mpr ⟨hle, hbefore⟩, hafter⟩
    next hlt =>
      have hlt : e.frame.cls < x.frame.cls := Nat.lt_of_not_le hlt
      exact ⟨[], x :: xs, rfl, rfl, by simp,
        List.forall_mem_cons.mpr ⟨hlt, fun y hy => Nat.lt_of_lt_of_le hlt (hx y hy)⟩⟩

/-- Where every class-2 frame is in transmission none gives way (R167). -/
theorem displaceYoungest_none {q : List TxEntry} (h : ∀ x ∈ q, x.frame.cls = 2 → x.sending = true) :
    displaceYoungest q = none := by
  induction q with
  | nil => rfl
  | cons x xs ih =>
    obtain ⟨hx, hxs⟩ := List.forall_mem_cons.mp h
    rw [displaceYoungest, ih hxs]
    refine if_neg ?_
    simpa using hx

/-- The youngest class-2 frame that is not in transmission gives way (R167). -/
theorem displaceYoungest_youngest {before after : List TxEntry} {e : TxEntry} (hcls : e.frame.cls = 2)
    (hwaits : e.sending = false) (hafter : ∀ x ∈ after, x.frame.cls = 2 → x.sending = true) :
    displaceYoungest (before ++ e :: after) = some (e.frame, before ++ after) := by
  induction before with
  | nil =>
    rw [List.nil_append, displaceYoungest, displaceYoungest_none hafter]
    exact if_pos (by simp [hcls, hwaits])
  | cons x xs ih =>
    rw [List.cons_append, displaceYoungest, ih]
    rfl

section
variable {s : State} {o : OutboxOwner} {f : TxFrame}

theorem State.txFree_pos_iff : 0 < s.txFree ↔ s.bus.txQueue.length < 8 := Nat.sub_pos_iff_lt

theorem State.txFree_eq_zero_iff : s.txFree = 0 ↔ 8 ≤ s.bus.txQueue.length := Nat.sub_eq_zero_iff_le

theorem State.not_txFree_pos (hfull : 8 ≤ s.bus.txQueue.length) : ¬ 0 < s.txFree :=
  mt State.txFree_pos_iff.mp (Nat.not_lt.mpr hfull)

theorem State.txFree_ne_zero (hroom : s.bus.txQueue.length < 8) : s.txFree ≠ 0 :=
  mt State.txFree_eq_zero_iff.mp (Nat.not_le.mpr hroom)

/-! ### A class-0 frame handed over (R166, R167) -/

theorem State.handClass0_room (h : s.bus.txQueue.length < 8) : s.handClass0 o f = s.enqueue f :=
  if_pos (State.txFree_pos_iff.mpr h)

theorem State.handClass0_displaces {g : TxFrame} {q : List TxEntry} (hfull : 8 ≤ s.bus.txQueue.length)
    (hgives : displaceYoungest s.bus.txQueue = some (g, q)) (hnone : s.outbox? o = none) :
    s.handClass0 o f = (s.setTxQueue (withFrame f q)).displaced g := by
  rw [State.handClass0, if_neg (State.not_txFree_pos hfull), hgives, hnone]

theorem State.handClass0_waits (hfull : 8 ≤ s.bus.txQueue.length) (hstays : displaceYoungest s.bus.txQueue = none)
    (hnone : s.outbox? o = none) : s.handClass0 o f = s.setOutboxes (s.bus.outboxes ++ [⟨o, f⟩]) := by
  rw [State.handClass0, if_neg (State.not_txFree_pos hfull), hstays, hnone]

theorem State.handClass0_lost (hfull : 8 ≤ s.bus.txQueue.length) (hstays : displaceYoungest s.bus.txQueue = none)
    (hold : (s.outbox? o).isSome = true) : s.handClass0 o f = s := by
  obtain ⟨old, hold⟩ := Option.isSome_iff_exists.mp hold
  rw [State.handClass0, if_neg (State.not_txFree_pos hfull), hstays, hold]

/-! ### Frames of the classes 1 and 2 handed over (R138, R154, R157, R160) -/

theorem State.handNote_room {b : Text} {w : Window} (h : s.bus.txQueue.length < 8) :
    s.handNote b w = s.enqueue (.blockNote b w) := if_neg (State.txFree_ne_zero h)

theorem State.handNote_full {b : Text} {w : Window} (h : 8 ≤ s.bus.txQueue.length) :
    s.handNote b w = s.count .txDrops := if_pos (State.txFree_eq_zero_iff.mpr h)

theorem State.handCounters_room {c : Counters} (h : s.bus.txQueue.length < 8) :
    s.handCounters c = s.enqueue (.counters c) := if_neg (State.txFree_ne_zero h)

theorem State.handCounters_full {c : Counters} (h : 8 ≤ s.bus.txQueue.length) :
    s.handCounters c = s.addBack c := if_pos (State.txFree_eq_zero_iff.mpr h)

theorem State.handStatus_full (h : 8 ≤ s.bus.txQueue.length) : s.handStatus = s.setStatusDue false :=
  if_pos (State.txFree_eq_zero_iff.mpr h)

theorem State.announceStart_full (h : 8 ≤ s.bus.txQueue.length) :
    s.announceStart.bus.txQueue = s.bus.txQueue := by
  rw [State.announceStart, if_pos (State.txFree_eq_zero_iff.mpr h)]

end

/-! ### Counters added back (R160) -/

theorem Counters.get_add (a b : Counters) (k : Counter) : (a.add b).get k = min 255 (a.get k + b.get k) := by
  cases k <;> rfl

theorem State.addBack_counters (c : Counters) (s : State) :
    (s.addBack c).outcome.counters = s.outcome.counters.add c := by
  unfold State.addBack
  dsimp only
  split
  · exact State.latch_counters _ _
  · rfl

/-- Settles O17, by the room in the queue and what gives way. -/
theorem transmitQueueKeepsOrder : Obligations.TransmitQueueKeepsOrder := by
  refine ⟨fun e _ hq => insertFrame_between e hq, fun o f s hroom => State.handClass0_room hroom,
    fun o f s before after e hfull hqueue hcls hwaits hafter hnone => State.handClass0_displaces hfull
      ((congrArg _ hqueue).trans (displaceYoungest_youngest hcls hwaits hafter)) hnone,
    fun o f s hfull hsending => ⟨State.handClass0_waits hfull (displaceYoungest_none hsending),
      State.handClass0_lost hfull (displaceYoungest_none hsending)⟩,
    fun s b w c => ⟨fun hroom => ⟨State.handNote_room hroom, State.handCounters_room hroom, State.handStatus_room hroom⟩,
      fun hfull => ⟨?_, State.announceStart_full hfull, State.handCounters_full hfull, State.handStatus_full hfull,
        State.offerOutcome_waits (.inr (.inr (.inr (by omega))))⟩⟩,
    fun s r flags m c => ⟨rfl, rfl, fun k => ?_⟩⟩
  · rw [State.handNote_full hfull, State.count_eq (by decide)]
    rfl
  · exact (congrArg (·.get k) (s.addBack_counters c)).trans (Counters.get_add _ _ _)

end Sys2Proof.Machine
end

section
/-! O33, O48 and O49: what BAR_UP and the two timers of the barrier do by its state, and the block notes of peers (R139, R145 to
R148). -/

namespace Sys2Proof.Machine

section
variable {s t : State} {n : VisitNumber} {up : Bool}

/-! ### The agreement of BAR_UP and RAISE (R148) -/

theorem State.barrierSense_onlyMarks (s : State) :
    s.barrierSense = { s with outcome := { s.outcome with flags := s.barrierSense.outcome.flags } } :=
  State.markCondition_eq _ _ s

theorem State.flag_markCondition_same (f : AlertFlag) (b : Bool) (s : State) :
    (s.markCondition f b).flag f = if (s.flag f).isSet then ⟨true, b⟩ else s.flag f := by
  unfold State.markCondition
  split
  · exact State.flag_putFlag_same f _ s
  · rfl

/-- Once BARRIER has latched, its mark says whether BAR_UP and RAISE disagree. -/
theorem State.flag_barrierSense (s : State) : s.barrierSense.flag .barrier =
    if (s.flag .barrier).isSet then ⟨true, s.level .barUp != s.line.raiseOut⟩ else s.flag .barrier :=
  State.flag_markCondition_same _ _ s

theorem State.sameButAlerts.markCondition (h : s.sameButAlerts t) (f : AlertFlag) (b : Bool) :
    s.sameButAlerts (t.markCondition f b) := by
  unfold State.markCondition
  split
  · have hput := congrArg (State.putFlag f ⟨true, b⟩) h
    exact hput
  · exact h

/-- A disagreement is reported: BARRIER latches, its mark says whether BAR_UP and RAISE still disagree, and nothing moves. -/
theorem State.disagreement_spec (s : State) :
    s.sameButAlerts (s.latch .barrier).barrierSense ∧
      (s.latch .barrier).barrierSense.flag .barrier = ⟨true, s.level .barUp != s.line.raiseOut⟩ ∧
      ∀ f, f ≠ .barrier → (s.latch .barrier).barrierSense.flag f = s.flag f := by
  have hline : (s.latch .barrier).line = s.line := by simp
  refine ⟨(State.latch_sameButAlerts _ s).markCondition _ _, ?_, fun f hf => ?_⟩
  · rw [State.flag_barrierSense, State.flag_latch, State.level_of_debounced (congrArg _ hline), hline]
    rfl
  · exact (State.flag_markCondition_ne hf _ _).trans (State.flag_latch_ne hf s)

/-! ### RAISE asserted: the flags, and BAR_UP found up (R145) -/

/-- The barrier is RAISING for a visit and the up check runs, RAISE not yet driven. -/
def State.raisingFor (n : VisitNumber) (s : State) : State :=
  { s with yard := { s.yard with barrier := .raising, raiseVisit := some n, upCheck := .running 4000 } }

theorem State.raiseFor_eq (n : VisitNumber) (s : State) : s.raiseFor n =
    if s.level .barUp then ((s.raisingFor n).driveRaise true).barrierSeenUp else (s.raisingFor n).driveRaise true := by
  have hlevel : ((s.raisingFor n).driveRaise true).level .barUp = s.level .barUp :=
    (State.onlyRaises.driveRaise (s.raisingFor n) true).level .barUp
  rw [← hlevel]
  rfl

theorem State.flag_barrierSeenUp (s : State) (f : AlertFlag) : s.barrierSeenUp.flag f = s.flag f := by
  unfold State.flag
  simp

theorem State.flag_raiseFor (n : VisitNumber) (s : State) (f : AlertFlag) :
    (s.raiseFor n).flag f = ((s.raisingFor n).driveRaise true).flag f := by
  rw [State.raiseFor_eq]
  split
  · exact State.flag_barrierSeenUp _ f
  · rfl

theorem State.isSet_raiseFor (n : VisitNumber) (s : State) (f : AlertFlag) :
    ((s.raiseFor n).flag f).isSet = (s.flag f).isSet := by
  rw [State.flag_raiseFor]
  exact State.isSet_markCondition _ _ _ f

theorem State.raiseFor_line (n : VisitNumber) (s : State) :
    (s.raiseFor n).line = { s.line with raiseOut := true } := by
  have honly : (s.raiseFor n).line = { s.line with raiseOut := (s.raiseFor n).line.raiseOut } :=
    State.onlyRaises.raiseFor s n
  rw [honly, (State.raiseFor_raisedFor n s).1]

theorem State.raiseFor_down_eq (h : s.level .barUp = false) : s.raiseFor n =
    { s with line := { s.line with raiseOut := true }
             yard := { s.yard with barrier := .raising, raiseVisit := some n, upCheck := .running 4000 }
             outcome := { s.outcome with flags := (s.raiseFor n).outcome.flags } } := by
  rw [State.raiseFor_eq, if_neg (by simp [h])]
  exact State.barrierSense_onlyMarks _

/-- With BAR_UP found up the barrier is seen up at once, and a latched BARRIER finds BAR_UP and RAISE in agreement. -/
theorem State.raiseFor_up (h : s.level .barUp = true) :
    (s.raiseFor n).yard = { s.yard with barrier := .raised, raiseVisit := some n, upCheck := .stopped } ∧
      ((s.flag .barrier).isSet = true → (s.raiseFor n).flag .barrier = ⟨true, false⟩) := by
  constructor
  · rw [State.raiseFor_eq, if_pos h]
    unfold State.barrierSeenUp
    split <;> simp [State.raisingFor]
  · intro hset
    have hflag : ((s.raisingFor n).driveRaise true).flag .barrier =
        if (s.flag .barrier).isSet then ⟨true, s.level .barUp != true⟩ else s.flag .barrier :=
      State.flag_markCondition_same _ _ _
    rw [State.flag_raiseFor, hflag, if_pos hset, h]
    rfl

/-! ### BAR_UP by barrier state (R146 to R148) -/

theorem State.level_debouncedTo {l : Line} (h : s.edge l up) : (s.debouncedTo l up).level l = up := by
  obtain ⟨-, -, ls, hls, -⟩ := h
  unfold State.level State.debouncedTo
  rw [hls]
  cases l <;> rfl

/-- Where the barrier state expects the level, nothing is done beside the mark. -/
theorem State.barUp_agrees (h : (up = true ∧ (s.yard.barrier = .raised ∨ s.yard.barrier = .heldOpen)) ∨
    (up = false ∧ (s.yard.barrier = .lowered ∨ s.yard.barrier = .raising))) :
    s.lineEvent .barUp up = s.barrierSense := by
  rcases h with ⟨rfl, h | h⟩ | ⟨rfl, h | h⟩ <;> simp only [State.lineEvent, State.barUpUp, State.barUpDown, h]

/-- Where the barrier state does not expect the level, a disagreement is reported. -/
theorem State.barUp_disagrees (h : (up = true ∧ (s.yard.barrier = .lowered ∨ s.yard.barrier = .settling)) ∨
    (up = false ∧ (s.yard.barrier = .raised ∨ s.yard.barrier = .heldOpen))) :
    s.lineEvent .barUp up = (s.latch .barrier).barrierSense := by
  rcases h with ⟨rfl, h | h⟩ | ⟨rfl, h | h⟩ <;> simp only [State.lineEvent, State.barUpUp, State.barUpDown, h]

theorem State.barUpUp_raising (h : s.yard.barrier = .raising) : s.barUpUp = s.barrierSeenUp.barrierSense := by
  rw [State.barUpUp, h]

theorem State.barrierSeenUp_for (h : s.yard.raiseVisit = some n) : s.barrierSeenUp =
    { s with visits := (s.updVisit n (fun v => { v with exitCheck := .running 60000 })).visits
             yard := { s.yard with barrier := .raised, upCheck := .stopped } } := by
  rw [State.barrierSeenUp, h]
  rfl

/-- The barrier is LOWERED and its settle time has ended (R147). -/
def State.barrierSettled (s : State) : State :=
  { s with yard := { s.yard with barrier := .lowered, settle := .stopped } }

theorem State.barUpDown_settling (h : s.yard.barrier = .settling) :
    s.barUpDown = s.barrierSettled.barrierSense.testRaise := by
  rw [State.barUpDown, h]
  rfl

/-! ### The two timers run out (R146, R147) -/

/-- The up check stands. -/
def State.upCheckStopped (s : State) : State := { s with yard := { s.yard with upCheck := .stopped } }

theorem State.upCheckExpired_raising (hrun : s.yard.upCheck.isRunning = true) (h : s.yard.barrier = .raising) :
    s.upCheckExpired = (s.upCheckStopped.latch .barrier).barrierSense := by
  rw [State.upCheckExpired, if_pos hrun]
  exact if_pos h

/-- The settle time stands. -/
def State.settleStopped (s : State) : State := { s with yard := { s.yard with settle := .stopped } }

/-- What the end of the settle time makes of the barrier: LOWERED, a disagreement reported where BAR_UP is still up. -/
def State.settleOver (s : State) : State :=
  (if s.level .barUp then (s.settleStopped.latch .barrier).barrierSense else s.settleStopped).setBarrier .lowered

theorem State.settleExpired_settling (hrun : s.yard.settle.isRunning = true) (h : s.yard.barrier = .settling) :
    s.settleExpired = s.settleOver.testRaise := by
  rw [State.settleExpired, if_pos hrun]
  exact if_pos h

theorem State.settleOver_down (h : s.level .barUp = false) : s.settleOver = s.barrierSettled := by
  rw [State.settleOver, h]
  rfl

theorem State.settleOver_up (h : s.level .barUp = true) :
    s.barrierSettled.sameButAlerts s.settleOver ∧ (s.settleOver.flag .barrier).isSet = true := by
  obtain ⟨hsame, hflag, -⟩ := s.settleStopped.disagreement_spec
  rw [State.settleOver, if_pos h]
  exact ⟨congrArg (State.setBarrier .lowered) hsame, congrArg FlagState.isSet hflag⟩

/-- The device after the settle time is as with the barrier settled, but for the report of a disagreement. -/
theorem State.settleOver_sameButAlerts (s : State) : s.barrierSettled.sameButAlerts s.settleOver := by
  cases h : s.level .barUp with
  | true => exact (State.settleOver_up h).1
  | false =>
    rw [State.settleOver_down h]
    rfl

theorem State.sameButAlerts.visits_line_yard (h : s.sameButAlerts t) :
    t.visits = s.visits ∧ t.line = s.line ∧ t.yard = s.yard := by
  rw [h]
  exact ⟨rfl, rfl, rfl⟩

/-- After the settle time no visit is raised for unless the oldest is EXITING with its direction settled (R145). -/
theorem State.settleOver_idle (h : ∀ v ∈ s.visits.laneQueue.head?, v.state ≠ .exiting ∨ v.settled = false) :
    s.settleOver.testRaise = s.settleOver := by
  obtain ⟨hvisits, -, -⟩ := s.settleOver_sameButAlerts.visits_line_yard
  refine State.testRaise_idle ?_
  rw [hvisits]
  exact h

theorem State.settleOver_raises {v : Visit} (hv : s.visits.laneQueue.head? = some v) (hexiting : v.state = .exiting)
    (hsettled : v.settled = true) : s.settleOver.testRaise = s.settleOver.raiseFor v.number := by
  obtain ⟨hvisits, -, -⟩ := s.settleOver_sameButAlerts.visits_line_yard
  refine State.testRaise_raises rfl ?_ hexiting hsettled
  rw [hvisits]
  exact hv

end

/-- Settles O33: the event by the barrier state, and the flags by what the event does to BARRIER. -/
theorem barrierSenseActsByState : Obligations.BarrierSenseActsByState := by
  have hevent {s u : State} {up : Bool} (h : s.edge .barUp up) (hu : u = s.debouncedTo .barUp up) :
      exec (.debounceExpiry .barUp) s = .next (u.lineEvent .barUp up) ∧ u.level .barUp = up := by
    rw [hu]
    exact ⟨State.exec_debounceExpiry_edge h, State.level_debouncedTo h⟩
  refine ⟨fun s u n h hu hraising hvisit => ?_, fun s u up h hu hagrees => ?_,
    fun s u v vs h hu hsettling hqueue hexiting hsettled => ?_, fun s u up h hu hdisagrees => ?_,
    fun s u h hu hsettling hidle => ?_⟩
  all_goals
    obtain ⟨hexec, hlevel⟩ := hevent h hu
    have hvisits : s.visits = u.visits := by rw [hu]; rfl
    have hyard : s.yard = u.yard := by rw [hu]; rfl
    have hraise : s.line.raiseOut = u.line.raiseOut := by rw [hu]; rfl
    have hflag : s.flag = u.flag := by rw [hu]; rfl
    rw [hexec]
    simp only [hvisits, hyard, hraise, hflag] at *
  · refine ⟨_, congrArg _ (State.barUpUp_raising hraising), ?_, fun f => ?_, fun f hf => ?_, fun hset => ?_⟩
    · refine (State.barrierSense_onlyMarks _).trans ?_
      generalize u.barrierSeenUp.barrierSense.outcome.flags = flags
      rw [State.barrierSeenUp_for hvisit]
    · exact (State.isSet_markCondition _ _ _ f).trans (congrArg _ (State.flag_barrierSeenUp u f))
    · exact (State.flag_markCondition_ne hf _ _).trans (State.flag_barrierSeenUp u f)
    · have hline : u.barrierSeenUp.line = u.line := by simp
      rw [State.flag_barrierSense, State.flag_barrierSeenUp, if_pos hset,
        State.level_of_debounced (congrArg _ hline), hlevel, hline, Bool.true_bne]
  · refine ⟨_, congrArg _ (State.barUp_agrees hagrees), State.barrierSense_onlyMarks u,
      fun f hf => State.flag_markCondition_ne hf _ u, ?_⟩
    rw [State.flag_barrierSense, hlevel]
  · have hdown : u.barrierSettled.barrierSense.level .barUp = false :=
      (State.level_of_debounced (by simp [State.barrierSettled]) _).trans hlevel
    have hraises : u.barUpDown = u.barrierSettled.barrierSense.raiseFor v.number := by
      rw [State.barUpDown_settling hsettling]
      exact State.testRaise_raises (by simp [State.barrierSettled]) (by simp [State.barrierSettled, hqueue]) hexiting hsettled
    refine ⟨_, congrArg _ hraises, State.raiseFor_raisedFor _ _, ?_, fun f => ?_⟩
    · refine (State.raiseFor_down_eq hdown).trans ?_
      rw [State.barrierSense_onlyMarks u.barrierSettled]
      rfl
    · exact (State.isSet_raiseFor _ _ f).trans (State.isSet_markCondition _ _ u.barrierSettled f)
  · exact ⟨_, congrArg _ (State.barUp_disagrees hdisagrees), hlevel ▸ u.disagreement_spec⟩
  · have hstays : u.barUpDown = u.barrierSettled.barrierSense := by
      rw [State.barUpDown_settling hsettling]
      exact State.testRaise_idle (by simpa [State.barrierSettled] using hidle)
    refine ⟨_, congrArg _ hstays, State.barrierSense_onlyMarks u.barrierSettled,
      fun f hf => State.flag_markCondition_ne hf _ u.barrierSettled, (State.flag_barrierSense _).trans ?_⟩
    have hsame : u.barrierSettled.level .barUp = u.level .barUp := rfl
    rw [hsame, hlevel, Bool.false_bne]
    rfl

/-- Settles O49: the up check reports a disagreement; the settle time lowers the barrier and the raise conditions are tested. -/
theorem upCheckAndSettleTimeRunOut : Obligations.UpCheckAndSettleTimeRunOut := by
  have hidles {s : State} (hrun : s.yard.settle.isRunning = true) (h : s.yard.barrier = .settling)
      (hidle : ∀ v ∈ s.visits.laneQueue.head?, v.state ≠ .exiting ∨ v.settled = false) :
      exec .settleTimeExpiry s = .next s.settleOver :=
    congrArg _ ((State.settleExpired_settling hrun h).trans (State.settleOver_idle hidle))
  have hraises {s : State} {v : Visit} {vs : List Visit} (hrun : s.yard.settle.isRunning = true)
      (h : s.yard.barrier = .settling) (hqueue : s.visits.laneQueue = v :: vs) (hexiting : v.state = .exiting)
      (hsettled : v.settled = true) : exec .settleTimeExpiry s = .next (s.settleOver.raiseFor v.number) :=
    congrArg _ ((State.settleExpired_settling hrun h).trans (State.settleOver_raises (by simp [hqueue]) hexiting hsettled))
  refine ⟨fun s hrun h => ?_, fun s => ⟨fun hstopped => ?_, fun hstopped => ?_⟩,
    fun s hrun h hidle => ⟨_, hidles hrun h hidle, s.settleOver_sameButAlerts, fun hup => ?_, fun hdown => ?_⟩,
    fun s v vs hrun h hqueue hexiting hsettled hdown => ⟨_, hraises hrun h hqueue hexiting hsettled, ?_⟩,
    fun s v vs hrun h hqueue hexiting hsettled hup =>
      ⟨_, hraises hrun h hqueue hexiting hsettled, State.raiseFor_raisedFor _ _, ?_⟩⟩
  · obtain ⟨hsame, hflag, -⟩ := s.upCheckStopped.disagreement_spec
    exact ⟨_, congrArg Host.Outcome.next (State.upCheckExpired_raising hrun h), hsame, hflag⟩
  · exact congrArg _ (if_neg (by simp [hstopped]))
  · exact congrArg _ (if_neg (by simp [hstopped]))
  · exact (State.settleOver_up hup).2
  · rw [State.settleOver_down hdown]
    exact ⟨rfl, rfl⟩
  · obtain ⟨-, -, hyard⟩ := State.raiseFor_down (s := s.barrierSettled) (n := v.number) hdown
    rw [State.settleOver_down hdown, State.raiseFor_line, hyard]
    exact ⟨rfl, rfl⟩
  · obtain ⟨-, hline, hyard⟩ := s.settleOver_sameButAlerts.visits_line_yard
    have hlevel : s.settleOver.level .barUp = true := (State.level_of_debounced (congrArg _ hline) _).trans hup
    obtain ⟨hraised, hflag⟩ := State.raiseFor_up (n := v.number) hlevel
    rw [State.raiseFor_line, hraised, hline, hyard]
    exact ⟨hflag (State.settleOver_up hup).2, rfl, rfl⟩

/-! ### Block notes of peers (R139) -/

/-- Settles O48. -/
theorem blockNoteCountsAtThePeers : Obligations.BlockNoteCountsAtThePeers := by
  intro s u f rest b w htake hu hform
  have hexec : exec .blockNoteFrame s = .next (u.takeNote b w) := by
    show Host.Outcome.next (s.onFrame .blockNote _) = _
    rw [State.onFrame_taken htake, ← hu, State.notePayload, hform]
  have hwindow : u.yard.window = s.yard.window := by rw [hu]; simp
  rw [hexec, State.takeNote, hwindow]
  exact ⟨fun h => congrArg _ (if_pos h), fun h => congrArg _ (if_neg h)⟩

end Sys2Proof.Machine
end
section
/-! O4: the sixteen places and the ten counters. What the bounds speak of is the tally of the Outcome and Alert Unit; a change of a
flag, its mark, ALERT_N or a STATUS leaves it, and so does all that the barrier and the display do. -/

namespace Sys2Proof.Machine

/-! ### The tally, and what leaves it -/

/-- What the bounds speak of: the RESERVED and the FILLED places, and the counters (R151, R159). -/
def OutcomeUnit.tally (o : OutcomeUnit) : List VisitNumber × List OutcomeRecord × Counters :=
  (o.reserved, o.filled, o.counters)

@[simp] theorem OutcomeUnit.tally_of_rest (o : OutcomeUnit) (offered hold due low : Bool) (flags : AlertFlags) (clash : Timer) :
    OutcomeUnit.tally ⟨o.reserved, o.filled, offered, flags, hold, o.counters, clash, due, low⟩ = o.tally := rfl

section
variable {s t : State}

theorem State.sameButAlerts.tally (h : s.sameButAlerts t) : t.outcome.tally = s.outcome.tally := by
  rw [h]
  rfl

theorem State.onlyFlags.tally (h : s.onlyFlags t) : t.outcome.tally = s.outcome.tally := by
  rw [h]
  rfl

/-! ### Flags, STATUS frames and offers -/

@[simp] theorem State.latch_tally (f : AlertFlag) (s : State) : (s.latch f).outcome.tally = s.outcome.tally :=
  (State.latch_sameButAlerts f s).tally

@[simp] theorem State.endCondition_tally (f : AlertFlag) (s : State) :
    (s.endCondition f).outcome.tally = s.outcome.tally := rfl

@[simp] theorem State.markCondition_tally (f : AlertFlag) (b : Bool) (s : State) :
    (s.markCondition f b).outcome.tally = s.outcome.tally := by
  rw [State.markCondition_eq]
  rfl

@[simp] theorem State.handStatus_tally (s : State) : s.handStatus.outcome.tally = s.outcome.tally := by
  unfold State.handStatus
  split <;> rfl

@[simp] theorem State.reportStatus_tally (s : State) : s.reportStatus.outcome.tally = s.outcome.tally := by
  unfold State.reportStatus
  split
  · rfl
  · exact s.handStatus_tally

@[simp] theorem State.flagSetChanged_tally (s : State) : s.flagSetChanged.outcome.tally = s.outcome.tally :=
  s.driveAlertN.reportStatus_tally

@[simp] theorem State.reportHolds_tally (s : State) : s.reportHolds.outcome.tally = s.outcome.tally := by
  unfold State.reportHolds State.setHoldWaiting
  split
  · rfl
  · exact State.flagSetChanged_tally _

@[simp] theorem State.setMode_tally (m : LaneMode) (s : State) : (s.setMode m).outcome.tally = s.outcome.tally :=
  State.reportStatus_tally _

@[simp] theorem State.setPendingArrivals_tally (n : Nat) (s : State) :
    (s.setPendingArrivals n).outcome.tally = s.outcome.tally := State.markCondition_tally _ _ _

@[simp] theorem State.overflowSense_tally (s : State) : s.overflowSense.outcome.tally = s.outcome.tally :=
  State.markCondition_tally _ _ _

@[simp] theorem State.offerOutcome_tally (s : State) : s.offerOutcome.outcome.tally = s.outcome.tally := by
  unfold State.offerOutcome
  repeat' split
  all_goals rfl

/-! ### The barrier -/

@[simp] theorem State.barrierSense_tally (s : State) : s.barrierSense.outcome.tally = s.outcome.tally :=
  State.markCondition_tally _ _ _

@[simp] theorem State.testRaise_tally (s : State) : s.testRaise.outcome.tally = s.outcome.tally :=
  (State.onlyFlags.testRaise s).tally

@[simp] theorem State.raiseVisitLeaves_tally (n : VisitNumber) (s : State) :
    (s.raiseVisitLeaves n).outcome.tally = s.outcome.tally := (State.onlyFlags.raiseVisitLeaves s n).tally

@[simp] theorem State.yardLoopXVacated_tally (s : State) : s.yardLoopXVacated.outcome.tally = s.outcome.tally :=
  (State.onlyFlags.yardLoopXVacated s).tally

@[simp] theorem State.barUpUp_tally (s : State) : s.barUpUp.outcome.tally = s.outcome.tally := by
  unfold State.barUpUp
  split <;> simp

@[simp] theorem State.barUpDown_tally (s : State) : s.barUpDown.outcome.tally = s.outcome.tally := by
  unfold State.barUpDown
  split <;> simp

@[simp] theorem State.upCheckExpired_tally (s : State) : s.upCheckExpired.outcome.tally = s.outcome.tally := by
  unfold State.upCheckExpired
  dsimp only
  repeat' split
  all_goals simp

@[simp] theorem State.settleExpired_tally (s : State) : s.settleExpired.outcome.tally = s.outcome.tally := by
  unfold State.settleExpired
  dsimp only
  repeat' split
  all_goals simp

/-! ### The display -/

@[simp] theorem State.endDelivery_tally (m : Message) (s : State) :
    (s.endDelivery m).outcome.tally = s.outcome.tally := by
  simp [State.endDelivery]

@[simp] theorem State.deliveryAccepted_tally (s : State) : s.deliveryAccepted.outcome.tally = s.outcome.tally := by
  unfold State.deliveryAccepted
  split <;> simp

@[simp] theorem State.deliveryGivenUp_tally (s : State) : s.deliveryGivenUp.outcome.tally = s.outcome.tally := by
  unfold State.deliveryGivenUp
  repeat' split
  all_goals simp

@[simp] theorem State.deliveryBusy_tally (s : State) : s.deliveryBusy.outcome.tally = s.outcome.tally := by
  unfold State.deliveryBusy
  dsimp only
  split <;> simp

@[simp] theorem State.displayAnswer_tally (toggle : Bool) (a : Answer) (s : State) :
    (s.displayAnswer toggle a).outcome.tally = s.outcome.tally := by
  unfold State.displayAnswer
  repeat' split
  all_goals simp

@[simp] theorem State.displayByte_tally (b : Byte) (s : State) : (s.displayByte b).outcome.tally = s.outcome.tally := by
  unfold State.displayByte
  split <;> simp

@[simp] theorem State.answerWaitExpired_tally (s : State) : s.answerWaitExpired.outcome.tally = s.outcome.tally := by
  unfold State.answerWaitExpired
  split <;> simp

/-! ### Passes, holds, and the lane left -/

@[simp] theorem State.settleDark_tally (d : PassSummary) (s : State) :
    (s.settleDark d).outcome.tally = s.outcome.tally := by
  unfold State.settleDark
  dsimp only
  repeat' split
  all_goals simp

@[simp] theorem State.endPass_tally (s : State) : s.endPass.outcome.tally = s.outcome.tally := by
  unfold State.endPass
  split <;> simp

@[simp] theorem State.truncatePass_tally (n : VisitNumber) (s : State) :
    (s.truncatePass n).outcome.tally = s.outcome.tally := by
  unfold State.truncatePass
  repeat' split
  all_goals simp

@[simp] theorem State.enterClerkHold_tally (n : VisitNumber) (s : State) :
    (s.enterClerkHold n).outcome.tally = s.outcome.tally := by
  unfold State.enterClerkHold
  dsimp only
  repeat' split
  all_goals simp

@[simp] theorem State.giveNoCapacity_tally (n : VisitNumber) (s : State) :
    (s.giveNoCapacity n).outcome.tally = s.outcome.tally := State.enterClerkHold_tally n _

@[simp] theorem State.enterPlaceHold_tally (n : VisitNumber) (s : State) :
    (s.enterPlaceHold n).outcome.tally = s.outcome.tally := by
  simp [State.enterPlaceHold]

@[simp] theorem State.openPendingArrival_tally (s : State) : s.openPendingArrival.outcome.tally = s.outcome.tally := by
  unfold State.openPendingArrival
  split <;> simp

@[simp] theorem State.endDraining_tally (s : State) : s.endDraining.outcome.tally = s.outcome.tally := by
  unfold State.endDraining
  split <;> simp

@[simp] theorem State.laneLeft_tally (n : VisitNumber) (s : State) : (s.laneLeft n).outcome.tally = s.outcome.tally := by
  simp [State.laneLeft]

@[simp] theorem State.checkReady_tally (s : State) : s.checkReady.outcome.tally = s.outcome.tally := by
  unfold State.checkReady
  split <;> simp

/-! ### The bus and Start Control -/

@[simp] theorem State.officeHeard_tally (s : State) : s.officeHeard.outcome.tally = s.outcome.tally := by
  unfold State.officeHeard
  dsimp only
  split <;> simp

@[simp] theorem State.stationHeard_tally (source : LaneId) (s : State) :
    (s.stationHeard source).outcome.tally = s.outcome.tally := by
  unfold State.stationHeard
  repeat' split
  all_goals simp

@[simp] theorem State.ownIdHeard_tally (s : State) : s.ownIdHeard.outcome.tally = s.outcome.tally :=
  State.latch_tally .idClash s

@[simp] theorem State.officeSilent_tally (s : State) : s.officeSilent.outcome.tally = s.outcome.tally := by
  unfold State.officeSilent
  split <;> simp

@[simp] theorem State.clashOver_tally (s : State) : s.clashOver.outcome.tally = s.outcome.tally := by
  unfold State.clashOver
  split <;> simp

@[simp] theorem State.clearAlerts_tally (set : BitVec 16) (s : State) :
    (s.clearAlerts set).outcome.tally = s.outcome.tally := by
  unfold State.clearAlerts
  dsimp only
  split <;> simp

@[simp] theorem State.endReset_tally (p : Straps) (s : State) : (s.endReset p).outcome.tally = s.outcome.tally := by
  unfold State.endReset
  dsimp only
  split <;> simp [State.driveAlertN]

@[simp] theorem State.fixIfComplete_tally (s : State) : s.fixIfComplete.outcome.tally = s.outcome.tally := by
  unfold State.fixIfComplete
  split <;> simp [State.fixConfig, State.driveAlertN]

/-! ### The bounds -/

/-- From `r` to `s` the bounds of the places and those of the counters have been kept, each on its own (R151, R159). -/
def State.keepsBounds (r s : State) : Prop := (r.placesSound → s.placesSound) ∧ (r.countersSound → s.countersSound)

end

section
variable {r s t : State} {n : VisitNumber} {f : TxFrame} {k : Counter} {o : OutboxOwner} {c : LaneId} {w : Window} {b : Byte}

theorem State.keepsBounds.refl (s : State) : s.keepsBounds s := ⟨id, id⟩

theorem State.keepsBounds.trans (h : r.keepsBounds s) (h' : s.keepsBounds t) : r.keepsBounds t :=
  ⟨h'.1 ∘ h.1, h'.2 ∘ h.2⟩

/-- The bounds are a matter of the tally. -/
theorem State.keepsBounds.kept (h : r.keepsBounds s) (htally : t.outcome.tally = s.outcome.tally) : r.keepsBounds t := by
  simp only [OutcomeUnit.tally, Prod.mk.injEq] at htally
  obtain ⟨hreserved, hfilled, hcounters⟩ := htally
  unfold State.keepsBounds State.placesSound State.countersSound at h ⊢
  rwa [hreserved, hfilled, hcounters]

/-! ### Counters (R159, R160) -/

theorem Counters.get_put (cs : Counters) (k j : Counter) (m : Nat) :
    (cs.put k m).get j = if j = k then m else cs.get j := by
  cases k <;> cases j <;> rfl

theorem State.keepsBounds.setCounters {cs : Counters} (h : r.keepsBounds s)
    (hcs : s.countersSound → ∀ j, cs.get j ≤ 255) : r.keepsBounds (s.setCounters cs) :=
  ⟨h.1, hcs ∘ h.2⟩

/-- A counter rises to 255 at most. -/
theorem State.keepsBounds.count (h : r.keepsBounds s) : r.keepsBounds (s.count k) := by
  have hraised : r.keepsBounds (s.setCounters (s.outcome.counters.put k (satAdd 255 (s.outcome.counters.get k) 1))) := by
    refine h.setCounters fun hsound j => ?_
    rw [Counters.get_put]
    split
    · exact Nat.min_le_left _ _
    · exact hsound j
  unfold State.count
  dsimp only
  split
  · exact hraised.kept (State.latch_tally _ _)
  · exact hraised

/-- A sum of counters is 255 at most. -/
theorem State.keepsBounds.addBack {cs : Counters} (h : r.keepsBounds s) : r.keepsBounds (s.addBack cs) := by
  have hsummed : r.keepsBounds (s.setCounters (s.outcome.counters.add cs)) :=
    h.setCounters fun _ j => (Counters.get_add _ cs j).trans_le (Nat.min_le_left _ _)
  unfold State.addBack
  dsimp only
  split
  · exact hsummed.kept (State.latch_tally _ _)
  · exact hsummed

theorem State.keepsBounds.arrivalLost (h : r.keepsBounds s) : r.keepsBounds s.arrivalLost :=
  (h.count (k := .arrivalsLost)).kept (by simp [State.arrivalLost])

/-- Every counter goes to 0, and its value to a COUNTERS frame or back. -/
theorem State.keepsBounds.fetchCounters (h : r.keepsBounds s) : r.keepsBounds s.fetchCounters := by
  have hzero : r.keepsBounds ((s.setCounters .zero).endCondition .bus) :=
    (h.setCounters fun _ j => by cases j <;> exact Nat.zero_le 255).kept (State.endCondition_tally _ _)
  unfold State.fetchCounters State.handCounters
  split
  · exact hzero.addBack
  · exact hzero.kept rfl

/-! ### Frames handed over (R138, R166, R167) -/

/-- A COUNTERS frame that is displaced adds its values back; any other tells its owner no more than a mark. -/
theorem State.keepsBounds.displaced (h : r.keepsBounds s) : r.keepsBounds (s.displaced f) := by
  cases f
  case counters => exact h.addBack
  all_goals exact h

theorem State.keepsBounds.handClass0 (h : r.keepsBounds s) : r.keepsBounds (s.handClass0 o f) := by
  unfold State.handClass0
  repeat' split
  · exact h
  · exact State.keepsBounds.displaced h
  · exact State.keepsBounds.displaced h
  · exact h
  · exact h

theorem State.keepsBounds.sendNote {x : Text} (h : r.keepsBounds s) : r.keepsBounds (s.sendNote x) := by
  unfold State.sendNote State.handNote
  repeat' split
  · exact h.count
  · exact h
  · exact h

theorem State.keepsBounds.routeDrops {ms : List Move} (h : r.keepsBounds s) : r.keepsBounds (routeDrops ms s).2 := by
  induction ms generalizing s with
  | nil => exact h
  | cons m ms ih =>
    refine ih (s := (s.routeDrop m).2) ?_
    unfold State.routeDrop
    repeat' split
    · exact State.keepsBounds.sendNote h
    · exact h.sendNote
    · exact h

theorem State.keepsBounds.routeVerdict {v : Visit} {vd : Verdict} (h : r.keepsBounds s) :
    r.keepsBounds (s.routeVerdict v vd).2 := by
  cases vd
  case admitted => exact h.routeDrops
  all_goals exact h

/-! ### Bookings and claims -/

theorem State.keepsBounds.takeBooking {bf : BookingForm} (h : r.keepsBounds s) : r.keepsBounds (s.takeBooking bf) := by
  unfold State.takeBooking
  repeat' split
  · exact h.count
  · exact h.count
  · unfold State.replaceBooking
    repeat' split
    · exact h
    · exact h
    · exact h.count
    · exact h
    · exact h.count
    · exact h
    · exact h.count
  · unfold State.insertBooking
    repeat' split
    · exact h
    · exact State.keepsBounds.count h
    · exact h.count
    · exact h.count

theorem State.keepsBounds.selectFor {v : Visit} (h : r.keepsBounds s) : r.keepsBounds (s.selectFor v).2 := by
  have hconfidence : r.keepsBounds (if v.confidence < s.general.plateThreshold then
      s.updVisit v.number (Visit.addReason .plateLowConf) else s) := by split <;> exact h
  unfold State.selectFor
  dsimp only
  split
  · exact State.keepsBounds.handClass0 hconfidence
  · exact hconfidence

theorem State.keepsBounds.portalClose (h : r.keepsBounds s) : r.keepsBounds (s.portalClose n) := by
  have htruncated : r.keepsBounds (s.truncatePass n) := h.kept (by simp)
  unfold State.portalClose
  dsimp only
  split
  · exact htruncated
  · exact htruncated.selectFor

theorem State.keepsBounds.endClaim {cr : ClaimResult} (h : r.keepsBounds s) : r.keepsBounds (s.endClaim n cr) := by
  unfold State.endClaim
  repeat' split
  · exact h
  · exact h
  · exact State.keepsBounds.handClass0 h

/-! ### Verdicts -/

theorem State.keepsBounds.giveVerdict {vd : Verdict} (h : r.keepsBounds s) : r.keepsBounds (s.giveVerdict n vd) := by
  unfold State.giveVerdict
  split
  · exact h
  next v _ =>
    have hrouted : r.keepsBounds ((s.writeVerdict n vd).routeVerdict v vd).2 := State.keepsBounds.routeVerdict h
    exact hrouted.kept (by simp)

theorem State.keepsBounds.giveParkedAdmission {vd : Verdict} (h : r.keepsBounds s) :
    r.keepsBounds (s.giveParkedAdmission n vd) := by
  unfold State.giveParkedAdmission
  split
  · exact h
  next v _ => exact State.keepsBounds.routeVerdict (s := s.writeVerdict n vd) h

theorem State.keepsBounds.refuseVisit (h : r.keepsBounds s) : r.keepsBounds (s.refuseVisit n) := by
  unfold State.refuseVisit
  dsimp only
  repeat' split
  · exact h
  · exact h.giveVerdict.endClaim
  · exact h.giveVerdict

theorem State.keepsBounds.admitWith {src : FlexSource} (h : r.keepsBounds s) : r.keepsBounds (s.admitWith n src) := by
  unfold State.admitWith
  split
  · exact h
  · exact State.keepsBounds.giveVerdict h

theorem State.keepsBounds.giveNoCapacity (h : r.keepsBounds s) : r.keepsBounds (s.giveNoCapacity n) := h.kept (by simp)

/-! ### The Capacity Unit -/

theorem State.keepsBounds.openAsk (h : r.keepsBounds s) : r.keepsBounds s.openAsk := by
  unfold State.openAsk
  split
  · exact h
  · exact State.keepsBounds.handClass0 h

theorem State.keepsBounds.serveWaiter {rest : List VisitNumber} {src : FlexSource} (h : r.keepsBounds s) :
    r.keepsBounds (s.serveWaiter n rest src) := State.keepsBounds.admitWith h

theorem State.keepsBounds.nextAsk {src : FlexSource} {fuel : Nat} (h : r.keepsBounds s) :
    r.keepsBounds (State.nextAsk src fuel s) := by
  induction fuel generalizing s with
  | zero => exact h
  | succ fuel ih =>
    unfold State.nextAsk
    repeat' split
    · exact h
    · exact ih h.serveWaiter
    · exact h.openAsk
    · exact ih (State.keepsBounds.giveNoCapacity h)

theorem State.keepsBounds.spareRose {src : FlexSource} (h : r.keepsBounds s) : r.keepsBounds (s.spareRose src) := by
  unfold State.spareRose
  split
  · exact h
  · exact State.keepsBounds.nextAsk h

theorem State.keepsBounds.askFails (h : r.keepsBounds s) : r.keepsBounds s.askFails := by
  unfold State.askFails
  dsimp only
  split
  · exact h
  · exact State.keepsBounds.nextAsk (State.keepsBounds.giveNoCapacity h)

theorem State.keepsBounds.removeWaiter (h : r.keepsBounds s) : r.keepsBounds (s.removeWaiter n) := by
  unfold State.removeWaiter
  repeat' split
  · exact h
  · exact State.keepsBounds.nextAsk h
  · exact h

theorem State.keepsBounds.flexStep (h : r.keepsBounds s) : r.keepsBounds (s.flexStep n) := by
  unfold State.flexStep
  dsimp only
  repeat' split
  · exact State.keepsBounds.admitWith h
  · exact State.keepsBounds.openAsk (h.kept (by simp))
  · exact h.kept (by simp)
  · exact h.giveNoCapacity

theorem State.keepsBounds.takeOffer (h : r.keepsBounds s) : r.keepsBounds (s.takeOffer c w b) := by
  unfold State.takeOffer
  repeat' split
  all_goals exact State.keepsBounds.handClass0 h

theorem State.keepsBounds.takeConfirm (h : r.keepsBounds s) : r.keepsBounds (s.takeConfirm c w b) := by
  unfold State.takeConfirm
  dsimp only
  repeat' split
  · exact h
  · exact State.keepsBounds.nextAsk (State.keepsBounds.serveWaiter h)
  · exact State.keepsBounds.askFails (State.keepsBounds.count h)
  · exact State.keepsBounds.spareRose h
  · exact State.keepsBounds.count h
  · exact h

theorem State.keepsBounds.takeVoid (h : r.keepsBounds s) : r.keepsBounds (s.takeVoid c w b) := by
  unfold State.takeVoid
  dsimp only
  split
  · exact State.keepsBounds.askFails h
  · exact h

theorem State.keepsBounds.askDeadline (h : r.keepsBounds s) : r.keepsBounds s.askDeadline := by
  unfold State.askDeadline
  repeat' split
  · exact h.askFails
  · exact h
  · exact h

theorem State.keepsBounds.takeAsk (h : r.keepsBounds s) : r.keepsBounds (s.takeAsk c w b) := by
  unfold State.takeAsk
  repeat' split
  · exact h
  · exact State.keepsBounds.handClass0 h
  · exact h

theorem State.keepsBounds.takeTake (h : r.keepsBounds s) : r.keepsBounds (s.takeTake c w b) := by
  unfold State.takeTake
  split <;> exact State.keepsBounds.handClass0 h

theorem State.keepsBounds.takeDecline (h : r.keepsBounds s) : r.keepsBounds (s.takeDecline c w b) := by
  unfold State.takeDecline
  split
  · exact State.keepsBounds.spareRose h
  · exact h

theorem State.keepsBounds.offerExpired (h : r.keepsBounds s) : r.keepsBounds s.offerExpired := by
  unfold State.offerExpired
  split
  · exact h
  · exact State.keepsBounds.spareRose h

/-! ### The places (R29, R43, R152, R154) -/

/-- A place is reserved where one is FREE. -/
theorem State.keepsBounds.reservePlace (h : r.keepsBounds s) (hfree : s.placesUsed < 16) :
    r.keepsBounds (s.reservePlace n) := by
  have hreserved : r.keepsBounds
      { s with outcome := { s.outcome with reserved := s.outcome.reserved ++ [n] } } := by
    refine ⟨fun _ => ?_, h.2⟩
    simp only [State.placesUsed] at hfree
    simp only [State.placesSound, List.length_append, List.length_singleton]
    omega
  unfold State.reservePlace
  dsimp only
  split
  · exact hreserved.kept (State.latch_tally _ _)
  · exact hreserved

/-- A RESERVED place becomes FILLED. -/
theorem State.keepsBounds.fillPlace {v : Visit} (h : r.keepsBounds s) : r.keepsBounds (s.fillPlace v) := by
  unfold State.fillPlace
  split
  next hin =>
    have hfilled : s.keepsBounds { s with outcome := { s.outcome with
        reserved := s.outcome.reserved.erase v.number, filled := s.outcome.filled ++ [v.record s.laneId] } } := by
      refine ⟨fun hplaces => ?_, id⟩
      have hpos := List.length_pos_of_mem hin
      simp only [State.placesSound, List.length_erase_of_mem hin, List.length_append, List.length_singleton] at hplaces ⊢
      omega
    exact (h.trans hfilled).kept (State.offerOutcome_tally _)
  next => exact h

theorem State.keepsBounds.combine (h : r.keepsBounds s) : r.keepsBounds (s.combine n) := by
  unfold State.combine
  repeat' split
  · exact h
  · exact h.refuseVisit
  · exact h.kept (by simp)
  · exact h.flexStep
  · exact h.giveVerdict

theorem State.keepsBounds.reserveAndCombine (h : r.keepsBounds s) (hfree : s.placesUsed < 16) :
    r.keepsBounds (s.reserveAndCombine n) :=
  State.keepsBounds.combine (h.reservePlace hfree)

theorem State.keepsBounds.evaluate (h : r.keepsBounds s) : r.keepsBounds (s.evaluate n) := by
  unfold State.evaluate
  split
  next hfree => exact h.reserveAndCombine hfree
  next => exact h.kept (by simp)

theorem State.keepsBounds.placeFreed (h : r.keepsBounds s) : r.keepsBounds s.placeFreed := by
  unfold State.placeFreed
  repeat' split
  next hfree => exact h.reserveAndCombine hfree
  next => exact h
  next => exact h

/-- The oldest FILLED place becomes FREE. -/
theorem State.keepsBounds.dropOffered (h : r.keepsBounds s) : r.keepsBounds s.dropOffered := by
  have hdropped : s.keepsBounds
      { s with outcome := { s.outcome with filled := s.outcome.filled.tail, offered := false } } := by
    refine ⟨fun hplaces => ?_, id⟩
    simp only [State.placesSound, List.length_tail] at hplaces ⊢
    omega
  exact (h.trans hdropped).placeFreed

/-! ### Visits that close or leave, and late results -/

theorem State.keepsBounds.endClaimAtClose {v : Visit} (h : r.keepsBounds s) : r.keepsBounds (s.endClaimAtClose v) := by
  unfold State.endClaimAtClose
  split
  · exact h.endClaim
  · exact h

theorem State.keepsBounds.closeVisit (h : r.keepsBounds s) : r.keepsBounds (s.closeVisit n) := by
  have hfreed (v : Visit) : r.keepsBounds (((s.fillPlace v).endClaimAtClose v).freeSlot n) :=
    ((h.fillPlace (v := v)).endClaimAtClose (v := v)).kept (by simp)
  unfold State.closeVisit
  dsimp only
  repeat' split
  · exact h
  · exact (hfreed _).kept ((State.reportHolds_tally _).trans (State.laneLeft_tally n _))
  · exact (hfreed _).kept (State.reportHolds_tally _)

theorem State.keepsBounds.leaveOverExit {v : Visit} (h : r.keepsBounds s) : r.keepsBounds (s.leaveOverExit v) := by
  unfold State.leaveOverExit
  split
  · exact h.kept (by simp [State.moveToParked])
  · exact h.closeVisit

theorem State.keepsBounds.claimLost (h : r.keepsBounds s) : r.keepsBounds (s.claimLost n) := by
  unfold State.claimLost
  dsimp only
  repeat' split
  case h_3 => exact State.keepsBounds.removeWaiter (h.kept (by simp))
  all_goals exact h

theorem State.keepsBounds.takeClaimFrame {x : Text} {key : GatePoint} (h : r.keepsBounds s) :
    r.keepsBounds (s.takeClaimFrame c x key) := by
  unfold State.takeClaimFrame
  repeat' split
  case h_3.isTrue => exact State.keepsBounds.claimLost h
  all_goals exact h

/-! ### Events of the lane -/

theorem State.keepsBounds.readerMessage {ch : Channel} {m : Option ReaderMessage} (h : r.keepsBounds s) :
    r.keepsBounds (s.readerMessage ch m) := by
  have hplaced (rep : Report) : r.keepsBounds (s.placeReport ch rep).2 := by
    unfold State.placeReport
    repeat' split
    case h_2.isFalse => exact h.count
    all_goals exact h
  unfold State.readerMessage
  repeat' split
  · exact h
  · exact h
  next toggle rep =>
    unfold State.takeReport
    dsimp only
    repeat' split
    · exact h
    · exact hplaced rep
    · exact hplaced rep
  · exact h

theorem State.keepsBounds.bufferExpired {ch : Channel} (h : r.keepsBounds s) : r.keepsBounds (s.bufferExpired ch) := by
  unfold State.bufferExpired
  split
  · exact State.keepsBounds.count h
  · exact h

theorem State.keepsBounds.loopAOccupied (h : r.keepsBounds s) : r.keepsBounds s.loopAOccupied := by
  have hclosed : r.keepsBounds s.placeLaneClosed := h.kept (by simp)
  unfold State.loopAOccupied
  repeat' split
  · exact h
  · exact h
  · exact h.kept (by simp)
  · exact h.arrivalLost
  · exact hclosed.count
  · exact hclosed.count

theorem State.keepsBounds.overrunPortal (h : r.keepsBounds s) : r.keepsBounds s.overrunPortal := by
  unfold State.overrunPortal
  split
  · exact h.portalClose
  · exact h

theorem State.keepsBounds.unseenAtPortal (h : r.keepsBounds s) : r.keepsBounds s.unseenAtPortal := by
  have hpending (m : Nat) : r.keepsBounds (s.setPendingArrivals m) := h.kept (by simp)
  unfold State.unseenAtPortal
  repeat' split
  · exact h
  · exact h
  · exact (hpending _).arrivalLost
  · exact (hpending _).arrivalLost
  · exact h
  · exact (hpending _).arrivalLost
  · exact h

theorem State.keepsBounds.loopPOccupied (h : r.keepsBounds s) : r.keepsBounds s.loopPOccupied := by
  unfold State.loopPOccupied
  dsimp only
  repeat' split
  · exact h
  · exact h.overrunPortal.kept (by simp)
  · exact h.overrunPortal.unseenAtPortal.kept (by simp)

theorem State.keepsBounds.loopPVacated (h : r.keepsBounds s) : r.keepsBounds s.loopPVacated := by
  unfold State.loopPVacated
  split
  · exact h.portalClose
  · exact h

theorem State.keepsBounds.loopSOccupied (h : r.keepsBounds s) : r.keepsBounds s.loopSOccupied := by
  unfold State.loopSOccupied
  repeat' split
  · exact h.evaluate
  · exact h.portalClose.evaluate
  · exact h

theorem State.keepsBounds.loopXVacated (h : r.keepsBounds s) : r.keepsBounds s.loopXVacated := by
  unfold State.loopXVacated
  dsimp only
  split
  · exact h.leaveOverExit.kept (State.yardLoopXVacated_tally _)
  · exact h.kept (State.yardLoopXVacated_tally _)

theorem State.keepsBounds.exitCheckExpired (h : r.keepsBounds s) : r.keepsBounds (s.exitCheckExpired n) := by
  unfold State.exitCheckExpired
  dsimp only
  repeat' split
  · exact h
  · exact State.keepsBounds.leaveOverExit h
  · exact h
  · exact h

theorem State.keepsBounds.scanOccupied (h : r.keepsBounds s) : r.keepsBounds s.scanOccupied := by
  unfold State.scanOccupied
  repeat' split
  · exact h.count
  all_goals exact h

theorem State.keepsBounds.lineEvent {l : Line} {up : Bool} (h : r.keepsBounds s) : r.keepsBounds (s.lineEvent l up) := by
  unfold State.lineEvent
  repeat' split
  · exact h.loopAOccupied
  · exact h
  · exact h.loopPOccupied
  · exact h
  · exact h.loopPVacated
  · exact h
  · exact h.loopSOccupied
  · exact h
  · exact h
  · exact h.kept (by simp)
  · exact h.kept (by simp)
  · exact h.loopXVacated
  · exact h.scanOccupied
  · exact h.kept (by simp)
  · exact h.kept (by simp)
  · exact h.kept (by simp)

theorem State.keepsBounds.settleLine {l : Line} {ls : LineSet Bool} (h : r.keepsBounds s) :
    r.keepsBounds (s.settleLine l ls) := State.keepsBounds.lineEvent h

theorem State.keepsBounds.pinChange {l : Line} {high : Bool} (h : r.keepsBounds s) : r.keepsBounds (s.pinChange l high) := by
  unfold State.pinChange
  dsimp only
  repeat' split
  case h_2.isFalse.isTrue => exact State.keepsBounds.settleLine h
  all_goals exact h

theorem State.keepsBounds.debounceExpired {l : Line} (h : r.keepsBounds s) : r.keepsBounds (s.debounceExpired l) := by
  unfold State.debounceExpired
  repeat' split
  · exact h
  · exact h.settleLine
  · exact h
  · exact h

/-! ### Commands of the office station -/

theorem State.keepsBounds.takeOpen (h : r.keepsBounds s) : r.keepsBounds s.takeOpen := by
  unfold State.takeOpen
  split
  · exact h.count
  · exact h.kept (by simp)
  · exact h.kept (by simp)
  · exact h

theorem State.keepsBounds.takeClose (h : r.keepsBounds s) : r.keepsBounds s.takeClose := by
  unfold State.takeClose
  split
  · exact h.count
  · exact h.kept (by simp)
  · exact h
  · exact h

theorem State.keepsBounds.retakeDeferred (h : r.keepsBounds s) : r.keepsBounds s.retakeDeferred := by
  unfold State.retakeDeferred
  repeat' split
  · exact h.giveVerdict
  · exact h
  · exact h

theorem State.keepsBounds.takeRelease (h : r.keepsBounds s) : r.keepsBounds (s.takeRelease n) := by
  have hoverridden (v : Visit) : r.keepsBounds (s.overrideVisit v) := h.kept (by simp)
  unfold State.takeRelease
  repeat' split
  · exact h.count
  · exact (hoverridden _).giveVerdict
  · exact (hoverridden _).giveParkedAdmission.closeVisit.retakeDeferred
  · exact h.count

theorem State.keepsBounds.takeRefuse (h : r.keepsBounds s) : r.keepsBounds (s.takeRefuse n) := by
  unfold State.takeRefuse
  repeat' split
  · exact h.count
  · exact h.refuseVisit
  · exact State.keepsBounds.retakeDeferred (State.keepsBounds.closeVisit h)
  · exact h.count

theorem State.keepsBounds.expireHold (h : r.keepsBounds s) : r.keepsBounds (s.expireHold n) := by
  unfold State.expireHold
  repeat' split
  · exact h
  · exact h.refuseVisit
  · exact h.giveVerdict
  · exact h
  · exact h

theorem State.keepsBounds.holdTimeout (h : r.keepsBounds s) : r.keepsBounds (s.holdTimeout n) := by
  unfold State.holdTimeout
  repeat' split
  · exact h
  · exact h.expireHold
  · exact h

theorem State.keepsBounds.takeAlertClear {bs : List Byte} (h : r.keepsBounds s) : r.keepsBounds (s.takeAlertClear bs) := by
  unfold State.takeAlertClear
  split
  · exact h.kept (by simp)
  · exact h.count

theorem State.keepsBounds.takeConfig {bs : List Byte} (h : r.keepsBounds s) : r.keepsBounds (s.takeConfig bs) := by
  unfold State.takeConfig
  repeat' split
  · exact h.count
  · exact h.count
  · exact h.kept (by simp)

/-! ### The bus -/

theorem State.keepsBounds.bufferFrame {rf : RawFrame} (h : r.keepsBounds s) : r.keepsBounds (s.bufferFrame rf) := by
  unfold State.bufferFrame
  repeat' split
  · exact h.count
  · exact h.count
  · exact h
  · exact h

theorem State.keepsBounds.receive {stop : Bool} {bs : List Byte} (h : r.keepsBounds s) : r.keepsBounds (s.receive stop bs) := by
  have hheard (source : LaneId) : r.keepsBounds (s.stationHeard source) := h.kept (by simp)
  unfold State.receive
  dsimp only
  repeat' split
  · exact h.count
  · exact h.kept (by simp)
  · exact (hheard _).bufferFrame
  · exact hheard _
  · exact h

theorem State.keepsBounds.ownerTold (h : r.keepsBounds s) : r.keepsBounds (s.ownerTold f) := by
  unfold State.ownerTold
  repeat' split
  · exact h.dropOffered
  · exact h.kept (by simp)
  · exact h
  · exact h

theorem State.keepsBounds.sent (h : r.keepsBounds s) : r.keepsBounds s.sent := by
  unfold State.sent
  dsimp only
  split
  · exact h
  next e _ =>
    have hdrained : r.keepsBounds ((s.setTxQueue (s.bus.txQueue.eraseP (·.sending))).emit
        (.busFrame (e.frame.bytes s.laneId))).drainOutbox := h.kept (by simp)
    exact hdrained.ownerTold.kept (State.offerOutcome_tally _)

theorem State.keepsBounds.loseContention {stop : Bool} {bs : List Byte} (h : r.keepsBounds s) :
    r.keepsBounds (s.loseContention stop bs) := by
  unfold State.loseContention
  split
  · exact State.keepsBounds.receive h
  · exact h

/-! ### The clock -/

theorem State.keepsBounds.rollNotice {cls : Nat} (h : r.keepsBounds s) : r.keepsBounds (s.rollNotice w cls) := by
  unfold State.rollNotice
  dsimp only
  repeat' split
  all_goals exact State.keepsBounds.nextAsk h

theorem State.keepsBounds.rolls {m : Nat} (h : r.keepsBounds s) : r.keepsBounds (State.rolls m s) := by
  induction m generalizing s with
  | zero => exact h
  | succ m ih => exact ih (State.keepsBounds.rollNotice h)

theorem State.keepsBounds.carryWindows {d : Int} (h : r.keepsBounds s) : r.keepsBounds (s.carryWindows d w) := by
  unfold State.carryWindows
  split
  · exact h.rolls
  · exact State.keepsBounds.rollNotice h.rolls

theorem State.keepsBounds.expireHolds {ns : List VisitNumber} (h : r.keepsBounds s) : r.keepsBounds (expireHolds ns s) := by
  induction ns generalizing s with
  | nil => exact h
  | cons n ns ih => exact ih h.expireHold

theorem State.keepsBounds.checkReady (h : r.keepsBounds s) : r.keepsBounds s.checkReady := h.kept s.checkReady_tally

theorem State.keepsBounds.takeTime {bs : List Byte} (h : r.keepsBounds s) : r.keepsBounds (s.takeTime bs) := by
  unfold State.takeTime
  repeat' split
  · exact h.count
  · exact h.count
  · exact State.keepsBounds.checkReady (State.keepsBounds.rollNotice h)
  · exact h
  · exact State.keepsBounds.expireHolds (State.keepsBounds.carryWindows h)

theorem State.keepsBounds.rollDue (h : r.keepsBounds s) : r.keepsBounds s.rollDue := by
  unfold State.rollDue
  split
  · exact State.keepsBounds.rollNotice h
  · exact h

/-! ### Every command keeps the bounds -/

theorem State.enterReset_keepsBounds (r s : State) (cause : ResetCause) (lost : Nat) :
    r.keepsBounds (s.enterReset cause lost) := by
  obtain ⟨hplaces, hcounters, -⟩ := resetIsSound
  exact ⟨fun _ => hplaces, fun _ => hcounters⟩

theorem State.keepsBounds.endReset {p : Straps} (h : r.keepsBounds s) : r.keepsBounds (s.endReset p) := h.kept (by simp)

theorem State.keepsBounds.onFrame {fk : FrameKind} {act : RxFrame → State → State} (h : r.keepsBounds s)
    (hact : ∀ f u, r.keepsBounds u → r.keepsBounds (act f u)) : r.keepsBounds (s.onFrame fk act) :=
  State.onFrame_induct r.keepsBounds h fun f rest => hact f _ (h.kept (t := s.handedOn f rest) rfl)

theorem State.keepsBounds.onLoanFrame {fk : FrameKind} {act : LaneId → Window → Byte → State → State}
    (h : r.keepsBounds s) (hact : ∀ c w b u, r.keepsBounds u → r.keepsBounds (act c w b u)) :
    r.keepsBounds (s.onFrame fk fun f => State.loanFrame (act f.source) f.payload) :=
  h.onFrame fun f u hu => State.loanFrame_induct r.keepsBounds hu fun w b => hact f.source w b u hu

theorem State.keepsBounds.onClerkFrame {fk : FrameKind} {act : VisitNumber → State → State} (h : r.keepsBounds s)
    (hact : ∀ n u, r.keepsBounds u → r.keepsBounds (act n u)) :
    r.keepsBounds (s.onFrame fk fun f => State.clerkFrame act f.payload) :=
  h.onFrame fun _ u hu => State.clerkFrame_induct r.keepsBounds hu.count fun n => hact n u hu

theorem State.keepsBounds.exec {i : Instr} (h : r.keepsBounds s) (hexec : exec i s = .next t) : r.keepsBounds t := by
  cases i <;> injection hexec with hexec <;> subst hexec
  case powerOn high p =>
    unfold State.powerUp
    dsimp only
    split
    · exact State.keepsBounds.endReset (State.enterReset_keepsBounds r s .power 0)
    · exact State.enterReset_keepsBounds r s .power 0
  case lineReset =>
    unfold State.lineResetTaken
    split
    · exact State.enterReset_keepsBounds r s .line s.placesUsed
    · exact h
  case resetNRelease p =>
    unfold State.resetPinRises
    dsimp only
    repeat' split
    · exact h
    · exact State.keepsBounds.endReset h
    · exact h
  case resetReqFrame p =>
    refine h.onFrame fun _ _ hu => ?_
    unfold State.takeResetReq
    repeat' split
    · exact hu.count
    · exact (State.enterReset_keepsBounds r _ _ _).endReset
    · exact hu
  case lineLevelChange => exact h.pinChange
  case debounceExpiry => exact h.debounceExpired
  case windowRoll => exact h.rollDue
  case timeFrame => exact h.onFrame fun _ _ hu => hu.takeTime
  case openFrame => exact h.onFrame fun _ _ hu => hu.takeOpen
  case closeFrame => exact h.onFrame fun _ _ hu => hu.takeClose
  case holdTimeoutExpiry => exact h.holdTimeout
  case releaseFrame => exact h.onClerkFrame fun _ _ hu => hu.takeRelease
  case refuseFrame => exact h.onClerkFrame fun _ _ hu => hu.takeRefuse
  case exitCheckExpiry => exact h.exitCheckExpired
  case plateReport | codeReport | sealReport | helloReport | malformedReport => exact h.readerMessage
  case holdingBufferExpiry => exact h.bufferExpired
  case bookingFrame =>
    refine h.onFrame fun _ _ hu => ?_
    unfold State.bookingPayload
    split
    · exact hu.takeBooking
    · exact hu.count
  case bookingCancelFrame =>
    refine h.onFrame fun _ _ hu => ?_
    unfold State.cancelPayload
    split
    · exact hu.kept (by simp)
    · exact hu.count
  case claimFrame =>
    refine h.onFrame fun _ _ hu => ?_
    unfold State.claimPayload
    split
    · exact hu.takeClaimFrame
    · exact hu
  case claimEndFrame =>
    refine h.onFrame fun _ _ hu => ?_
    unfold State.claimEndPayload
    split
    · exact hu
    · exact hu.count
  case loanAskFrame => exact h.onLoanFrame fun _ _ _ _ hu => hu.takeAsk
  case loanOfferFrame => exact h.onLoanFrame fun _ _ _ _ hu => hu.takeOffer
  case loanTakeFrame => exact h.onLoanFrame fun _ _ _ _ hu => hu.takeTake
  case loanConfirmFrame => exact h.onLoanFrame fun _ _ _ _ hu => hu.takeConfirm
  case loanVoidFrame => exact h.onLoanFrame fun _ _ _ _ hu => hu.takeVoid
  case loanDeclineFrame => exact h.onLoanFrame fun _ _ _ _ hu => hu.takeDecline
  case askDeadlineExpiry => exact h.askDeadline
  case offerExpiry => exact h.offerExpired
  case blockNoteFrame => exact h.onFrame fun _ _ hu => hu.kept (by simp)
  case alertClearFrame => exact h.onFrame fun _ _ hu => hu.takeAlertClear
  case countersFetchFrame => exact h.onFrame fun _ _ hu => hu.fetchCounters
  case configFrame => exact h.onFrame fun _ _ hu => hu.takeConfig
  case peerSilenceExpiry => exact h
  case frameReceived => exact h.receive
  case contentionLost => exact h.loseContention
  case frameSent => exact h.sent
  all_goals exact h.kept (by simp)

end

theorem step_keepsBounds {s t : State} (hstep : step s = .next t) : s.keepsBounds t :=
  step_keeps (P := s.keepsBounds) (fun _ _ h => h) (fun _ _ _ h hexec => h.exec hexec) s t (.refl s) hstep

/-- Settles O4: every command keeps each of the two bounds, and the queue of commands is no part of them. -/
theorem placesAndCountersStayInBounds : Obligations.PlacesAndCountersStayInBounds :=
  ⟨fun _ _ hplaces hstep => (step_keepsBounds hstep).1 hplaces,
    fun _ _ hcounters hstep => (step_keepsBounds hstep).2 hcounters⟩

end Sys2Proof.Machine
end

section
/-! O15, O16, O56 and O57: a flag latched and the flags cleared, with what is reported of either, a count, and the counters fetched
(R155 to R160). -/

namespace Sys2Proof.Machine

section
variable {s : State} {f : AlertFlag} {k : Counter}

/-! ### A change of the flag set reported (R156, R157) -/

theorem State.reportStatus_waiting (h : s.statusWaiting = true) : s.reportStatus = s.setStatusDue true := if_pos h

theorem State.reportStatus_handed (h : s.statusWaiting = false) : s.reportStatus = s.handStatus := if_neg (by simp [h])

/-- The flags and HOLD_WAITING make the flag set, and the report of a change touches neither. -/
theorem State.flagSetChanged_flagWord (s : State) : s.flagSetChanged.flagWord = s.flagWord := by
  have hhold : s.flagSetChanged.outcome.holdWaiting = s.outcome.holdWaiting := s.driveAlertN.reportStatus_holdWaiting
  have hflags : s.flagSetChanged.outcome.flags = s.outcome.flags := s.driveAlertN.reportStatus_flags
  unfold State.flagWord State.flag
  rw [hhold, hflags]

/-- A STATUS waits already: status due is set. -/
theorem State.flagSetChanged_waiting (h : s.statusWaiting = true) :
    s.flagSetChanged.bus.txQueue = s.bus.txQueue ∧ s.flagSetChanged.outcome.statusDue = true := by
  rw [State.flagSetChanged, State.reportStatus_waiting (s := s.driveAlertN) h]
  exact ⟨rfl, rfl⟩

/-- The STATUS finds no place and is dropped. -/
theorem State.flagSetChanged_full (h : s.statusWaiting = false) (hfull : 8 ≤ s.bus.txQueue.length) :
    s.flagSetChanged.bus.txQueue = s.bus.txQueue ∧ s.flagSetChanged.outcome.statusDue = false := by
  rw [State.flagSetChanged, State.reportStatus_handed (s := s.driveAlertN) h, State.handStatus_full (s := s.driveAlertN) hfull]
  exact ⟨rfl, rfl⟩

/-- The STATUS enters the Transmit Queue with the flag set as it has become. -/
theorem State.flagSetChanged_room (h : s.statusWaiting = false) (hroom : s.bus.txQueue.length < 8) :
    s.flagSetChanged.bus.txQueue =
        insertFrame ⟨.status s.flagSetChanged.flagWord s.visits.mode, false⟩ s.bus.txQueue ∧
      s.flagSetChanged.outcome.statusDue = s.outcome.statusDue := by
  rw [State.flagSetChanged_flagWord, State.flagSetChanged, State.reportStatus_handed (s := s.driveAlertN) h,
    State.handStatus_room (s := s.driveAlertN) hroom]
  exact ⟨rfl, rfl⟩

/-! ### A flag latched (R155) -/

theorem State.latch_set (h : (s.flag f).isSet = true) : s.latch f = s.putFlag f ⟨true, true⟩ := if_pos h

theorem State.latch_clear (h : (s.flag f).isSet = false) : s.latch f = (s.putFlag f ⟨true, true⟩).flagSetChanged :=
  if_neg (by simp [h])

/-- Settles O15, by whether the flag was set, and for a new one by what the STATUS finds. -/
theorem latchedFlagIsReported : Obligations.LatchedFlagIsReported := by
  intro f s
  refine ⟨State.latch_sameButAlerts f s, State.latch_flags f s, fun hset => ?_, fun hclear => ?_⟩
  · rw [State.latch_set hset]
    exact ⟨rfl, rfl, rfl⟩
  · rw [State.latch_clear hclear]
    exact ⟨State.flagSetChanged_alertSound _, fun hwaits => State.flagSetChanged_waiting hwaits,
      fun hnone hfull => State.flagSetChanged_full hnone hfull,
      fun hnone hroom => State.flagSetChanged_room hnone hroom⟩

/-! ### A count (R159) -/

theorem State.count_counters (k : Counter) (s : State) :
    (s.count k).outcome.counters = s.outcome.counters.put k (satAdd 255 (s.outcome.counters.get k) 1) := by
  unfold State.count
  dsimp only
  split
  · exact State.latch_counters _ _
  · rfl

/-- CRC_ERRORS rises to 32. -/
theorem State.count_crcErrors_to_32 (h : s.outcome.counters.get .crcErrors = 31) :
    s.count .crcErrors = (s.setCounters (s.outcome.counters.put .crcErrors
      (satAdd 255 (s.outcome.counters.get .crcErrors) 1))).latch .bus := if_pos (by simp [h])

/-- Any other rise of a counter touches the counters alone. -/
theorem State.count_quiet (h : k ≠ .crcErrors ∨ s.outcome.counters.get k ≠ 31) :
    s.count k = s.setCounters (s.outcome.counters.put k (satAdd 255 (s.outcome.counters.get k) 1)) :=
  if_neg (by simpa [← not_and_or] using h)

/-- Settles O16. -/
theorem counterRisesAndSaturates : Obligations.CounterRisesAndSaturates := by
  intro k s
  refine ⟨?_, fun j hj => ?_, fun hk h31 => ?_, fun hquiet => ?_⟩
  · rw [State.count_counters, Counters.get_put, if_pos rfl]
    rfl
  · rw [State.count_counters, Counters.get_put, if_neg hj]
  · subst hk
    rw [State.count_crcErrors_to_32 h31]
    exact State.flag_latch _ _
  · rw [State.count_quiet hquiet]
    rfl

/-! ### Flags cleared (R158) -/

theorem AlertFlags.get_put (fs : AlertFlags) (f g : AlertFlag) (st : FlagState) :
    (fs.put f st).get g = if g = f then st else fs.get g := by
  cases f <;> cases g <;> rfl

theorem AlertFlags.ext_get {fs gs : AlertFlags} (h : ∀ f, fs.get f = gs.get f) : fs = gs := by
  cases fs
  cases gs
  simp only [AlertFlags.mk.injEq]
  exact ⟨h .barrier, h .display, h .surveyChannel, h .laneOverflow, h .bus, h .gatewaySilent, h .records, h .idClash⟩

theorem AlertFlags.get_clearNamed (set : BitVec 16) (fs : AlertFlags) (f g : AlertFlag) :
    (clearNamed set fs f).get g =
      if g = f ∧ set.getLsbD g.bit = true ∧ (fs.get g).isSet = true ∧ (fs.get g).standing = false then .clear
      else fs.get g := by
  unfold clearNamed
  by_cases hg : g = f
  · subst hg
    split <;> simp_all [AlertFlags.get_put]
  · split <;> simp [AlertFlags.get_put, hg]

/-- The state of a flag once those of `l` that are named and have ended are clear. -/
theorem AlertFlags.get_foldl_clearNamed (set : BitVec 16) (l : List AlertFlag) (fs : AlertFlags) (g : AlertFlag) :
    (l.foldl (clearNamed set) fs).get g =
      if g ∈ l ∧ set.getLsbD g.bit = true ∧ (fs.get g).isSet = true ∧ (fs.get g).standing = false then .clear
      else fs.get g := by
  induction l generalizing fs with
  | nil => simp
  | cons f l ih =>
    rw [List.foldl_cons, ih, AlertFlags.get_clearNamed]
    by_cases hends : set.getLsbD g.bit = true ∧ (fs.get g).isSet = true ∧ (fs.get g).standing = false
    · by_cases hg : g = f
      · subst hg
        simp [hends, FlagState.clear]
      · simp [hg, hends]
    · simp [hends]

theorem AlertFlags.get_afterClear (set : BitVec 16) (fs : AlertFlags) (g : AlertFlag) :
    (fs.afterClear set).get g =
      if set.getLsbD g.bit = true ∧ (fs.get g).isSet = true ∧ (fs.get g).standing = false then .clear
      else fs.get g := by
  have hall : g ∈ AlertFlag.all := by cases g <;> decide
  rw [AlertFlags.afterClear, AlertFlags.get_foldl_clearNamed]
  simp only [hall, true_and]

/-- Settles O56: with no flag named, set and ended the flags stay as they are; with one they change. -/
theorem alertClearClearsEndedFlags : Obligations.AlertClearClearsEndedFlags := by
  intro s u f rest set htake hu hform
  have houtcome : u.outcome = s.outcome := by simp [hu]
  have hexec : exec .alertClearFrame s = .next (u.clearAlerts set) := by
    show Host.Outcome.next (s.onFrame .alertClear _) = _
    rw [State.onFrame_taken htake, ← hu, State.takeAlertClear, hform]
  rw [hexec, State.clearAlerts, houtcome]
  refine ⟨fun hnone => congrArg _ (if_pos (AlertFlags.ext_get fun a => ?_)), fun a₀ hnamed hset hended =>
    ⟨s.outcome.flags.afterClear set, AlertFlags.get_afterClear set _, congrArg _ (if_neg fun hsame => ?_)⟩⟩
  · rw [AlertFlags.get_afterClear, if_neg]
    rintro ⟨hnamed, hset, hended⟩
    rcases hnone a with h | h | h
    · simp [hnamed] at h
    · simp [State.flag, hset] at h
    · simp [State.flag, hended] at h
  · have hcleared := AlertFlags.get_afterClear set s.outcome.flags a₀
    rw [hsame, if_pos ⟨hnamed, hset, hended⟩] at hcleared
    simp [State.flag, hcleared, FlagState.clear] at hset

/-! ### The counters fetched (R160) -/

/-- Every counter is 0 and the BUS condition has ended. -/
def State.countersZeroed (s : State) : State := (s.setCounters .zero).endCondition .bus

theorem State.countersZeroed_addBack_counters (cs : Counters) (s : State) (k : Counter) :
    (s.countersZeroed.addBack cs).outcome.counters.get k = min 255 (cs.get k) := by
  rw [State.addBack_counters, Counters.get_add]
  cases k <;> exact congrArg _ (Nat.zero_add _)

/-- The values added back to counters of 0 latch BUS where CRC_ERRORS is then 32 or more. -/
theorem State.countersZeroed_addBack (cs : Counters) (s : State) : s.countersZeroed.addBack cs =
    if 32 ≤ cs.crcErrors then (s.countersZeroed.setCounters (Counters.zero.add cs)).latch .bus
    else s.countersZeroed.setCounters (Counters.zero.add cs) := by
  have h32 : (decide (s.countersZeroed.outcome.counters.crcErrors < 32) &&
      decide (32 ≤ (s.countersZeroed.outcome.counters.add cs).crcErrors)) = decide (32 ≤ cs.crcErrors) := by
    show (decide (0 < 32) && decide (32 ≤ min 255 (0 + cs.crcErrors))) = _
    simp
  unfold State.addBack
  dsimp only
  rw [h32]
  simp only [decide_eq_true_eq]
  rfl

/-- Beside the counters the values added back touch what a flag's change touches. -/
theorem State.countersZeroed_addBack_sameButAlerts (cs : Counters) (s : State) :
    s.sameButAlerts ((s.countersZeroed.addBack cs).setCounters s.outcome.counters) := by
  rw [State.countersZeroed_addBack]
  split
  · have hlatched := State.latch_sameButAlerts .bus (s.countersZeroed.setCounters (Counters.zero.add cs))
    exact congrArg (State.setCounters s.outcome.counters) hlatched
  · rfl

/-- Settles O57, by the room in the Transmit Queue. -/
theorem countersFetchEmptiesTheCounters : Obligations.CountersFetchEmptiesTheCounters := by
  intro s u f rest htake hu
  have houtcome : u.outcome = s.outcome := by rw [hu]; rfl
  have hflag : u.flag .bus = s.flag .bus := by rw [State.flag, houtcome]; rfl
  have hexec : exec .countersFetchFrame s = .next (u.countersZeroed.handCounters u.outcome.counters) := by
    show Host.Outcome.next (s.onFrame .countersFetch _) = _
    rw [State.onFrame_taken htake, ← hu]
    rfl
  have hqueue : u.bus.txQueue = s.bus.txQueue := by rw [hu]; rfl
  rw [hexec, ← hqueue, ← houtcome, ← hflag]
  refine ⟨fun hroom => congrArg _ (State.handCounters_room (s := u.countersZeroed) hroom), fun hfull => ?_⟩
  rw [State.handCounters_full (s := u.countersZeroed) hfull]
  refine ⟨_, rfl, State.countersZeroed_addBack_sameButAlerts _ u, State.countersZeroed_addBack_counters _ u,
    fun hbelow => ?_, fun habove => ?_⟩
  · rw [State.countersZeroed_addBack, if_neg (Nat.not_le.mpr hbelow)]
    exact State.flag_putFlag_same .bus _ _
  · rw [State.countersZeroed_addBack, if_pos habove]
    exact State.flag_latch _ _

end

end Sys2Proof.Machine
end

section
/-! O18: which of the buffered frames its owner takes, and which are handed on with it (R170, R176; log 7). -/

namespace Sys2Proof.Machine

section
variable {k : FrameKind} {f g : RxFrame} {rx rest before after : List RxFrame}

/-- The owner of kind `k` may take a frame that arrived after `g`: `g` is another owner's, and no RESET_REQ. -/
def RxFrame.passedBy (k : FrameKind) (g : RxFrame) : Prop :=
  g.kind ≠ k ∧ g.kind.owner ≠ k.owner ∧ g.kind ≠ .resetReq

theorem takeFirst_cons_passed (hg : g.passedBy k) :
    takeFirst k (g :: rx) = (takeFirst k rx).map fun p => (p.1, { g with handed := true } :: p.2) := by
  obtain ⟨hkind, howner, hreset⟩ := hg
  rw [takeFirst, if_neg hkind, if_neg (not_or_intro howner hreset)]

theorem takeFirst_cons_blocked (hkind : g.kind ≠ k) (hg : ¬ g.passedBy k) : takeFirst k (g :: rx) = none := by
  rw [takeFirst, if_neg hkind, if_pos]
  simpa [RxFrame.passedBy, hkind, or_iff_not_imp_left] using hg

theorem takeFirst_of_split (hf : f.kind = k) (hbefore : ∀ g ∈ before, g.passedBy k) :
    takeFirst k (before ++ f :: after) = some (f, before.map (fun g => { g with handed := true }) ++ after) := by
  induction before with
  | nil => exact if_pos hf
  | cons g gs ih =>
    obtain ⟨hg, hgs⟩ := List.forall_mem_cons.mp hbefore
    rw [List.cons_append, takeFirst_cons_passed hg, ih hgs]
    rfl

theorem handedUpTo_of_split (hf : f.kind = k) (hbefore : ∀ g ∈ before, g.kind ≠ k) :
    handedUpTo k (before ++ f :: after) = before ++ [f] := by
  induction before with
  | nil => exact if_pos hf
  | cons g gs ih =>
    obtain ⟨hg, hgs⟩ := List.forall_mem_cons.mp hbefore
    rw [List.cons_append, handedUpTo, if_neg hg, ih hgs]
    rfl

theorem takeFirst_split (h : takeFirst k rx = some (f, rest)) :
    ∃ before after, rx = before ++ f :: after ∧ f.kind = k ∧ (∀ g ∈ before, g.passedBy k) ∧
      rest = before.map (fun g => { g with handed := true }) ++ after := by
  induction rx generalizing rest with
  | nil => cases h
  | cons g gs ih =>
    by_cases hkind : g.kind = k
    · rw [takeFirst, if_pos hkind] at h
      cases h
      exact ⟨[], gs, rfl, hkind, by simp, rfl⟩
    · by_cases hg : g.passedBy k
      · rw [takeFirst_cons_passed hg, Option.map_eq_some_iff] at h
        obtain ⟨⟨f', left⟩, htake, heq⟩ := h
        cases heq
        obtain ⟨before, after, rfl, hf, hbefore, rfl⟩ := ih htake
        exact ⟨g :: before, after, rfl, hf, List.forall_mem_cons.mpr ⟨hg, hbefore⟩, rfl⟩
      · rw [takeFirst_cons_blocked hkind hg] at h
        cases h

/-- With the frame taken exactly one buffer empties (R170). -/
theorem takeFirst_length (h : takeFirst k rx = some (f, rest)) : rx.length = rest.length + 1 := by
  obtain ⟨before, after, rfl, -, -, rfl⟩ := takeFirst_split h
  simp only [List.length_append, List.length_cons, List.length_map]
  omega

end

/-- Settles O18: the buffers split at the frame taken, by induction on the frames before it. -/
theorem framesOfOneOwnerInOrder : Obligations.FramesOfOneOwnerInOrder := by
  intro k rx rest f
  constructor
  · intro h
    obtain ⟨before, after, rfl, hf, hbefore, hrest⟩ := takeFirst_split h
    exact ⟨before, after, rfl, hf, hbefore, hrest, handedUpTo_of_split hf fun g hg => (hbefore g hg).1⟩
  · rintro ⟨before, after, rfl, hf, hbefore, rfl, -⟩
    exact takeFirst_of_split hf hbefore

end Sys2Proof.Machine
end

section
/-! O6: the bounds of the Transmit Queue, the outboxes and the receive buffers (R166, R167, R170). A frame enters the queue only where a
place is free, or in the place of one that gives way; so the queue, full while an outbox is, stays full until a frame has been sent or
a reset comes, and a frame sent lets the older outbox frame enter at once. A receive buffer fills on a reception alone. -/

namespace Sys2Proof.Machine

/-! ### The bounds, and a change of the bus unit -/

section
variable {s t : State} {f : TxFrame} {o : OutboxOwner}

/-- The bounds are a matter of the length of the queue, the owners of the outboxes, and the count of receive buffers. -/
theorem State.busSound.sameBounds (h : s.busSound) (hqueue : t.bus.txQueue.length = s.bus.txQueue.length)
    (houtboxes : t.bus.outboxes = s.bus.outboxes) (hrx : t.bus.rx.length ≤ s.bus.rx.length) : t.busSound := by
  unfold State.busSound
  rw [hqueue, houtboxes]
  obtain ⟨height, hfull, howners, htwo⟩ := h
  exact ⟨height, hfull, howners, hrx.trans htwo⟩

theorem State.busSound.kept (h : s.busSound) (hbus : t.bus = s.bus) : t.busSound :=
  h.sameBounds (by rw [hbus]) (by rw [hbus]) (by rw [hbus])

/-- A frame enters where a place is free: no outbox holds a frame then. -/
theorem State.busSound.enqueue (h : s.busSound) (hroom : s.txFree ≠ 0) : (s.enqueue f).busSound := by
  obtain ⟨-, hfull, howners, htwo⟩ := h
  have hroom := Nat.lt_of_not_le (mt State.txFree_eq_zero_iff.mpr hroom)
  have hlength : (s.enqueue f).bus.txQueue.length = s.bus.txQueue.length + 1 := length_insertFrame _ _
  refine ⟨by omega, fun hsome => ?_, howners, htwo⟩
  have hlen := hfull hsome
  omega

/-- Outboxes of different owners, and one more of an owner that has none (R167). -/
theorem owners_nodup_snoc {es : List OutboxEntry} (h : (es.map (·.owner)).Nodup) (hnone : ∀ e ∈ es, e.owner ≠ o) :
    ((es ++ [(⟨o, f⟩ : OutboxEntry)]).map (·.owner)).Nodup := by
  rw [List.map_append]
  refine h.append (List.nodup_singleton o) (List.disjoint_singleton.mpr fun ho => ?_)
  obtain ⟨e, he, heo⟩ := List.mem_map.mp ho
  exact hnone e he heo

/-- On a full queue an outbox of an owner that has none, or whose own has been emptied, takes a frame. -/
theorem State.busSound.setOutboxes {es : List OutboxEntry} (h : s.busSound) (hfull : ¬ 0 < s.txFree)
    (hes : es.Sublist s.bus.outboxes) (hnone : ∀ e ∈ es, e.owner ≠ o) : (s.setOutboxes (es ++ [⟨o, f⟩])).busSound := by
  obtain ⟨height, -, howners, htwo⟩ := h
  have hfull := Nat.le_of_not_lt (mt State.txFree_pos_iff.mpr hfull)
  exact ⟨height, fun _ => Nat.le_antisymm height hfull, owners_nodup_snoc (howners.sublist (hes.map _)) hnone, htwo⟩

/-- One frame gives way. -/
theorem displaceYoungest_length {q left : List TxEntry} {g : TxFrame} (h : displaceYoungest q = some (g, left)) :
    q.length = left.length + 1 := by
  induction q generalizing left with
  | nil => cases h
  | cons x xs ih =>
    unfold displaceYoungest at h
    split at h
    next hleft =>
      cases h
      exact congrArg (· + 1) (ih hleft)
    next =>
      split at h
      · cases h; rfl
      · cases h

/-- A frame takes the place of the one that gives way. -/
theorem State.busSound.replaces {q : List TxEntry} {g : TxFrame} (h : s.busSound)
    (hgives : displaceYoungest s.bus.txQueue = some (g, q)) : (s.setTxQueue (withFrame f q)).busSound :=
  h.sameBounds ((length_insertFrame _ _).trans (displaceYoungest_length hgives).symm) rfl le_rfl

/-- A frame has left the queue: the older outbox frame enters at once, so that the queue is full again (R167). -/
theorem State.busSound.drainOutbox (h : s.busSound) (hqueue : t.bus.txQueue.length + 1 = s.bus.txQueue.length)
    (houtboxes : t.bus.outboxes = s.bus.outboxes) (hrx : t.bus.rx = s.bus.rx) : t.drainOutbox.busSound := by
  obtain ⟨height, hfull, howners, htwo⟩ := h
  rw [← houtboxes] at hfull howners
  rw [← hrx] at htwo
  cases hout : t.bus.outboxes with
  | nil =>
    rw [State.drainOutbox_nil hout]
    exact ⟨by omega, fun hsome => absurd hout hsome, howners, htwo⟩
  | cons x xs =>
    have hlen := hfull (by simp [hout])
    have hlength : (withFrame x.frame t.bus.txQueue).length = 8 := (length_insertFrame _ _).trans (by omega)
    rw [State.drainOutbox_cons hout (by omega)]
    rw [hout] at howners
    exact ⟨hlength.le, fun _ => hlength, howners.of_cons, htwo⟩

end

section
variable {s t : State} {n : VisitNumber} {f : TxFrame} {k : Counter} {o : OutboxOwner} {c : LaneId} {w : Window} {b : Byte}

/-! ### Flags, STATUS frames and counters (R155 to R160) -/

theorem State.busSound.handStatus (h : s.busSound) : s.handStatus.busSound := by
  unfold State.handStatus
  split
  next => exact h
  next hroom => exact h.enqueue hroom

theorem State.busSound.reportStatus (h : s.busSound) : s.reportStatus.busSound := by
  unfold State.reportStatus
  split
  · exact h
  · exact h.handStatus

theorem State.busSound.flagSetChanged (h : s.busSound) : s.flagSetChanged.busSound := State.busSound.reportStatus h

theorem State.busSound.latch {a : AlertFlag} (h : s.busSound) : (s.latch a).busSound := by
  unfold State.latch
  split
  · exact h
  · exact State.busSound.flagSetChanged h

theorem State.busSound.markCondition {a : AlertFlag} {up : Bool} (h : s.busSound) : (s.markCondition a up).busSound :=
  h.kept (by simp)

theorem State.busSound.reportHolds (h : s.busSound) : s.reportHolds.busSound := by
  unfold State.reportHolds State.setHoldWaiting
  split
  · exact h
  · exact State.busSound.flagSetChanged h

theorem State.busSound.setMode {m : LaneMode} (h : s.busSound) : (s.setMode m).busSound := State.busSound.reportStatus h

theorem State.busSound.count (h : s.busSound) : (s.count k).busSound := by
  unfold State.count
  dsimp only
  split
  · exact State.busSound.latch h
  · exact h

theorem State.busSound.addBack {cs : Counters} (h : s.busSound) : (s.addBack cs).busSound := by
  unfold State.addBack
  dsimp only
  split
  · exact State.busSound.latch h
  · exact h

theorem State.busSound.arrivalLost (h : s.busSound) : s.arrivalLost.busSound := h.count.latch.markCondition

theorem State.busSound.takeAlertClear {bs : List Byte} (h : s.busSound) : (s.takeAlertClear bs).busSound := by
  unfold State.takeAlertClear State.clearAlerts
  dsimp only
  repeat' split
  · exact h
  · exact State.busSound.flagSetChanged h
  · exact h.count

theorem State.busSound.fetchCounters (h : s.busSound) : s.fetchCounters.busSound := by
  unfold State.fetchCounters State.handCounters
  split
  next => exact State.busSound.addBack h
  next hroom => exact State.busSound.enqueue (s := s.countersZeroed) h hroom

/-! ### Frames handed over (R138, R154, R166, R167) -/

theorem State.busSound.displaced (h : s.busSound) : (s.displaced f).busSound := by
  cases f
  case counters => exact h.addBack
  all_goals exact h

theorem State.busSound.handClass0 (h : s.busSound) : (s.handClass0 o f).busSound := by
  unfold State.handClass0
  split
  next hroom => exact h.enqueue hroom.ne'
  next hfull =>
    split
    next hgives _ => exact (h.replaces hgives).displaced
    next old hgives _ =>
      have hreplaced := h.replaces (f := old.frame) hgives
      refine .displaced (hreplaced.setOutboxes (fun hroom => hfull ?_) List.filter_sublist (by simp))
      have hsame : (withFrame old.frame _).length = s.bus.txQueue.length :=
        (length_insertFrame _ _).trans (displaceYoungest_length hgives).symm
      exact State.txFree_pos_iff.mpr (hsame ▸ State.txFree_pos_iff.mp hroom)
    next hnone =>
      exact h.setOutboxes hfull (List.Sublist.refl _) (by simpa [State.outbox?] using hnone)
    next => exact h

theorem State.busSound.sendNote {x : Text} (h : s.busSound) : (s.sendNote x).busSound := by
  unfold State.sendNote State.handNote
  split
  · split
    next => exact h.count
    next hroom => exact h.enqueue hroom
  · exact h

theorem State.busSound.offerOutcome (h : s.busSound) : s.offerOutcome.busSound := by
  unfold State.offerOutcome
  repeat' split
  next => exact h
  next hoffers =>
    simp only [Bool.and_eq_true, decide_eq_true_eq] at hoffers
    exact h.enqueue (by omega)
  next => exact h

/-! ### The yard -/

theorem State.busSound.routeDrops {ms : List Move} (h : s.busSound) : (routeDrops ms s).2.busSound := by
  induction ms generalizing s with
  | nil => exact h
  | cons m ms ih =>
    refine ih (s := (s.routeDrop m).2) ?_
    unfold State.routeDrop
    repeat' split
    · exact State.busSound.sendNote h
    · exact h.sendNote
    · exact h

theorem State.busSound.routeVerdict {v : Visit} {vd : Verdict} (h : s.busSound) : (s.routeVerdict v vd).2.busSound := by
  cases vd
  case admitted => exact h.routeDrops
  all_goals exact h

theorem State.busSound.placeVisitMessage {m : Message} (h : s.busSound) : (s.placeVisitMessage m).busSound :=
  h.kept (by simp)

/-- BARRIER latches, and its condition is sensed (R148). -/
theorem State.busSound.barrierLatched (h : s.busSound) : ((s.latch .barrier).barrierSense).busSound := h.latch.markCondition

theorem State.busSound.testRaise (h : s.busSound) : s.testRaise.busSound := h.kept (by simp)

theorem State.busSound.yardLoopXVacated (h : s.busSound) : s.yardLoopXVacated.busSound := h.kept (by simp)

theorem State.busSound.barUpUp (h : s.busSound) : s.barUpUp.busSound := by
  unfold State.barUpUp
  split
  case h_1 => exact h.kept (by simp)
  case h_2 | h_3 => exact h.markCondition
  case h_4 | h_5 => exact h.barrierLatched

theorem State.busSound.barUpDown (h : s.busSound) : s.barUpDown.busSound := by
  unfold State.barUpDown
  split
  case h_1 => exact h.kept (by simp)
  case h_2 | h_3 => exact h.barrierLatched
  case h_4 | h_5 => exact h.markCondition

theorem State.busSound.upCheckExpired (h : s.busSound) : s.upCheckExpired.busSound := by
  unfold State.upCheckExpired
  dsimp only
  repeat' split
  · exact State.busSound.barrierLatched h
  · exact h
  · exact h

theorem State.busSound.settleExpired (h : s.busSound) : s.settleExpired.busSound := by
  unfold State.settleExpired
  dsimp only
  repeat' split
  · exact State.busSound.testRaise (State.busSound.barrierLatched h)
  · exact State.busSound.testRaise h
  · exact h
  · exact h

theorem State.busSound.deliveryGivenUp (h : s.busSound) : s.deliveryGivenUp.busSound := by
  unfold State.deliveryGivenUp
  split
  · exact h
  · exact (h.latch (a := .display)).kept (by simp only [State.endDelivery_frame]; split <;> simp)

theorem State.busSound.deliveryBusy (h : s.busSound) : s.deliveryBusy.busSound := by
  unfold State.deliveryBusy
  dsimp only
  split
  · exact h
  · exact h.deliveryGivenUp

theorem State.busSound.displayAnswer {toggle : Bool} {a : Answer} (h : s.busSound) :
    (s.displayAnswer toggle a).busSound := by
  unfold State.displayAnswer
  repeat' split
  · exact h.kept (by simp)
  · exact h.deliveryBusy
  · exact h.deliveryGivenUp
  · exact h

theorem State.busSound.displayByte (h : s.busSound) : (s.displayByte b).busSound := by
  unfold State.displayByte
  split
  · exact h
  · exact h.kept (by simp)
  · exact h.displayAnswer

theorem State.busSound.answerWaitExpired (h : s.busSound) : s.answerWaitExpired.busSound := by
  unfold State.answerWaitExpired
  split
  · exact h.deliveryBusy
  · exact h

/-! ### Bookings, claims and passes -/

theorem State.busSound.takeBooking {bf : BookingForm} (h : s.busSound) : (s.takeBooking bf).busSound := by
  unfold State.takeBooking
  repeat' split
  · exact h.count
  · exact h.count
  · unfold State.replaceBooking
    repeat' split
    · exact h
    · exact h
    · exact h.count
    · exact h
    · exact h.count
    · exact h
    · exact h.count
  · unfold State.insertBooking
    repeat' split
    · exact h
    · exact State.busSound.count h
    · exact h.count
    · exact h.count

theorem State.busSound.endClaim {cr : ClaimResult} (h : s.busSound) : (s.endClaim n cr).busSound := by
  unfold State.endClaim
  repeat' split
  · exact h
  · exact h
  · exact State.busSound.handClass0 h

theorem State.busSound.settleDark {d : PassSummary} (h : s.busSound) : (s.settleDark d).busSound := by
  unfold State.settleDark
  dsimp only
  repeat' split
  · exact State.busSound.latch h
  · exact h
  · exact h

theorem State.busSound.endPass (h : s.busSound) : s.endPass.busSound := by
  unfold State.endPass
  split
  · exact h
  · exact State.busSound.settleDark h

theorem State.busSound.truncatePass (h : s.busSound) : (s.truncatePass n).busSound := by
  unfold State.truncatePass
  repeat' split
  · exact h.endPass
  · exact h
  · exact h

theorem State.busSound.scanOccupied (h : s.busSound) : s.scanOccupied.busSound := by
  unfold State.scanOccupied
  repeat' split
  · exact h.count
  all_goals exact h

theorem State.busSound.selectFor {v : Visit} (h : s.busSound) : (s.selectFor v).2.busSound := by
  have hconfidence : (if v.confidence < s.general.plateThreshold then
      s.updVisit v.number (Visit.addReason .plateLowConf) else s).busSound := by split <;> exact h
  unfold State.selectFor
  dsimp only
  split
  · exact State.busSound.handClass0 hconfidence
  · exact hconfidence

theorem State.busSound.portalClose (h : s.busSound) : (s.portalClose n).busSound := by
  unfold State.portalClose
  dsimp only
  split
  · exact h.truncatePass
  · exact h.truncatePass.selectFor

/-! ### Verdicts and holds -/

theorem State.busSound.giveVerdict {vd : Verdict} (h : s.busSound) : (s.giveVerdict n vd).busSound := by
  unfold State.giveVerdict
  split
  · exact h
  next v _ =>
    have hrouted : ((s.writeVerdict n vd).routeVerdict v vd).2.busSound := State.busSound.routeVerdict h
    exact State.busSound.reportHolds (State.busSound.placeVisitMessage hrouted)

theorem State.busSound.giveParkedAdmission {vd : Verdict} (h : s.busSound) : (s.giveParkedAdmission n vd).busSound := by
  unfold State.giveParkedAdmission
  split
  · exact h
  · exact State.busSound.routeVerdict (s := s.writeVerdict n vd) h

theorem State.busSound.refuseVisit (h : s.busSound) : (s.refuseVisit n).busSound := by
  unfold State.refuseVisit
  dsimp only
  repeat' split
  · exact h
  · exact h.giveVerdict.endClaim
  · exact h.giveVerdict

theorem State.busSound.admitWith {src : FlexSource} (h : s.busSound) : (s.admitWith n src).busSound := by
  unfold State.admitWith
  split
  · exact h
  · exact State.busSound.giveVerdict h

theorem State.busSound.enterClerkHold (h : s.busSound) : (s.enterClerkHold n).busSound := by
  unfold State.enterClerkHold
  dsimp only
  repeat' split
  · exact h
  · exact State.busSound.reportHolds h
  · exact State.busSound.reportHolds (State.busSound.placeVisitMessage h)

theorem State.busSound.giveNoCapacity (h : s.busSound) : (s.giveNoCapacity n).busSound := State.busSound.enterClerkHold h

theorem State.busSound.enterPlaceHold (h : s.busSound) : (s.enterPlaceHold n).busSound :=
  State.busSound.reportHolds (State.busSound.placeVisitMessage h)

/-! ### The Capacity Unit -/

theorem State.busSound.openAsk (h : s.busSound) : s.openAsk.busSound := by
  unfold State.openAsk
  split
  · exact h
  · exact State.busSound.handClass0 h

theorem State.busSound.serveWaiter {rest : List VisitNumber} {src : FlexSource} (h : s.busSound) :
    (s.serveWaiter n rest src).busSound := State.busSound.admitWith h

theorem State.busSound.nextAsk {src : FlexSource} {fuel : Nat} (h : s.busSound) : (State.nextAsk src fuel s).busSound := by
  induction fuel generalizing s with
  | zero => exact h
  | succ fuel ih =>
    unfold State.nextAsk
    repeat' split
    · exact h
    · exact ih h.serveWaiter
    · exact h.openAsk
    · exact ih (State.busSound.giveNoCapacity h)

theorem State.busSound.spareRose {src : FlexSource} (h : s.busSound) : (s.spareRose src).busSound := by
  unfold State.spareRose
  split
  · exact h
  · exact State.busSound.nextAsk h

theorem State.busSound.askFails (h : s.busSound) : s.askFails.busSound := by
  unfold State.askFails
  dsimp only
  split
  · exact h
  · exact State.busSound.nextAsk (State.busSound.giveNoCapacity h)

theorem State.busSound.removeWaiter (h : s.busSound) : (s.removeWaiter n).busSound := by
  unfold State.removeWaiter
  repeat' split
  · exact h
  · exact State.busSound.nextAsk h
  · exact h

theorem State.busSound.flexStep (h : s.busSound) : (s.flexStep n).busSound := by
  have hwaits : ((s.updVisit n fun v => { v with state := .awaitLoan }).reportHolds).busSound :=
    State.busSound.reportHolds h
  unfold State.flexStep
  dsimp only
  repeat' split
  · exact State.busSound.admitWith h
  · exact State.busSound.openAsk hwaits
  · exact hwaits
  · exact h.giveNoCapacity

theorem State.busSound.takeOffer (h : s.busSound) : (s.takeOffer c w b).busSound := by
  unfold State.takeOffer
  repeat' split
  all_goals exact State.busSound.handClass0 h

theorem State.busSound.takeConfirm (h : s.busSound) : (s.takeConfirm c w b).busSound := by
  unfold State.takeConfirm
  dsimp only
  repeat' split
  · exact h
  · exact State.busSound.nextAsk (State.busSound.serveWaiter h)
  · exact State.busSound.askFails (State.busSound.count h)
  · exact State.busSound.spareRose h
  · exact State.busSound.count h
  · exact h

theorem State.busSound.takeVoid (h : s.busSound) : (s.takeVoid c w b).busSound := by
  unfold State.takeVoid
  dsimp only
  split
  · exact State.busSound.askFails h
  · exact h

theorem State.busSound.askDeadline (h : s.busSound) : s.askDeadline.busSound := by
  unfold State.askDeadline
  repeat' split
  · exact h.askFails
  · exact h
  · exact h

theorem State.busSound.takeAsk (h : s.busSound) : (s.takeAsk c w b).busSound := by
  unfold State.takeAsk
  repeat' split
  · exact h
  · exact State.busSound.handClass0 h
  · exact h

theorem State.busSound.takeTake (h : s.busSound) : (s.takeTake c w b).busSound := by
  unfold State.takeTake
  split <;> exact State.busSound.handClass0 h

theorem State.busSound.takeDecline (h : s.busSound) : (s.takeDecline c w b).busSound := by
  unfold State.takeDecline
  split
  · exact State.busSound.spareRose h
  · exact h

theorem State.busSound.offerExpired (h : s.busSound) : s.offerExpired.busSound := by
  unfold State.offerExpired
  split
  · exact h
  · exact State.busSound.spareRose h

/-! ### Evaluation, and the places of the Outcome Queue -/

theorem State.busSound.combine (h : s.busSound) : (s.combine n).busSound := by
  unfold State.combine
  repeat' split
  · exact h
  · exact h.refuseVisit
  · exact h.enterClerkHold
  · exact h.flexStep
  · exact h.giveVerdict

theorem State.busSound.reserveAndCombine (h : s.busSound) : (s.reserveAndCombine n).busSound := by
  have hreserved : (s.reservePlace n).busSound := by
    unfold State.reservePlace
    dsimp only
    split
    · exact State.busSound.latch h
    · exact h
  exact State.busSound.combine hreserved

theorem State.busSound.evaluate (h : s.busSound) : (s.evaluate n).busSound := by
  unfold State.evaluate
  split
  · exact h.reserveAndCombine
  · exact h.enterPlaceHold

theorem State.busSound.dropOffered (h : s.busSound) : s.dropOffered.busSound := by
  unfold State.dropOffered State.placeFreed
  repeat' split
  · exact State.busSound.reserveAndCombine h
  · exact h
  · exact h

theorem State.busSound.claimLost (h : s.busSound) : (s.claimLost n).busSound := by
  unfold State.claimLost
  dsimp only
  repeat' split
  case h_3 => exact State.busSound.removeWaiter (State.busSound.enterClerkHold h)
  all_goals exact h

theorem State.busSound.takeClaimFrame {x : Text} {key : GatePoint} (h : s.busSound) :
    (s.takeClaimFrame c x key).busSound := by
  unfold State.takeClaimFrame
  repeat' split
  case h_3.isTrue => exact State.busSound.claimLost h
  all_goals exact h

/-! ### Visits that close or leave -/

theorem State.busSound.laneLeft (h : s.busSound) : (s.laneLeft n).busSound := by
  have harrived : (((s.raiseVisitLeaves n).dropMessages n).openPendingArrival).busSound := h.kept (by simp)
  unfold State.laneLeft State.endDraining
  split
  · exact harrived.setMode.testRaise
  · exact harrived.testRaise

theorem State.busSound.fillPlace {v : Visit} (h : s.busSound) : (s.fillPlace v).busSound := by
  unfold State.fillPlace
  split
  · exact State.busSound.offerOutcome h
  · exact h

theorem State.busSound.endClaimAtClose {v : Visit} (h : s.busSound) : (s.endClaimAtClose v).busSound := by
  unfold State.endClaimAtClose
  split
  · exact h.endClaim
  · exact h

theorem State.busSound.closeVisit (h : s.busSound) : (s.closeVisit n).busSound := by
  have hfreed (v : Visit) : (((s.fillPlace v).endClaimAtClose v).freeSlot n).busSound :=
    ((h.fillPlace (v := v)).endClaimAtClose (v := v)).kept (by simp)
  unfold State.closeVisit
  dsimp only
  repeat' split
  · exact h
  · exact (hfreed _).laneLeft.reportHolds
  · exact (hfreed _).reportHolds

theorem State.busSound.leaveOverExit {v : Visit} (h : s.busSound) : (s.leaveOverExit v).busSound := by
  unfold State.leaveOverExit
  split
  · exact State.busSound.reportHolds (State.busSound.laneLeft h)
  · exact h.closeVisit

/-! ### Events of the lane -/

theorem State.busSound.readerMessage {ch : Channel} {m : Option ReaderMessage} (h : s.busSound) :
    (s.readerMessage ch m).busSound := by
  have hplaced (r : Report) : (s.placeReport ch r).2.busSound := by
    unfold State.placeReport
    repeat' split
    case h_2.isFalse => exact h.count
    all_goals exact h
  unfold State.readerMessage
  repeat' split
  · exact h
  · exact h
  next toggle r =>
    unfold State.takeReport
    dsimp only
    repeat' split
    · exact h
    · exact hplaced r
    · exact hplaced r
  · exact h

theorem State.busSound.bufferExpired {ch : Channel} (h : s.busSound) : (s.bufferExpired ch).busSound := by
  unfold State.bufferExpired
  split
  · exact State.busSound.count h
  · exact h

theorem State.busSound.loopAOccupied (h : s.busSound) : s.loopAOccupied.busSound := by
  have hclosed : s.placeLaneClosed.busSound := h.kept (by simp)
  unfold State.loopAOccupied
  repeat' split
  · exact h
  · exact h
  · exact State.busSound.markCondition h
  · exact h.arrivalLost
  · exact hclosed.count
  · exact hclosed.count

theorem State.busSound.unseenAtPortal (h : s.busSound) : s.unseenAtPortal.busSound := by
  have hpending (m : Nat) : (s.setPendingArrivals m).busSound := State.busSound.markCondition h
  unfold State.unseenAtPortal
  repeat' split
  · exact h
  · exact h
  · exact (hpending _).arrivalLost
  · exact (hpending _).arrivalLost
  · exact h
  · exact (hpending _).arrivalLost
  · exact h

theorem State.busSound.loopPOccupied (h : s.busSound) : s.loopPOccupied.busSound := by
  have hoverrun : s.overrunPortal.busSound := by
    unfold State.overrunPortal
    split
    · exact h.portalClose
    · exact h
  unfold State.loopPOccupied
  dsimp only
  repeat' split
  · exact h
  · exact hoverrun.kept (by simp)
  · exact hoverrun.unseenAtPortal.kept (by simp)

theorem State.busSound.loopPVacated (h : s.busSound) : s.loopPVacated.busSound := by
  unfold State.loopPVacated
  split
  · exact h.portalClose
  · exact h

theorem State.busSound.loopSOccupied (h : s.busSound) : s.loopSOccupied.busSound := by
  unfold State.loopSOccupied
  repeat' split
  · exact h.evaluate
  · exact h.portalClose.evaluate
  · exact h

theorem State.busSound.loopXVacated (h : s.busSound) : s.loopXVacated.busSound := by
  unfold State.loopXVacated
  dsimp only
  split
  · exact h.leaveOverExit.yardLoopXVacated
  · exact h.yardLoopXVacated

theorem State.busSound.exitCheckExpired (h : s.busSound) : (s.exitCheckExpired n).busSound := by
  unfold State.exitCheckExpired
  dsimp only
  repeat' split
  · exact h
  · exact State.busSound.leaveOverExit h
  · exact h
  · exact h

theorem State.busSound.lineEvent {l : Line} {up : Bool} (h : s.busSound) : (s.lineEvent l up).busSound := by
  unfold State.lineEvent
  repeat' split
  · exact h.loopAOccupied
  · exact h
  · exact h.loopPOccupied
  · exact h
  · exact h.loopPVacated
  · exact h
  · exact h.loopSOccupied
  · exact h
  · exact h
  · exact h.kept (by simp)
  · exact h.yardLoopXVacated
  · exact h.loopXVacated
  · exact h.scanOccupied
  · exact h.endPass
  · exact h.barUpUp
  · exact h.barUpDown

theorem State.busSound.settleLine {l : Line} {ls : LineSet Bool} (h : s.busSound) : (s.settleLine l ls).busSound :=
  State.busSound.lineEvent h

theorem State.busSound.pinChange {l : Line} {high : Bool} (h : s.busSound) : (s.pinChange l high).busSound := by
  unfold State.pinChange
  dsimp only
  repeat' split
  case h_2.isFalse.isTrue => exact State.busSound.settleLine h
  all_goals exact h

theorem State.busSound.debounceExpired {l : Line} (h : s.busSound) : (s.debounceExpired l).busSound := by
  unfold State.debounceExpired
  repeat' split
  · exact h
  · exact h.settleLine
  · exact h
  · exact h

/-! ### Commands of the office station -/

theorem State.busSound.takeOpen (h : s.busSound) : s.takeOpen.busSound := by
  unfold State.takeOpen
  split
  · exact h.count
  · exact h.setMode
  · exact h.setMode
  · exact h

theorem State.busSound.takeClose (h : s.busSound) : s.takeClose.busSound := by
  unfold State.takeClose
  split
  · exact h.count
  · exact h.setMode
  · exact h
  · exact h

theorem State.busSound.checkReady (h : s.busSound) : s.checkReady.busSound := by
  unfold State.checkReady
  split
  · exact h.setMode
  · exact h

theorem State.busSound.takeConfig {bs : List Byte} (h : s.busSound) : (s.takeConfig bs).busSound := by
  unfold State.takeConfig State.fixIfComplete State.fixConfig
  repeat' split
  · exact h.count
  · exact h.count
  · exact .checkReady (h.kept (by simp))
  · exact h

theorem State.busSound.retakeDeferred (h : s.busSound) : s.retakeDeferred.busSound := by
  unfold State.retakeDeferred
  repeat' split
  · exact h.giveVerdict
  · exact h
  · exact h

theorem State.busSound.takeRelease (h : s.busSound) : (s.takeRelease n).busSound := by
  have hoverridden (v : Visit) : (s.overrideVisit v).busSound := h.kept (by simp)
  unfold State.takeRelease
  repeat' split
  · exact h.count
  · exact (hoverridden _).giveVerdict
  · exact (hoverridden _).giveParkedAdmission.closeVisit.retakeDeferred
  · exact h.count

theorem State.busSound.takeRefuse (h : s.busSound) : (s.takeRefuse n).busSound := by
  unfold State.takeRefuse
  repeat' split
  · exact h.count
  · exact h.refuseVisit
  · exact State.busSound.retakeDeferred (State.busSound.closeVisit h)
  · exact h.count

theorem State.busSound.expireHold (h : s.busSound) : (s.expireHold n).busSound := by
  unfold State.expireHold
  repeat' split
  · exact h
  · exact h.refuseVisit
  · exact h.giveVerdict
  · exact h
  · exact h

theorem State.busSound.holdTimeout (h : s.busSound) : (s.holdTimeout n).busSound := by
  unfold State.holdTimeout
  repeat' split
  · exact h
  · exact h.expireHold
  · exact h

/-! ### The clock -/

theorem State.busSound.rollNotice {cls : Nat} (h : s.busSound) : (s.rollNotice w cls).busSound := by
  unfold State.rollNotice
  dsimp only
  repeat' split
  all_goals exact State.busSound.nextAsk h

theorem State.busSound.rolls {m : Nat} (h : s.busSound) : (State.rolls m s).busSound := by
  induction m generalizing s with
  | zero => exact h
  | succ m ih => exact ih (State.busSound.rollNotice h)

theorem State.busSound.carryWindows {d : Int} (h : s.busSound) : (s.carryWindows d w).busSound := by
  unfold State.carryWindows
  split
  · exact h.rolls
  · exact State.busSound.rollNotice h.rolls

theorem State.busSound.expireHolds {ns : List VisitNumber} (h : s.busSound) : (expireHolds ns s).busSound := by
  induction ns generalizing s with
  | nil => exact h
  | cons n ns ih => exact ih h.expireHold

theorem State.busSound.takeTime {bs : List Byte} (h : s.busSound) : (s.takeTime bs).busSound := by
  unfold State.takeTime
  repeat' split
  · exact h.count
  · exact h.count
  · exact State.busSound.checkReady (State.busSound.rollNotice h)
  · exact h
  · exact State.busSound.expireHolds (State.busSound.carryWindows h)

theorem State.busSound.rollDue (h : s.busSound) : s.rollDue.busSound := by
  unfold State.rollDue
  split
  · exact State.busSound.rollNotice h
  · exact h

/-! ### The bus (R163, R168 to R171) -/

theorem State.busSound.officeHeard (h : s.busSound) : s.officeHeard.busSound := by
  unfold State.officeHeard
  dsimp only
  split
  · exact State.busSound.offerOutcome h
  · exact h

/-- A frame for this lane takes a buffer where one of the two is empty. -/
theorem State.busSound.bufferFrame {rf : RawFrame} (h : s.busSound) : (s.bufferFrame rf).busSound := by
  unfold State.bufferFrame
  repeat' split
  next => exact h.count
  next => exact h.count
  next => exact h
  next hempty _ r _ _ =>
    obtain ⟨height, hfull, howners, -⟩ := h
    have hlength : (s.bus.rx ++ [r]).length = s.bus.rx.length + 1 := List.length_append
    exact ⟨height, hfull, howners, hlength.trans_le (by omega)⟩

theorem State.busSound.receive {stop : Bool} {bs : List Byte} (h : s.busSound) : (s.receive stop bs).busSound := by
  have hheard (source : LaneId) : (s.stationHeard source).busSound := by
    unfold State.stationHeard
    repeat' split
    · exact h
    · exact h.officeHeard
    · exact h
  unfold State.receive
  dsimp only
  repeat' split
  · exact h.count
  · exact h.latch
  · exact (hheard _).bufferFrame
  · exact hheard _
  · exact h

theorem State.busSound.beginSending (h : s.busSound) : s.beginSending.busSound := by
  unfold State.beginSending
  split
  next => exact h
  next e es hqueue =>
    split
    · exact h.sameBounds (by rw [hqueue]; rfl) rfl le_rfl
    · exact h

theorem State.busSound.loseContention {stop : Bool} {bs : List Byte} (h : s.busSound) :
    (s.loseContention stop bs).busSound := by
  unfold State.loseContention
  split
  · exact .receive (h.sameBounds (List.length_map _) rfl le_rfl)
  · exact h

theorem State.busSound.ownerTold (h : s.busSound) : (s.ownerTold f).busSound := by
  unfold State.ownerTold
  repeat' split
  · exact h.dropOffered
  · exact State.busSound.handStatus h
  · exact h
  · exact h

/-- The frame in transmission leaves the queue. -/
theorem State.busSound.sent (h : s.busSound) : s.sent.busSound := by
  unfold State.sent
  dsimp only
  split
  next => exact h
  next e hsending =>
    have hlength := List.length_eraseP_add_one (List.mem_of_find?_eq_some hsending) (List.find?_some hsending)
    exact (h.drainOutbox (t := s.frameOut e (s.bus.txQueue.eraseP (·.sending))) hlength rfl rfl).ownerTold.offerOutcome

theorem State.busSound.officeSilent (h : s.busSound) : s.officeSilent.busSound := by
  unfold State.officeSilent
  split
  · exact State.busSound.latch h
  · exact h

/-! ### Resets (R172, R175) -/

theorem State.enterReset_busSound (s : State) (cause : ResetCause) (lost : Nat) : (s.enterReset cause lost).busSound := by
  obtain ⟨-, -, -, hbus, -⟩ := resetIsSound
  exact hbus

theorem State.busSound.endReset {p : Straps} (h : s.busSound) : (s.endReset p).busSound := by
  unfold State.endReset State.announceStart
  dsimp only
  repeat' split
  next => exact h
  next => exact h
  next hroom => exact State.busSound.enqueue (s := (s.sampleStraps p).driveAlertN) h hroom

/-! ### Every command keeps the bounds -/

/-- With the frame taken one receive buffer empties (R170). -/
theorem State.busSound.onFrame {fk : FrameKind} {act : RxFrame → State → State} (h : s.busSound)
    (hact : ∀ rf u, u.busSound → (act rf u).busSound) : (s.onFrame fk act).busSound := by
  cases htake : takeFirst fk s.bus.rx with
  | none => rwa [State.onFrame_none htake]
  | some p =>
    rw [State.onFrame_taken htake]
    have hrest : p.2.length ≤ s.bus.rx.length := Nat.le_of_succ_le (takeFirst_length htake).ge
    exact hact _ _ (h.sameBounds rfl rfl hrest)

theorem State.busSound.onLoanFrame {fk : FrameKind} {act : LaneId → Window → Byte → State → State} (h : s.busSound)
    (hact : ∀ c w b u, u.busSound → (act c w b u).busSound) :
    (s.onFrame fk fun rf => State.loanFrame (act rf.source) rf.payload).busSound :=
  h.onFrame fun rf u hu => State.loanFrame_induct State.busSound hu fun w b => hact rf.source w b u hu

theorem State.busSound.onClerkFrame {fk : FrameKind} {act : VisitNumber → State → State} (h : s.busSound)
    (hact : ∀ n u, u.busSound → (act n u).busSound) : (s.onFrame fk fun rf => State.clerkFrame act rf.payload).busSound :=
  h.onFrame fun _ u hu => State.clerkFrame_induct State.busSound hu.count fun n => hact n u hu

theorem State.busSound.exec {i : Instr} (h : s.busSound) (hexec : exec i s = .next t) : t.busSound := by
  cases i <;> injection hexec with hexec <;> subst hexec
  case powerOn high p =>
    unfold State.powerUp
    dsimp only
    split
    · exact State.busSound.endReset (State.enterReset_busSound s .power 0)
    · exact State.enterReset_busSound s .power 0
  case lineReset =>
    unfold State.lineResetTaken
    split
    · exact State.enterReset_busSound s .line s.placesUsed
    · exact h
  case resetNRelease p =>
    unfold State.resetPinRises
    dsimp only
    repeat' split
    · exact h
    · exact State.busSound.endReset h
    · exact h
  case resetReqFrame p =>
    refine h.onFrame fun _ _ hu => ?_
    unfold State.takeResetReq
    repeat' split
    · exact hu.count
    · exact (State.enterReset_busSound _ _ _).endReset
    · exact hu
  case lineLevelChange => exact h.pinChange
  case debounceExpiry => exact h.debounceExpired
  case windowRoll => exact h.rollDue
  case timeFrame => exact h.onFrame fun _ _ hu => hu.takeTime
  case openFrame => exact h.onFrame fun _ _ hu => hu.takeOpen
  case closeFrame => exact h.onFrame fun _ _ hu => hu.takeClose
  case holdTimeoutExpiry => exact h.holdTimeout
  case releaseFrame => exact h.onClerkFrame fun _ _ hu => hu.takeRelease
  case refuseFrame => exact h.onClerkFrame fun _ _ hu => hu.takeRefuse
  case exitCheckExpiry => exact h.exitCheckExpired
  case plateReport | codeReport | sealReport | helloReport | malformedReport => exact h.readerMessage
  case holdingBufferExpiry => exact h.bufferExpired
  case displayAccept | displayBusy | displayReject => exact h.displayAnswer
  case displayUnusableAnswer => exact h.displayByte
  case answerWaitExpiry => exact h.answerWaitExpired
  case upCheckExpiry => exact h.upCheckExpired
  case settleTimeExpiry => exact h.settleExpired
  case bookingFrame =>
    refine h.onFrame fun _ _ hu => ?_
    unfold State.bookingPayload
    split
    · exact hu.takeBooking
    · exact hu.count
  case bookingCancelFrame =>
    refine h.onFrame fun _ _ hu => ?_
    unfold State.cancelPayload
    split
    · exact hu.kept (by simp)
    · exact hu.count
  case claimFrame =>
    refine h.onFrame fun _ _ hu => ?_
    unfold State.claimPayload
    split
    · exact hu.takeClaimFrame
    · exact hu
  case claimEndFrame =>
    refine h.onFrame fun _ _ hu => ?_
    unfold State.claimEndPayload
    split
    · exact hu
    · exact hu.count
  case loanAskFrame => exact h.onLoanFrame fun _ _ _ _ hu => hu.takeAsk
  case loanOfferFrame => exact h.onLoanFrame fun _ _ _ _ hu => hu.takeOffer
  case loanTakeFrame => exact h.onLoanFrame fun _ _ _ _ hu => hu.takeTake
  case loanConfirmFrame => exact h.onLoanFrame fun _ _ _ _ hu => hu.takeConfirm
  case loanVoidFrame => exact h.onLoanFrame fun _ _ _ _ hu => hu.takeVoid
  case loanDeclineFrame => exact h.onLoanFrame fun _ _ _ _ hu => hu.takeDecline
  case askDeadlineExpiry => exact h.askDeadline
  case offerExpiry => exact h.offerExpired
  case blockNoteFrame => exact h.onFrame fun _ _ hu => hu.kept (by simp)
  case alertClearFrame => exact h.onFrame fun _ _ hu => hu.takeAlertClear
  case countersFetchFrame => exact h.onFrame fun _ _ hu => hu.fetchCounters
  case configFrame => exact h.onFrame fun _ _ hu => hu.takeConfig
  case frameReceived => exact h.receive
  case officeSilenceExpiry => exact h.officeSilent
  case txStart => exact h.beginSending
  case contentionLost => exact h.loseContention
  case frameSent => exact h.sent
  all_goals exact h.kept (by simp)

end

/-- Settles O6: every command keeps the bounds, and the queue of commands is no part of them. -/
theorem busUnitStaysInBounds : Obligations.BusUnitStaysInBounds :=
  step_keeps (fun _ _ h => h) fun _ _ _ h hexec => h.exec hexec

end Sys2Proof.Machine
end

section
/-! O22: RESET_REQ and the 2 s it waits for its second (R174 to R176). What the RESET_REQ finds pending depends on the frames that
arrived before it alone, since they are handed on with it (log 7). -/

namespace Sys2Proof.Machine

/-! ### The frames before a RESET_REQ -/

/-- The frames handed on with the oldest RESET_REQ are those that arrived before it (R170). -/
theorem handedUpTo_resetReq {rx rest : List RxFrame} {f : RxFrame} (h : takeFirst .resetReq rx = some (f, rest)) :
    handedUpTo .resetReq rx = rx.takeWhile (fun x => x.kind != .resetReq) ++ [f] := by
  obtain ⟨before, after, rfl, hf, hbefore, -⟩ := takeFirst_split h
  have hkind : ∀ g ∈ before, g.kind ≠ .resetReq := fun g hg => (hbefore g hg).1
  rw [handedUpTo_of_split hf hkind, List.takeWhile_append_of_pos (by simpa using hkind),
    List.takeWhile_cons_of_neg (by simp [hf]), List.append_nil]

/-- A frame that arrived before the oldest RESET_REQ ends a pending request as it is handed on (R176). -/
def State.pairBroken (s : State) : Prop :=
  ∃ g ∈ s.bus.rx.takeWhile (fun x => x.kind != .resetReq), g.dest = s.laneId ∧ g.handed = false

theorem State.not_pairBroken_iff {s : State} : ¬ s.pairBroken ↔
    ∀ g ∈ s.bus.rx.takeWhile (fun x => x.kind != .resetReq), g.dest ≠ s.laneId ∨ g.handed = true := by
  simp [State.pairBroken, or_iff_not_imp_left]

section
variable {s : State} {f : RxFrame} {rest : List RxFrame} (h : takeFirst .resetReq s.bus.rx = some (f, rest))
include h

/-- The hand-on's own condition, at a RESET_REQ: the RESET_REQ itself breaks no pair. -/
theorem State.pairBroken_iff : s.pairBroken ↔
    ∃ g ∈ handedUpTo f.kind s.bus.rx, g.dest = s.laneId ∧ g.kind ≠ .resetReq ∧ g.handed = false := by
  have hf := takeFirst_kind h
  rw [hf, handedUpTo_resetReq h]
  constructor
  · rintro ⟨g, hg, hdest, hhanded⟩
    exact ⟨g, List.mem_append_left _ hg, hdest, by simpa using List.mem_takeWhile_imp hg, hhanded⟩
  · rintro ⟨g, hg, hdest, hkind, hhanded⟩
    rcases List.mem_append.mp hg with hg | hg
    · exact ⟨g, hg, hdest, hhanded⟩
    · exact absurd (List.mem_singleton.mp hg ▸ hf) hkind

theorem State.handedOn_pairBroken (hbroken : s.pairBroken) :
    s.handedOn f rest = (s.setRx rest).setResetPending false .stopped := by
  rw [State.handedOn, if_pos ((State.pairBroken_iff h).mp hbroken)]
  rfl

theorem State.handedOn_pairKept (hkept : ¬ s.pairBroken) : s.handedOn f rest = s.setRx rest := by
  rw [State.handedOn, if_neg (mt (State.pairBroken_iff h).mpr hkept)]
  rfl

theorem State.exec_resetReqFrame (p : Straps) :
    exec (.resetReqFrame p) s = .next ((s.handedOn f rest).takeResetReq f.dest p) :=
  congrArg Host.Outcome.next (State.onFrame_taken h)

end

/-! ### A RESET_REQ taken (R176) -/

section
variable {s : State} {dest : LaneId} (p : Straps)

theorem State.takeResetReq_broadcast (hdest : dest = 0) : s.takeResetReq dest p = s.count .framesIgnored := if_pos hdest

theorem State.takeResetReq_first (hdest : dest ≠ 0) (hpending : s.start.resetPending = false) :
    s.takeResetReq dest p = s.setResetPending true (.running 2000) := by
  rw [State.takeResetReq, if_neg hdest, if_neg (by simp [hpending])]

/-- A requested reset is the reset image with its end, for RESET_N as it is (R175, R180; log 35). -/
theorem State.takeResetReq_second (hdest : dest ≠ 0) (hpending : s.start.resetPending = true) :
    s.takeResetReq dest p =
      (s.resetImage s.start.resetPin s.start.resetQual .request s.placesUsed).startImage p := by
  rw [State.takeResetReq, if_neg hdest, if_pos hpending, State.enterReset_eq, State.endReset_resetImage]

end

/-- Settles O22: the frames handed on with the RESET_REQ either end a pending request, or leave Start Control as it was. -/
theorem resetRequestTakesTwoFrames : Obligations.ResetRequestTakesTwoFrames := by
  refine ⟨fun s p f rest htake => ?_, fun s hrun => ?_, fun s hstopped => ?_⟩
  · rw [State.exec_resetReqFrame htake]
    refine ⟨fun hdest => ?_, fun hdest hfirst => ?_, fun hdest hpending hkept => ?_⟩
    · rw [State.takeResetReq_broadcast p hdest]
    · by_cases hbroken : s.pairBroken
      · rw [State.handedOn_pairBroken htake hbroken, State.takeResetReq_first p hdest rfl]
        rfl
      · have hpending : (s.setRx rest).start.resetPending = false := hfirst.resolve_right hbroken
        rw [State.handedOn_pairKept htake hbroken, State.takeResetReq_first p hdest hpending]
        rfl
    · have hpending' : (s.setRx rest).start.resetPending = true := hpending
      rw [State.handedOn_pairKept htake (State.not_pairBroken_iff.mpr hkept), State.takeResetReq_second p hdest hpending']
      rfl
  · exact congrArg Host.Outcome.next (if_pos hrun)
  · exact congrArg Host.Outcome.next (if_neg (by simp [hstopped]))

end Sys2Proof.Machine
end

section
/-! O1 and O2: every command answers with a next state, which has the same queue of commands and a log that has only grown at its
front. The log grows where a display message, an answer of a reader channel or a bus frame is put out (log 25); what puts out
nothing leaves it by the frame lemmas. -/

namespace Sys2Proof.Machine

/-! ### The log grown from one state to another -/

/-- From `r` to `s` nothing joined or left the queue of commands, and outputs were only added to the log. -/
def State.logGrows (r s : State) : Prop := s.pending = r.pending ∧ r.out <:+ s.out

section
variable {r s t : State} {n : VisitNumber} {m : Message} {vd : Verdict} {src : FlexSource} {ch : Channel} {l : Line} {c : LaneId}
  {w : Window} {b : Byte} {rest : List VisitNumber}

theorem State.logGrows.refl (s : State) : s.logGrows s := ⟨rfl, List.suffix_refl _⟩

/-- What leaves the queue and the log puts out nothing. -/
theorem State.logGrows.kept (h : r.logGrows s) (hsame : t.pending = s.pending ∧ t.out = s.out) : r.logGrows t := by
  obtain ⟨hpending, hout⟩ := hsame
  unfold State.logGrows
  rwa [hpending, hout]

theorem State.logGrows.emit {o : Output} (h : r.logGrows s) : r.logGrows (s.emit o) := by
  obtain ⟨hpending, hlog⟩ := h
  exact ⟨hpending, hlog.trans (List.suffix_cons o s.out)⟩

theorem State.logGrows.updVisit {f : Visit → Visit} (h : r.logGrows s) : r.logGrows (s.updVisit n f) := h

theorem State.logGrows.reportHolds (h : r.logGrows s) : r.logGrows s.reportHolds := h.kept (by simp)

/-! ### The display (R58 to R60, R140 to R143) -/

theorem State.logGrows.sendMessage {busy : Nat} (h : r.logGrows s) : r.logGrows (s.sendMessage m busy) := h.emit

theorem State.logGrows.pumpDisplay (h : r.logGrows s) : r.logGrows s.pumpDisplay := by
  unfold State.pumpDisplay
  repeat' split
  · exact h
  · exact h.sendMessage
  · exact h

theorem State.logGrows.joinQueue (h : r.logGrows s) : r.logGrows (s.joinQueue m) := State.logGrows.pumpDisplay h

/-- The message joins the queue, or it is held or takes another's place, unsent. -/
theorem State.logGrows.placeVisitMessage (h : r.logGrows s) : r.logGrows (s.placeVisitMessage m) := by
  unfold State.placeVisitMessage
  repeat' split
  case h_1.isFalse.isFalse.isFalse.isTrue => exact h.joinQueue
  case h_2.isFalse.isTrue => exact h.joinQueue
  all_goals exact h

theorem State.logGrows.placeLaneClosed (h : r.logGrows s) : r.logGrows s.placeLaneClosed := by
  unfold State.placeLaneClosed
  split
  · exact h.joinQueue
  · exact h

theorem State.logGrows.joinHeld (h : r.logGrows s) : r.logGrows s.joinHeld := by
  unfold State.joinHeld
  repeat' split
  · exact State.logGrows.joinQueue h
  · exact h
  · exact h

theorem State.logGrows.dropMessages (h : r.logGrows s) : r.logGrows (s.dropMessages n) := by
  unfold State.dropMessages
  dsimp only
  repeat' split
  · exact h
  · exact State.logGrows.joinHeld h
  · exact h

theorem State.logGrows.endDelivery (h : r.logGrows s) : r.logGrows (s.endDelivery m) := by
  have hjoined : r.logGrows (s.setQueue s.yard.queue.tail).joinHeld := State.logGrows.joinHeld h
  exact State.logGrows.pumpDisplay (hjoined.kept (by simp))

theorem State.logGrows.deliveryAccepted (h : r.logGrows s) : r.logGrows s.deliveryAccepted := by
  unfold State.deliveryAccepted
  split
  · exact h
  · exact h.endDelivery

theorem State.logGrows.deliveryGivenUp (h : r.logGrows s) : r.logGrows s.deliveryGivenUp := by
  have hlatched : r.logGrows (s.latch .display) := h.kept (by simp)
  unfold State.deliveryGivenUp
  dsimp only
  repeat' split
  · exact h
  · exact State.logGrows.endDelivery hlatched
  · exact hlatched.endDelivery

theorem State.logGrows.deliveryBusy (h : r.logGrows s) : r.logGrows s.deliveryBusy := by
  unfold State.deliveryBusy
  dsimp only
  split
  · exact h
  · exact h.deliveryGivenUp

theorem State.logGrows.displayAnswer {toggle : Bool} {a : Answer} (h : r.logGrows s) :
    r.logGrows (s.displayAnswer toggle a) := by
  unfold State.displayAnswer
  repeat' split
  · exact h.deliveryAccepted
  · exact h.deliveryBusy
  · exact h.deliveryGivenUp
  · exact h

theorem State.logGrows.displayRestarted (h : r.logGrows s) : r.logGrows s.displayRestarted := by
  unfold State.displayRestarted
  dsimp only
  repeat' split
  · exact h
  · exact h
  · exact State.logGrows.sendMessage h

theorem State.logGrows.displayByte (h : r.logGrows s) : r.logGrows (s.displayByte b) := by
  unfold State.displayByte
  split
  · exact h
  · exact h.displayRestarted
  · exact h.displayAnswer

theorem State.logGrows.answerWaitExpired (h : r.logGrows s) : r.logGrows s.answerWaitExpired := by
  unfold State.answerWaitExpired
  split
  · exact h.deliveryBusy
  · exact h

theorem State.logGrows.retryWaitExpired (h : r.logGrows s) : r.logGrows s.retryWaitExpired := by
  unfold State.retryWaitExpired
  repeat' split
  · exact h
  · exact h.sendMessage
  · exact h

/-! ### The reader channels (R46 to R52) -/

/-- Each message is answered once. -/
theorem State.logGrows.readerMessage {msg : Option ReaderMessage} (h : r.logGrows s) : r.logGrows (s.readerMessage ch msg) := by
  unfold State.readerMessage
  repeat' split
  · exact h.emit
  · exact State.logGrows.emit h
  next toggle rep =>
    have hplaced : r.logGrows (s.placeReport ch rep).2 := h.kept (by simp)
    unfold State.takeReport
    dsimp only
    repeat' split
    · exact h.emit
    · exact State.logGrows.emit hplaced
    · exact hplaced.emit
  · exact h

/-! ### Verdicts and holds (R29 to R33) -/

theorem State.logGrows.giveVerdict (h : r.logGrows s) : r.logGrows (s.giveVerdict n vd) := by
  unfold State.giveVerdict
  split
  · exact h
  next v _ =>
    have hrouted : r.logGrows ((s.writeVerdict n vd).routeVerdict v vd).2 := h.kept (by simp)
    exact State.logGrows.reportHolds (State.logGrows.updVisit (State.logGrows.placeVisitMessage hrouted.updVisit))

theorem State.logGrows.refuseVisit (h : r.logGrows s) : r.logGrows (s.refuseVisit n) := by
  unfold State.refuseVisit
  dsimp only
  repeat' split
  · exact h
  · exact (h.giveVerdict (n := n) (vd := .refuse)).kept (by simp)
  · exact h.giveVerdict

theorem State.logGrows.admitWith (h : r.logGrows s) : r.logGrows (s.admitWith n src) := by
  unfold State.admitWith
  split
  · exact h
  · exact State.logGrows.giveVerdict h

theorem State.logGrows.enterClerkHold (h : r.logGrows s) : r.logGrows (s.enterClerkHold n) := by
  unfold State.enterClerkHold
  dsimp only
  repeat' split
  · exact h
  · exact State.logGrows.reportHolds h
  · exact State.logGrows.reportHolds (State.logGrows.placeVisitMessage h)

theorem State.logGrows.giveNoCapacity (h : r.logGrows s) : r.logGrows (s.giveNoCapacity n) := State.logGrows.enterClerkHold h

theorem State.logGrows.enterPlaceHold (h : r.logGrows s) : r.logGrows (s.enterPlaceHold n) :=
  State.logGrows.reportHolds (State.logGrows.placeVisitMessage h)

/-! ### Leaving the lane and closing (R9, R23, R43, R44) -/

theorem State.logGrows.laneLeft (h : r.logGrows s) : r.logGrows (s.laneLeft n) := by
  have hdropped : r.logGrows ((s.raiseVisitLeaves n).dropMessages n) := State.logGrows.dropMessages (h.kept (by simp))
  exact hdropped.kept (by simp [State.laneLeft])

theorem State.logGrows.closeVisit (h : r.logGrows s) : r.logGrows (s.closeVisit n) := by
  have hfreed (v : Visit) : r.logGrows (((s.fillPlace v).endClaimAtClose v).freeSlot n) := h.kept (by simp)
  unfold State.closeVisit
  dsimp only
  repeat' split
  · exact h
  · exact (hfreed _).laneLeft.reportHolds
  · exact (hfreed _).reportHolds

theorem State.logGrows.moveToParked {v : Visit} (h : r.logGrows s) : r.logGrows (s.moveToParked v) :=
  State.logGrows.reportHolds (State.logGrows.laneLeft h)

theorem State.logGrows.leaveOverExit {v : Visit} (h : r.logGrows s) : r.logGrows (s.leaveOverExit v) := by
  unfold State.leaveOverExit
  split
  · exact h.moveToParked
  · exact h.closeVisit

/-! ### The Capacity Unit (R85 to R99) -/

theorem State.logGrows.serveWaiter (h : r.logGrows s) : r.logGrows (s.serveWaiter n rest src) := State.logGrows.admitWith h

/-- By induction on the fuel: each waiting visit is served or held, and an Ask ends the round. -/
theorem State.logGrows.nextAsk {fuel : Nat} (h : r.logGrows s) : r.logGrows (State.nextAsk src fuel s) := by
  induction fuel generalizing s with
  | zero => exact h
  | succ fuel ih =>
    unfold State.nextAsk
    repeat' split
    · exact h
    · exact ih h.serveWaiter
    · exact h.kept (by simp)
    · exact ih (State.logGrows.giveNoCapacity h)

theorem State.logGrows.checkWaiters (h : r.logGrows s) : r.logGrows (s.checkWaiters src) := h.nextAsk

theorem State.logGrows.spareRose (h : r.logGrows s) : r.logGrows (s.spareRose src) := by
  unfold State.spareRose
  split
  · exact h
  · exact State.logGrows.checkWaiters h

theorem State.logGrows.askFails (h : r.logGrows s) : r.logGrows s.askFails := by
  unfold State.askFails
  dsimp only
  split
  · exact h
  · exact State.logGrows.checkWaiters (State.logGrows.giveNoCapacity h)

theorem State.logGrows.removeWaiter (h : r.logGrows s) : r.logGrows (s.removeWaiter n) := by
  unfold State.removeWaiter
  repeat' split
  · exact h
  · exact State.logGrows.checkWaiters h
  · exact h

theorem State.logGrows.flexStep (h : r.logGrows s) : r.logGrows (s.flexStep n) := by
  unfold State.flexStep
  dsimp only
  repeat' split
  · exact State.logGrows.admitWith h
  · exact h.kept (by simp)
  · exact h.kept (by simp)
  · exact h.giveNoCapacity

theorem State.logGrows.takeConfirm (h : r.logGrows s) : r.logGrows (s.takeConfirm c w b) := by
  unfold State.takeConfirm
  dsimp only
  repeat' split
  · exact h
  · exact State.logGrows.checkWaiters (State.logGrows.serveWaiter h)
  · exact State.logGrows.askFails (h.kept (by simp))
  · exact State.logGrows.spareRose h
  · exact h.kept (by simp)
  · exact h

theorem State.logGrows.takeVoid (h : r.logGrows s) : r.logGrows (s.takeVoid c w b) := by
  unfold State.takeVoid
  dsimp only
  split
  · exact State.logGrows.askFails h
  · exact h

theorem State.logGrows.askDeadline (h : r.logGrows s) : r.logGrows s.askDeadline := by
  unfold State.askDeadline
  repeat' split
  · exact h.askFails
  · exact h
  · exact h

theorem State.logGrows.offerReturned (h : r.logGrows s) : r.logGrows s.offerReturned := State.logGrows.spareRose h

theorem State.logGrows.takeDecline (h : r.logGrows s) : r.logGrows (s.takeDecline c w b) := by
  unfold State.takeDecline
  split
  · exact State.logGrows.offerReturned h
  · exact h

theorem State.logGrows.offerExpired (h : r.logGrows s) : r.logGrows s.offerExpired := by
  unfold State.offerExpired
  split
  · exact h
  · exact State.logGrows.offerReturned h

/-! ### Evaluation and late results (R28 to R30, R78, R152) -/

theorem State.logGrows.combine (h : r.logGrows s) : r.logGrows (s.combine n) := by
  unfold State.combine
  repeat' split
  · exact h
  · exact h.refuseVisit
  · exact h.enterClerkHold
  · exact h.flexStep
  · exact h.giveVerdict

theorem State.logGrows.reserveAndCombine (h : r.logGrows s) : r.logGrows (s.reserveAndCombine n) :=
  State.logGrows.combine (h.kept (by simp))

theorem State.logGrows.evaluate (h : r.logGrows s) : r.logGrows (s.evaluate n) := by
  unfold State.evaluate
  split
  · exact h.reserveAndCombine
  · exact h.enterPlaceHold

theorem State.logGrows.placeFreed (h : r.logGrows s) : r.logGrows s.placeFreed := by
  unfold State.placeFreed
  repeat' split
  · exact h.reserveAndCombine
  · exact h
  · exact h

/-- Only a visit that waits for a loan is held for its lost claim, with a WAIT message. -/
theorem State.logGrows.claimLost (h : r.logGrows s) : r.logGrows (s.claimLost n) := by
  unfold State.claimLost
  dsimp only
  repeat' split
  case h_3 => exact State.logGrows.removeWaiter (State.logGrows.enterClerkHold h)
  all_goals exact h

theorem State.logGrows.takeClaimFrame {x : Text} {key : GatePoint} (h : r.logGrows s) :
    r.logGrows (s.takeClaimFrame c x key) := by
  unfold State.takeClaimFrame
  repeat' split
  case h_3.isTrue => exact State.logGrows.claimLost h
  all_goals exact h

/-! ### Events of the lane (R10, R22 to R26, R41, R42) -/

theorem State.logGrows.loopAOccupied (h : r.logGrows s) : r.logGrows s.loopAOccupied := by
  unfold State.loopAOccupied
  repeat' split
  · exact h
  · exact h
  · exact h.kept (by simp)
  · exact h.kept (by simp)
  · exact h.placeLaneClosed.kept (by simp)
  · exact h.placeLaneClosed.kept (by simp)

theorem State.logGrows.loopSOccupied (h : r.logGrows s) : r.logGrows s.loopSOccupied := by
  unfold State.loopSOccupied
  repeat' split
  · exact h.evaluate
  · exact State.logGrows.evaluate (h.kept (by simp))
  · exact h

theorem State.logGrows.yardLoopXVacated (h : r.logGrows s) : r.logGrows s.yardLoopXVacated := h.kept (by simp)

theorem State.logGrows.loopXVacated (h : r.logGrows s) : r.logGrows s.loopXVacated := by
  unfold State.loopXVacated
  dsimp only
  split
  · exact h.leaveOverExit.yardLoopXVacated
  · exact h.yardLoopXVacated

theorem State.logGrows.exitCheckExpired (h : r.logGrows s) : r.logGrows (s.exitCheckExpired n) := by
  unfold State.exitCheckExpired
  dsimp only
  repeat' split
  · exact h
  · exact State.logGrows.leaveOverExit h
  · exact h
  · exact h

/-- Of the line events four may put something out; the others are silent. -/
theorem State.logGrows.lineEvent {up : Bool} (h : r.logGrows s) : r.logGrows (s.lineEvent l up) := by
  unfold State.lineEvent
  repeat' split
  case h_1 => exact h.loopAOccupied
  case h_5.isFalse => exact h.loopSOccupied
  case h_8.isFalse => exact h.loopXVacated
  all_goals exact h.kept (by simp)

theorem State.logGrows.settleLine {ls : LineSet Bool} (h : r.logGrows s) : r.logGrows (s.settleLine l ls) :=
  State.logGrows.lineEvent h

theorem State.logGrows.pinChange {high : Bool} (h : r.logGrows s) : r.logGrows (s.pinChange l high) := by
  unfold State.pinChange
  dsimp only
  repeat' split
  case h_2.isFalse.isTrue => exact State.logGrows.settleLine h
  all_goals exact h

theorem State.logGrows.debounceExpired (h : r.logGrows s) : r.logGrows (s.debounceExpired l) := by
  unfold State.debounceExpired
  repeat' split
  · exact h
  · exact h.settleLine
  · exact h
  · exact h

/-! ### Clerk decisions and hold timeouts (R35 to R40) -/

theorem State.logGrows.retakeDeferred (h : r.logGrows s) : r.logGrows s.retakeDeferred := by
  unfold State.retakeDeferred
  repeat' split
  · exact h.giveVerdict
  · exact h
  · exact h

theorem State.logGrows.takeRelease (h : r.logGrows s) : r.logGrows (s.takeRelease n) := by
  have hoverridden (v : Visit) : r.logGrows (s.overrideVisit v) := h.kept (by simp)
  have hadmitted (v : Visit) : r.logGrows ((s.overrideVisit v).giveParkedAdmission n v.admission) := h.kept (by simp)
  unfold State.takeRelease
  repeat' split
  · exact h.kept (by simp)
  · exact (hoverridden _).giveVerdict
  · exact (hadmitted _).closeVisit.retakeDeferred
  · exact h.kept (by simp)

theorem State.logGrows.takeRefuse (h : r.logGrows s) : r.logGrows (s.takeRefuse n) := by
  unfold State.takeRefuse
  repeat' split
  · exact h.kept (by simp)
  · exact h.refuseVisit
  · exact State.logGrows.retakeDeferred (State.logGrows.closeVisit h)
  · exact h.kept (by simp)

theorem State.logGrows.expireHold (h : r.logGrows s) : r.logGrows (s.expireHold n) := by
  unfold State.expireHold
  repeat' split
  · exact h
  · exact h.refuseVisit
  · exact h.giveVerdict
  · exact h
  · exact h

theorem State.logGrows.holdTimeout (h : r.logGrows s) : r.logGrows (s.holdTimeout n) := by
  unfold State.holdTimeout
  repeat' split
  · exact h
  · exact h.expireHold
  · exact h

/-! ### A frame sent (R154, R167, R168) -/

theorem State.logGrows.ownerTold {f : TxFrame} (h : r.logGrows s) : r.logGrows (s.ownerTold f) := by
  unfold State.ownerTold
  repeat' split
  · exact State.logGrows.placeFreed h
  · exact h.kept (by simp)
  · exact h
  · exact h

theorem State.logGrows.drainOutbox (h : r.logGrows s) : r.logGrows s.drainOutbox := h.kept (by simp)

theorem State.logGrows.offerOutcome (h : r.logGrows s) : r.logGrows s.offerOutcome := h.kept (by simp)

theorem State.logGrows.sent (h : r.logGrows s) : r.logGrows s.sent := by
  unfold State.sent
  dsimp only
  split
  · exact h
  next e _ =>
    have hput : r.logGrows ((s.setTxQueue (s.bus.txQueue.eraseP (·.sending))).emit (.busFrame (e.frame.bytes s.laneId))) :=
      State.logGrows.emit h
    exact hput.drainOutbox.ownerTold.offerOutcome

/-! ### The clock (R11 to R16) -/

theorem State.logGrows.rollNotice {cls : Nat} (h : r.logGrows s) : r.logGrows (s.rollNotice w cls) := by
  unfold State.rollNotice
  dsimp only
  repeat' split
  all_goals exact State.logGrows.checkWaiters h

theorem State.logGrows.rolls {k : Nat} (h : r.logGrows s) : r.logGrows (State.rolls k s) := by
  induction k generalizing s with
  | zero => exact h
  | succ k ih => exact ih (State.logGrows.rollNotice h)

theorem State.logGrows.carryWindows {d : Int} (h : r.logGrows s) : r.logGrows (s.carryWindows d w) := by
  unfold State.carryWindows
  split
  · exact h.rolls
  · exact State.logGrows.rollNotice h.rolls

theorem State.logGrows.expireHolds {ns : List VisitNumber} (h : r.logGrows s) : r.logGrows (expireHolds ns s) := by
  induction ns generalizing s with
  | nil => exact h
  | cons n ns ih => exact ih h.expireHold

theorem State.logGrows.checkReady (h : r.logGrows s) : r.logGrows s.checkReady := h.kept (by simp)

theorem State.logGrows.takeTime {bs : List Byte} (h : r.logGrows s) : r.logGrows (s.takeTime bs) := by
  unfold State.takeTime
  repeat' split
  · exact h.kept (by simp)
  · exact h.kept (by simp)
  · exact State.logGrows.checkReady (State.logGrows.rollNotice h)
  · exact h
  · exact State.logGrows.expireHolds (State.logGrows.carryWindows h)

theorem State.logGrows.rollDue (h : r.logGrows s) : r.logGrows s.rollDue := by
  unfold State.rollDue
  split
  · exact State.logGrows.rollNotice h
  · exact h

/-! ### Resets (R6, R174 to R176): the queue and the log are not the reset's (log 35) -/

theorem State.logGrows.enterReset {cause : ResetCause} {lost : Nat} (h : r.logGrows s) : r.logGrows (s.enterReset cause lost) := h

theorem State.logGrows.endReset {p : Straps} (h : r.logGrows s) : r.logGrows (s.endReset p) := h.kept (by simp)

theorem State.logGrows.powerUp {high : Bool} {p : Straps} (h : r.logGrows s) : r.logGrows (s.powerUp high p) := by
  unfold State.powerUp
  dsimp only
  split
  · exact State.logGrows.endReset h
  · exact h

theorem State.logGrows.lineResetTaken (h : r.logGrows s) : r.logGrows s.lineResetTaken := by
  unfold State.lineResetTaken
  split <;> exact h

theorem State.logGrows.resetPinRises {p : Straps} (h : r.logGrows s) : r.logGrows (s.resetPinRises p) := by
  unfold State.resetPinRises
  dsimp only
  repeat' split
  · exact h
  · exact State.logGrows.endReset h
  · exact h

theorem State.logGrows.takeResetReq {dest : LaneId} {p : Straps} (h : r.logGrows s) : r.logGrows (s.takeResetReq dest p) := by
  unfold State.takeResetReq
  repeat' split
  · exact h.kept (by simp)
  · exact h.enterReset.endReset
  · exact h

/-! ### Every command -/

theorem State.logGrows.onFrame {fk : FrameKind} {act : RxFrame → State → State} (h : r.logGrows s)
    (hact : ∀ f u, r.logGrows u → r.logGrows (act f u)) : r.logGrows (s.onFrame fk act) :=
  State.onFrame_induct r.logGrows h fun f rest => hact f _ (h.kept (t := s.handedOn f rest) (by simp))

theorem State.logGrows.onLoanFrame {fk : FrameKind} {act : LaneId → Window → Byte → State → State} (h : r.logGrows s)
    (hact : ∀ c w b u, r.logGrows u → r.logGrows (act c w b u)) :
    r.logGrows (s.onFrame fk fun f => State.loanFrame (act f.source) f.payload) :=
  h.onFrame fun f u hu => State.loanFrame_induct r.logGrows hu fun w b => hact f.source w b u hu

theorem State.logGrows.onClerkFrame {fk : FrameKind} {act : VisitNumber → State → State} (h : r.logGrows s)
    (hact : ∀ n u, r.logGrows u → r.logGrows (act n u)) :
    r.logGrows (s.onFrame fk fun f => State.clerkFrame act f.payload) :=
  h.onFrame fun _ u hu => State.clerkFrame_induct r.logGrows (hu.kept (by simp)) fun n => hact n u hu

theorem State.logGrows.exec {i : Instr} (h : r.logGrows s) (hexec : exec i s = .next t) : r.logGrows t := by
  cases i <;> injection hexec with hexec <;> subst hexec
  case powerOn => exact h.powerUp
  case lineReset => exact h.lineResetTaken
  case resetNRelease => exact h.resetPinRises
  case resetReqFrame => exact h.onFrame fun _ _ hu => hu.takeResetReq
  case lineLevelChange => exact h.pinChange
  case debounceExpiry => exact h.debounceExpired
  case windowRoll => exact h.rollDue
  case timeFrame => exact h.onFrame fun _ _ hu => hu.takeTime
  case holdTimeoutExpiry => exact h.holdTimeout
  case releaseFrame => exact h.onClerkFrame fun _ _ hu => hu.takeRelease
  case refuseFrame => exact h.onClerkFrame fun _ _ hu => hu.takeRefuse
  case exitCheckExpiry => exact h.exitCheckExpired
  case plateReport | codeReport | sealReport | helloReport | malformedReport => exact h.readerMessage
  case displayAccept | displayBusy | displayReject => exact h.displayAnswer
  case displayUnusableAnswer => exact h.displayByte
  case answerWaitExpiry => exact h.answerWaitExpired
  case retryWaitExpiry => exact h.retryWaitExpired
  case displayHello => exact h.displayRestarted
  case claimFrame =>
    refine h.onFrame fun _ _ hu => ?_
    unfold State.claimPayload
    split
    · exact hu.takeClaimFrame
    · exact hu
  case loanAskFrame => exact h.onLoanFrame fun _ _ _ _ hu => hu.kept (by simp)
  case loanOfferFrame => exact h.onLoanFrame fun _ _ _ _ hu => hu.kept (by simp)
  case loanTakeFrame => exact h.onLoanFrame fun _ _ _ _ hu => hu.kept (by simp)
  case loanConfirmFrame => exact h.onLoanFrame fun _ _ _ _ hu => hu.takeConfirm
  case loanVoidFrame => exact h.onLoanFrame fun _ _ _ _ hu => hu.takeVoid
  case loanDeclineFrame => exact h.onLoanFrame fun _ _ _ _ hu => hu.takeDecline
  case askDeadlineExpiry => exact h.askDeadline
  case offerExpiry => exact h.offerExpired
  case frameSent => exact h.sent
  case openFrame | closeFrame | bookingFrame | bookingCancelFrame | claimEndFrame | blockNoteFrame | alertClearFrame
    | countersFetchFrame | configFrame =>
    exact h.onFrame fun _ _ hu => hu.kept (by simp)
  all_goals exact h.kept (by simp)

end

/-- No arm faults or refuses. -/
theorem exec_completes (i : Instr) (s : State) : ∃ t, exec i s = .next t := by
  cases i <;> exact ⟨_, rfl⟩

theorem State.withFetchWord_eq (s : State) (nbits w : Nat) : s.withFetchWord nbits w = s := rfl

theorem step_idle {s : State} (hempty : s.pending = []) : step s = .next s := by
  rw [step, hempty]

theorem step_front {s : State} {i : Instr} {rest : List Instr} (hfront : s.pending = i :: rest) :
    step s = exec i { s with pending := rest } := by
  rw [step, hfront]

/-- Settles O1. -/
theorem stepRunsFrontCommand : Obligations.StepRunsFrontCommand := fun _ _ _ hfront => step_front hfront

/-- Settles O2: from any state the log of the next one has only grown, and the queue is the same. -/
theorem everyStepCompletes : Obligations.EveryStepCompletes := by
  refine ⟨fun i s => ?_, fun _ hempty => step_idle hempty, fun s nbits w => ⟨rfl, s.withFetchWord_eq nbits w⟩⟩
  obtain ⟨t, hexec⟩ := exec_completes i s
  obtain ⟨hpending, new, hout⟩ := (State.logGrows.refl s).exec hexec
  exact ⟨t, hexec, hpending, new, hout.symm⟩

end Sys2Proof.Machine
end
